-- ==== Sys2Proof/Word.lean ====
section
/-! DEFINITION. The words of the GL-640: the numbers the manual treats as bits or that wrap, and the two
index types of the part, lanes and sign-module addresses. -/

namespace Sys2Proof

/-- One byte of the corridor bus, the sign link or the maintenance port (chapter Formats). -/
abbrev Byte := BitVec 8

/-- A value of the 16-bit millisecond counter; differences are taken modulo 65536 (R3). -/
abbrev Stamp := BitVec 16

/-- A cycle number or a window sequence number, 0 to 4095 (R38, R20). -/
abbrev Cycle := BitVec 12

/-- A closure generation, 0 to 255 (Introduction, Modular comparisons). -/
abbrev Gen := BitVec 8

/-- A group tag, 0 to 255 (R147). -/
abbrev Tag := BitVec 8

/-- A lane, counted from 0 here: the value `l` is the manual's lane `l + 1`. -/
abbrev Lane := Fin 6

/-- A sign-module address, counted from 0 here: the value `a` is the manual's address `a + 1`. -/
abbrev Addr := Fin 8

end Sys2Proof
end

