-- ==== Sys2Proof/Syntax.lean ====
section
/-! DEFINITION. The commands of the GL-640: one constructor of `Instr` for each row of spec/opcode_table.json,
with the operands a row needs, and the plain types of those operands. A command is an event at one of the part's
connections or the moment at which one of the part's own timers falls due. -/

namespace Sys2Proof

/-- One value for each of the lanes 1 to 6. -/
structure Per6 (α : Type) where
  l1 : α
  l2 : α
  l3 : α
  l4 : α
  l5 : α
  l6 : α
  deriving DecidableEq, Repr

/-- The same value for every lane. -/
def Per6.all {α : Type} (x : α) : Per6 α := ⟨x, x, x, x, x, x⟩

/-- One value for each of the sign-module addresses 1 to 8. -/
structure Per8 (α : Type) where
  m1 : α
  m2 : α
  m3 : α
  m4 : α
  m5 : α
  m6 : α
  m7 : α
  m8 : α
  deriving DecidableEq, Repr

/-- The same value for every address. -/
def Per8.all {α : Type} (x : α) : Per8 α := ⟨x, x, x, x, x, x, x, x⟩

/-- The leading loop A and the trailing loop B of a lane (chapter Loop Inputs). -/
inductive Loop where
  | a
  | b
  deriving DecidableEq, Repr

/-- One value for each loop of a lane. -/
structure Pair (α : Type) where
  a : α
  b : α
  deriving DecidableEq, Repr

/-- The level of a loop input (R2). -/
inductive LoopLevel where
  | clear
  | occupied
  deriving DecidableEq, Repr

/-- The twelve loop inputs as one sample reads them (R2). -/
abbrev LoopSample := Per6 (Pair LoopLevel)

/-- The strap pins as they read at reset release (R179). -/
structure Straps where
  position : BitVec 10
  laneCount : BitVec 3
  spacing : BitVec 2
  first : Bool
  terminal : Bool
  deriving DecidableEq, Repr

/-- A frame found on the corridor bus, as a whole: its bytes from the sync on, and whether it was ended by a
stop bit read dominant and not by the line falling idle (R189). -/
structure RxFrame where
  bytes : List Byte
  framingError : Bool
  deriving DecidableEq, Repr

/-- The commands: one constructor for each row of spec/opcode_table.json, in the table's order. Lanes and
addresses are the manual's numbers (lane 1 to 6, address 1 to 8); `WellFormed` gives the ranges. -/
inductive Instr where
  /-- POWER_APPLIED (R178). -/
  | powerApplied
  /-- RESET_ASSERTED (R178), with the level of KEEP that is sampled. -/
  | resetAsserted (keep : Bool)
  /-- RESET_RELEASED (R179), with the straps and the first sample of the loop inputs (R19). -/
  | resetReleased (straps : Straps) (sample : LoopSample)
  /-- EDGE_RECOGNISED (R2) at one loop of a lane. -/
  | edgeRecognised (lane : Nat) (loop : Loop)
  /-- STUCK_ON (R14) at one loop of a lane. -/
  | stuckOn (lane : Nat) (loop : Loop)
  /-- EDGE_TAKEN (R4). -/
  | edgeTaken
  /-- WINDOW_END (R20). -/
  | windowEnd
  /-- BEAT (R39). -/
  | beat
  /-- ENTRY_STALE (R62) of the entry for a position. -/
  | entryStale (position : Nat)
  /-- ENTRY_REMOVED (R62) of the entry for a position. -/
  | entryRemoved (position : Nat)
  /-- CLASH_CLEARED (R46). -/
  | clashCleared
  /-- TRANSMISSION_START (R40), with the idle bit times that have passed without a break since the model's last
  line event. -/
  | transmissionStart (idleBits : Nat)
  /-- FRAME_SENT (R41). -/
  | frameSent
  /-- COLLISION (R41). -/
  | collision
  /-- BACKOFF_END (R42). -/
  | backoffEnd
  /-- STATE_RECEIVED (R48): a frame whose kind byte is 01h. -/
  | stateReceived (frame : RxFrame)
  /-- ANNOUNCE_RECEIVED (R50): a frame whose kind byte is 02h. -/
  | announceReceived (frame : RxFrame)
  /-- CLOSE_RECEIVED (R100): a frame whose kind byte is 03h. -/
  | closeReceived (frame : RxFrame)
  /-- RELEASE_RECEIVED (R103): a frame whose kind byte is 04h. -/
  | releaseReceived (frame : RxFrame)
  /-- CEILING_RECEIVED (R80): a frame whose kind byte is 05h. -/
  | ceilingReceived (frame : RxFrame)
  /-- ORPHAN_CLEAR_RECEIVED (R104): a frame whose kind byte is 06h. -/
  | orphanClearReceived (frame : RxFrame)
  /-- CEILING_EXPIRY (R81) of the ceiling record with an id. -/
  | ceilingExpiry (id : Nat)
  /-- CLOSURE_EXPIRY (R97) of the live record with an id. -/
  | closureExpiry (id : Nat)
  /-- TOMBSTONE_EXPIRY (R96) of the tombstone with an id. -/
  | tombstoneExpiry (id : Nat)
  /-- REFUSED_LIFETIME_EXPIRY (R102) of a refused id. -/
  | refusedLifetimeExpiry (id : Nat)
  /-- LEAD_WAIT_EXPIRY (R117) of the AT record with an id. -/
  | leadWaitExpiry (id : Nat)
  /-- CLEAR_WAIT_EXPIRY (R123) of the LEAD record with an id. -/
  | clearWaitExpiry (id : Nat)
  /-- TRANSACTION_START (R159). -/
  | transactionStart
  /-- REPLY_TIMEOUT (R157). -/
  | replyTimeout
  /-- IDENT_COMPLETE (R160), with the bytes of the reply. -/
  | identComplete (reply : List Byte)
  /-- SET_COMPLETE (R162), with the bytes of the reply. -/
  | setComplete (reply : List Byte)
  /-- PROOF_COMPLETE (R164), with the bytes of the reply. -/
  | proofComplete (reply : List Byte)
  /-- REFRESH_COMPLETE (R167), with the bytes of the reply. -/
  | refreshComplete (reply : List Byte)
  /-- BLANK_COMPLETE (R161), with the bytes of the reply. -/
  | blankComplete (reply : List Byte)
  /-- PROOF_POLL_DUE (R163) of the module at an address. -/
  | proofPollDue (address : Nat)
  /-- REFRESH_DUE (R167) of the module at an address. -/
  | refreshDue (address : Nat)
  /-- IDENT_RETRY_DUE (R170) of the module at an address. -/
  | identRetryDue (address : Nat)
  /-- DISCOVERY_PROOF_TIMEOUT (R161) of the module at an address. -/
  | discoveryProofTimeout (address : Nat)
  /-- HOLDREQ_ASSERTED (R171). -/
  | holdreqAsserted
  /-- HOLDREQ_DROPPED (R173). -/
  | holdreqDropped
  /-- JOIN_END (R183). -/
  | joinEnd
  /-- REQUEST_BYTE (R186), with the byte received at the maintenance port. -/
  | requestByte (byte : Byte)
  /-- REQUEST_GAP_TIMEOUT (R186). -/
  | requestGapTimeout
  /-- REPLY_END (R187). -/
  | replyEnd
  /-- MILLISECOND_COUNTER_INCREMENT (R2), with the sample of the loop inputs. -/
  | millisecondCounterIncrement (sample : LoopSample)
  /-- LINE_ACTIVITY_NOT_A_FRAME (R189), with the first byte of the activity. -/
  | lineActivityNotAFrame (firstByte : Byte)
  /-- DISCOVERY_PROOF_RESEND_DUE (R161) of the module at an address. -/
  | discoveryProofResendDue (address : Nat)
  deriving DecidableEq, Repr

end Sys2Proof
end

