-- ==== Sys2Proof/Decode.lean ====
section
/-! DEFINITION. The reading of table words. No row of spec/opcode_table.json gives bits ("fields" is empty and there is
no "fixed" in any row), so no word spells a command. The bytes that the corridor bus, the sign link and the maintenance
port carry are decoded by the part itself: Machine/Frames.lean, Machine/Replies.lean and Machine/Port.lean. -/

namespace Sys2Proof

/-- The command that a word of `nbits` bits spells by the table: none, since no row of the table has bits. -/
def decodeTableWord (_nbits _w : Nat) : Option Instr := none

end Sys2Proof
end

