-- ==== Sys2Proof/Config.lean ====
section
/-! DEFINITION. What the manual leaves open: the free values. They are opaque, so nothing can be proved of
them, and a statement about a state that holds one is true whatever it is. -/

namespace Sys2Proof

/-- The arbiter's choice among several items that are due together where R159 gives no order between modules
(failure blanks, IDENT retries, REFRESH). Applied to the state's own count of such choices; the model takes
the value modulo the number of candidates. Assumption 9. -/
opaque Config.choice : Nat → Nat

/-- The four bytes by which a negative offset of a neighbour is sent in a NEIGHBOURS snapshot: R192 says that
fields are unsigned numbers and gives no coding of the offsets -6 to -1. Applied to the offset's magnitude. Assumption 10. -/
opaque Config.negativeOffset : Nat → BitVec 32

end Sys2Proof
end

