-- ==== Sys2Proof/Machine/State.lean ====
section
/-! DEFINITION. The state of the GL-640: every table, timer, flag, queue and level the manual gives each of its ten
blocks, as plain data, and the state right after power is applied. The last three fields of `State` and the fields
marked as the model's own are not the manual's. -/

namespace Sys2Proof.Machine

/-! ### Values shared by several blocks -/

/-- The speed set V (Introduction); `unlimited` is the manual's NONE. -/
inductive Limit where
  | v40
  | v50
  | v60
  | v80
  | v100
  | unlimited
  deriving DecidableEq, Repr

/-- The aspects of lane modules, the legend panel and the lantern pair (chapter Formats, in the order of their codes). -/
inductive Aspect where
  | blank
  | speed40
  | speed50
  | speed60
  | speed80
  | speed100
  | endSign
  | arrowL
  | arrowR
  | redX
  | queue
  | incident
  | laneClosed
  | roadClosed
  | off
  | flash
  deriving DecidableEq, Repr

/-- A measured speed: a number in km/h, or EMPTY (R31, R32). -/
inductive SpeedValue where
  | empty
  | kmh (v : Nat)
  deriving DecidableEq, Repr

/-! ### Start-up Sequencer (STU) -/

/-- Station state (chapter Start-up). -/
inductive StationState where
  | inReset
  | discover
  | join
  | run
  | stopped
  deriving DecidableEq, Repr

/-- Restart kind (R178). -/
inductive RestartKind where
  | cold
  | keep
  deriving DecidableEq, Repr

/-- Strap validity (R179). -/
inductive StrapValidity where
  | valid
  | badPosition
  | badLaneCount
  | both
  deriving DecidableEq, Repr

/-- What STU holds (chapter Start-up): `joinTimer` is present in JOIN; `runLit` and `faultLit` are the RUN and FAULT outputs. -/
structure Stu where
  station : StationState
  restart : RestartKind
  straps : Straps
  validity : StrapValidity
  joinTimer : Option Nat
  runLit : Bool
  faultLit : Bool
  deriving DecidableEq, Repr

/-- STU in RESET after power is applied (R178). The straps before the first release are the model's (assumption 1). -/
def Stu.reset : Stu :=
  { station := .inReset, restart := .cold, straps := ⟨0#10, 0#3, 0#2, false, false⟩, validity := .valid,
    joinTimer := none, runLit := false, faultLit := false }

/-! ### Loop Interface (LPI) -/

/-- Fault state of a loop (section Loop faults). -/
inductive FaultState where
  | sound
  | faulty
  | recovering
  deriving DecidableEq, Repr

/-- Fault kind of a FAULTY loop (section Loop faults). -/
inductive FaultKind where
  | stuckOn
  | stuckOff
  | chatter
  deriving DecidableEq, Repr

/-- What LPI holds for one loop: debounce (R2) and fault fields (section Loop faults). `occupyTime` is the time of
the loop's last OCCUPY, which R16 subtracts from the CLEAR time. -/
structure LoopState where
  level : LoopLevel
  candidate : Option Stamp
  fault : FaultState
  kind : Option FaultKind
  occupiedMs : Nat
  partnerWhileOccupied : Nat
  partnerWhileClear : Nat
  shortOccupancies : Nat
  cleanWindow : Bool
  occupyTime : Stamp
  deriving DecidableEq, Repr

/-- The values of R19; `occupyTime` is 0, as though an OCCUPY had been recognised at the first sample (assumption 18).
R19 gives the level of the first sample; CLEAR, where no sample is taken (RESET, STOPPED), is the model's (assumption 27). -/
def LoopState.reset : LoopState :=
  { level := .clear, candidate := none, fault := .sound, kind := none, occupiedMs := 0, partnerWhileOccupied := 0,
    partnerWhileClear := 0, shortOccupancies := 0, cleanWindow := true, occupyTime := 0#16 }

/-- Kind of an edge (R2). -/
inductive EdgeKind where
  | occupy
  | clear
  deriving DecidableEq, Repr

/-- An edge of the edge queue (section The edge queue). -/
structure Edge where
  lane : Lane
  loop : Loop
  kind : EdgeKind
  time : Stamp
  deriving DecidableEq, Repr

/-- What LPI holds: the millisecond counter (R3), the loops (R2), the edge queue, head first (R4). -/
structure Lpi where
  ms : Stamp
  loops : Per6 (Pair LoopState)
  queue : List Edge
  deriving DecidableEq, Repr

/-- The values of R19. -/
def Lpi.reset : Lpi :=
  { ms := 0#16, loops := Per6.all ⟨LoopState.reset, LoopState.reset⟩, queue := [] }

/-! ### Measurement Unit (MSU) -/

/-- State of a pairing machine (R7). -/
inductive PairState where
  | empty
  | aOn
  | abOn
  | bOn
  | resync
  deriving DecidableEq, Repr

/-- The vehicle in progress of a pairing machine (R7). -/
structure Vehicle where
  tA : Option Stamp
  tB : Option Stamp
  counted : Bool
  deriving DecidableEq, Repr

/-- A vehicle record (R13). -/
structure VehicleRecord where
  lane : Lane
  time : Stamp
  speed : Option Nat
  deriving DecidableEq, Repr

/-- An open occupancy interval (R12). `beforeWindow`: it was already open when the current window opened (R23). -/
structure Interval where
  loop : Loop
  start : Stamp
  beforeWindow : Bool
  deriving DecidableEq, Repr

/-- The accumulator of a current window (R21). -/
structure Accum where
  seq : Cycle
  count : Nat
  speedCount : Nat
  speedSum : Nat
  occMs : Nat
  creditedTo : Stamp
  closedSeen : Bool
  startSeen : Bool
  overflowSeen : Bool
  faultSeen : Bool
  recoverySeen : Bool
  singleSeen : Bool
  deriving DecidableEq, Repr

/-- Mark of a window record (R27). -/
inductive Mark where
  | valid
  | countOnly
  | recovery
  | loopFault
  | overflow
  | start
  | closed
  deriving DecidableEq, Repr

/-- A window record (R28). -/
structure WindowRecord where
  seq : Cycle
  count : Nat
  speedCount : Nat
  speedSum : Nat
  occMs : Nat
  occ : Nat
  mark : Mark
  deriving DecidableEq, Repr

/-- The fast values of a lane whose fast state is VALID (R31). -/
structure Fast where
  speed : SpeedValue
  occ : Nat
  deriving DecidableEq, Repr

/-- The slow values of a slow-valid lane (R32). -/
structure Slow where
  speed : SpeedValue
  occ : Nat
  flow : Nat
  deriving DecidableEq, Repr

/-- A VALID carriageway measurement (R33, R34). -/
structure Carriage where
  speed : SpeedValue
  occ : Nat
  deriving DecidableEq, Repr

/-- What MSU holds for one lane: pairing machine (R7), occupancy interval (R12), current window (R21), ring, oldest
first (R29), fast values (`none` is INVALID, R31) and slow values (`none` is not slow-valid, R32). -/
structure LaneState where
  pairing : PairState
  vehicle : Option Vehicle
  pairedCount : Nat
  interval : Option Interval
  window : Option Accum
  ring : List WindowRecord
  fast : Option Fast
  slow : Option Slow
  deriving DecidableEq, Repr

/-- The values of R19 and R36. -/
def LaneState.reset : LaneState :=
  { pairing := .resync, vehicle := none, pairedCount := 0, interval := none, window := none, ring := [],
    fast := none, slow := none }

/-- What MSU holds: the lanes, the window timer (time left in the current window; `none` is stopped, R20), the next
window sequence number, and the carriageway measurement (`none` is INVALID, R34). -/
structure Msu where
  lanes : Per6 LaneState
  windowTimer : Option Nat
  nextSeq : Cycle
  carriage : Option Carriage
  deriving DecidableEq, Repr

/-- The values of R19 and R36. -/
def Msu.reset : Msu :=
  { lanes := Per6.all LaneState.reset, windowTimer := none, nextSeq := 0#12, carriage := none }

/-! ### Closures as frames carry them -/

/-- Stage of a closure record (chapter Closure Records). -/
inductive Stage where
  | waitLead
  | setting
  | proven
  | degraded
  | waitClear
  | released
  deriving DecidableEq, Repr

/-- Role of a station in a closure (R99). -/
inductive Role where
  | atAnchor
  | lead1
  | lead2
  | lead3
  deriving DecidableEq, Repr

/-- A closure entry of a full STATE frame (R54). -/
structure ClosureEntry where
  id : Nat
  gen : Gen
  anchor : Nat
  firstLane : Nat
  width : Nat
  leadIn : Nat
  leadSpeed : Limit
  stage : Stage
  minutes : Nat
  fullClosure : Bool
  pendingMod : Bool
  substituting : Bool
  deriving DecidableEq, Repr

/-- Lane status of a STATE frame (R52). -/
inductive LaneStatus where
  | proven
  | changing
  | failed
  | limited
  | atFailed
  | orphan
  deriving DecidableEq, Repr

/-- One lane entry of a STATE frame (R52). -/
structure LaneEntry where
  aspect : Aspect
  status : LaneStatus
  deriving DecidableEq, Repr

/-- A STATE frame as fields (R51 to R54). FULL is set when `entries` is present. The carriageway speed and
occupancy stand as their codes (chapter Formats), because no receiver uses them (R57). -/
structure StateFrame where
  sender : Nat
  cycle : Cycle
  joining : Bool
  queue : Bool
  measInvalid : Bool
  isolatedDown : Bool
  signsDown : Bool
  clash : Bool
  tableFull : Bool
  target : Limit
  posted : Limit
  laneCount : Nat
  version : Byte
  speedCode : Byte
  occCode : BitVec 16
  lanes : List LaneEntry
  entries : Option (List ClosureEntry)
  deriving DecidableEq, Repr

/-! ### Corridor Link (CRL) -/

/-- Access phase (section Medium access). -/
inductive AccessPhase where
  | quiet
  | waitIdle
  | sending
  | backoff
  deriving DecidableEq, Repr

/-- A frame of the station's own: an ANNOUNCE (R49) or a STATE frame (R51). -/
inductive OwnFrame where
  | announce (sender : Nat) (cycle : Cycle) (kind : RestartKind)
  | state (f : StateFrame)
  deriving DecidableEq, Repr

/-- A composed frame; `answersOwed` says that it was composed after "full frame owed" was last set (R54). -/
structure TxFrame where
  frame : OwnFrame
  answersOwed : Bool
  deriving DecidableEq, Repr

/-- Whether the receiver may find a frame, or waits for the line to fall idle after activity that is not one (R189). -/
inductive Receiver where
  | ready
  | awaitIdle
  deriving DecidableEq, Repr

/-- What CRL holds. `beatTimer` is the time to the next beat (`none` is stopped, R38) and `firstBeat` that no beat has
fallen yet. `idleBits` counts the idle bit times since the last line event, as far as the commands tell them (R40). -/
structure Crl where
  beatTimer : Option Nat
  firstBeat : Bool
  cycle : Cycle
  version : Byte
  previousList : Option (List ClosureEntry)
  repeatCount : Nat
  fullOwed : Bool
  announceOwed : Bool
  clash : Bool
  clashTimer : Nat
  phase : AccessPhase
  pendingFrame : Option TxFrame
  nextFrame : Option TxFrame
  attempt : Nat
  backoff : Nat
  receiver : Receiver
  idleBits : Nat
  deriving DecidableEq, Repr

/-- The values of R55. The clash timer is not counting then; that it stands at 0 is the model's choice (assumption 29). -/
def Crl.reset : Crl :=
  { beatTimer := none, firstBeat := true, cycle := 0#12, version := 0#8, previousList := none, repeatCount := 0,
    fullOwed := false, announceOwed := false, clash := false, clashTimer := 0, phase := .quiet, pendingFrame := none,
    nextFrame := none, attempt := 0, backoff := 0, receiver := .ready, idleBits := 0 }

/-! ### Neighbour Table (NBT) -/

/-- One item of a closure summary (R56). -/
structure SummaryItem where
  id : Nat
  gen : Gen
  stage : Stage
  deriving DecidableEq, Repr

/-- An entry of the Neighbour Table (R56). `cycle` is the held cycle number, `summary` is `none` for UNKNOWN.
`staleDue` is the model's own: the entry's age has reached 4 and ENTRY_STALE has not been taken yet (assumption 5). -/
structure Neighbour where
  position : Nat
  cycle : Option Cycle
  age : Nat
  restart : Option RestartKind
  joining : Bool
  queue : Bool
  measInvalid : Bool
  isolatedDown : Bool
  signsDown : Bool
  clash : Bool
  tableFull : Bool
  target : Limit
  posted : Limit
  laneCount : Nat
  lanes : List LaneEntry
  version : Byte
  summary : Option (List SummaryItem)
  staleDue : Bool
  deriving DecidableEq, Repr

/-! ### Speed Computer (SPC) -/

/-- An operator ceiling record (section Stage 5). `expiry` is the time to expiry in ms. -/
structure Ceiling where
  id : Nat
  first : Nat
  last : Nat
  limit : Limit
  incident : Bool
  expiry : Nat
  deriving DecidableEq, Repr

/-- The stage values of the last recomputation (R94). -/
structure StageValues where
  l1 : Limit
  d : Option Nat
  lq : Limit
  lc : Limit
  lop : Limit
  c : Limit
  c2 : Limit
  deriving DecidableEq, Repr

/-- What SPC holds. Its placed requests stand in the request table, under the source `spc`; `Speed.placed` reads them. -/
structure Spc where
  target : Limit
  raiseStreak : Nat
  held : Nat
  queueFlag : Bool
  clearStreak : Nat
  ceilings : List Ceiling
  isolatedDown : Bool
  posted : Limit
  signsDown : Bool
  stages : Option StageValues
  deriving DecidableEq, Repr

/-- The values of R93; T is 60, the start limit. -/
def Spc.reset : Spc :=
  { target := .v60, raiseStreak := 0, held := 0, queueFlag := false, clearStreak := 0, ceilings := [],
    isolatedDown := false, posted := .v60, signsDown := false, stages := none }

/-! ### Closure Table (CLT) -/

/-- A closure in form (R98), as a CLOSE frame, an adopted entry or a pending modification carries it (R115).
`minutes` is the duration or the remaining minutes, 0 until released. -/
structure Closure where
  id : Nat
  gen : Gen
  anchor : Nat
  firstLane : Nat
  width : Nat
  leadIn : Nat
  leadSpeed : Limit
  minutes : Nat
  deriving DecidableEq, Repr

/-- A closure record (chapter Closure Records, R115). `expiry` is `none` for UNTIL_RELEASED; `tombTime` is present in
tombstones. PENDING_MOD is `pendingMod` present and SUBSTITUTING is `substitution` not empty (R115).
`legendWaits` says that the ROAD_CLOSED legend waits with the lanes awaiting lead (R127). -/
structure ClosureRecord where
  id : Nat
  gen : Gen
  anchor : Nat
  firstLane : Nat
  width : Nat
  leadIn : Nat
  leadSpeed : Limit
  role : Option Role
  localLanes : List Lane
  fullClosure : Bool
  stage : Stage
  expiry : Option Nat
  tombTime : Option Nat
  waitTime : Option Nat
  awaiting : List Lane
  legendWaits : Bool
  substitution : List (Lane × Aspect)
  pendingMod : Option Closure
  deriving DecidableEq, Repr

/-- A refused id and its lifetime in ms (R102). -/
structure Refused where
  id : Nat
  lifetime : Nat
  deriving DecidableEq, Repr

/-- What CLT holds: the records in ascending order of id, the refused list, oldest first, and the orphan set in lane order. -/
structure Clt where
  records : List ClosureRecord
  refused : List Refused
  orphans : List Lane
  deriving DecidableEq, Repr

/-- The values of R113. -/
def Clt.reset : Clt := { records := [], refused := [], orphans := [] }

/-! ### Aspect Arbiter (ASA) -/

/-- The levels of lane modules and of the legend module (R139). -/
inductive Level where
  | closed
  | divert
  | speed
  | endSign
  | default
  | roadClosed
  | laneClosed
  | incident
  | queue
  | blank
  deriving DecidableEq, Repr

/-- The source of a request (R139). -/
inductive Source where
  | default
  | spc
  | closure (id anchor : Nat)
  | substitution (id anchor : Nat)
  | orphan (lane : Lane)
  | enclosed
  deriving DecidableEq, Repr

/-- A request of the request table: the level whose slot it stands in, its source and its aspect (R139). -/
structure Request where
  level : Level
  source : Source
  aspect : Aspect
  deriving DecidableEq, Repr

/-- What ASA holds for one module: the request row, as one list of the requests of its slots, highest level first;
base winner (lane modules only), winner, displayable form with its LIMITED mark, ordered aspect. -/
structure Display where
  row : List Request
  baseWinner : Option Aspect
  winner : Aspect
  form : Aspect
  limited : Bool
  ordered : Aspect
  deriving DecidableEq, Repr

/-- Kind of a change group. -/
inductive GroupKind where
  | urgent
  | normal
  deriving DecidableEq, Repr

/-- An entry of a change group. -/
structure ChangeEntry where
  addr : Addr
  aspect : Aspect
  limited : Bool
  sent : Bool
  deriving DecidableEq, Repr

/-- A change group; `beingSent` is the sending state BEING_SENT. Its entries stand in ascending order of address. -/
structure Group where
  kind : GroupKind
  tag : Tag
  beingSent : Bool
  entries : List ChangeEntry
  deriving DecidableEq, Repr

/-- What ASA holds: the modules, the change queue, head first, the next group tag. -/
structure Asa where
  modules : Per8 Display
  queue : List Group
  nextTag : Tag
  deriving DecidableEq, Repr

/-- A lane module's values after reset (R154). -/
def Display.laneReset : Display :=
  { row := [⟨.default, .default, .blank⟩], baseWinner := some .blank, winner := .blank, form := .blank,
    limited := false, ordered := .blank }

/-- The lantern pair's values after reset (R154). -/
def Display.lanternReset : Display :=
  { row := [], baseWinner := none, winner := .off, form := .off, limited := false, ordered := .off }

/-- The legend panel's values after reset (R154). -/
def Display.legendReset : Display :=
  { row := [⟨.blank, .default, .blank⟩], baseWinner := none, winner := .blank, form := .blank, limited := false,
    ordered := .blank }

/-- The values of R154. -/
def Asa.reset : Asa :=
  { modules := ⟨.laneReset, .laneReset, .laneReset, .laneReset, .laneReset, .laneReset, .lanternReset, .legendReset⟩,
    queue := [], nextTag := 0#8 }

/-! ### Sign Link Controller (SLC) -/

/-- State of a module table entry. -/
inductive ModuleState where
  | absent
  | ready
  | changing
  | failed
  deriving DecidableEq, Repr

/-- Kind of a module (chapter The Sign Link). -/
inductive ModuleKind where
  | lane
  | lantern
  | legend
  deriving DecidableEq, Repr

/-- Health of a PROOF reply. -/
inductive Health where
  | ok
  | degraded
  | fail
  deriving DecidableEq, Repr

/-- What discovery has recorded of an address; the model's own, since R160 gives "found" no module state (assumption 6). -/
inductive Discovered where
  | unknown
  | notFound
  | found
  deriving DecidableEq, Repr

/-- An entry of the module table. `repertoire` has bit k set when the module can show the aspect of code k (R191).
`sinceSetEnd` is the time since SET end. `identTimer` is the IDENT retry timer, `answered` the recovery ANSWERED,
`blankOwed` the failure blank owed, `wrongKind` the kind byte of a wrong-kind IDENT reply. `pollDue`, `refreshDue` and
`identDue` say that an item is due (R159). `discoveryLit` is the lit aspect of the discovery PROOF reply (R161). -/
structure Module where
  state : ModuleState
  kind : Option ModuleKind
  repertoire : BitVec 16
  blankUnits : Option Nat
  rampExponent : Option Nat
  sent : Option Aspect
  sentTag : Option Tag
  limited : Bool
  proven : Option Aspect
  health : Option Health
  sinceSetEnd : Option Nat
  nextPoll : Option Nat
  refresh : Option Nat
  identTimer : Option Nat
  answered : Bool
  blankOwed : Bool
  wrongKind : Option Byte
  discovered : Discovered
  discoveryLit : Option Aspect
  pollDue : Bool
  refreshDue : Bool
  identDue : Bool
  deriving DecidableEq, Repr

/-- The values of R176. -/
def Module.reset : Module :=
  { state := .absent, kind := none, repertoire := 0#16, blankUnits := none, rampExponent := none, sent := none,
    sentTag := none, limited := false, proven := none, health := none, sinceSetEnd := none, nextPoll := none,
    refresh := none, identTimer := none, answered := false, blankOwed := false, wrongKind := none,
    discovered := .unknown, discoveryLit := none, pollDue := false, refreshDue := false, identDue := false }

/-- A sign-link command (section Transactions). -/
inductive LinkCommand where
  | ident
  | set (aspect : Aspect) (tag : Tag)
  | proof
  | refresh
  | blank
  deriving DecidableEq, Repr

/-- What a transaction is for: an item of R159. A group SET keeps the LIMITED mark of its entry, a poll its index. -/
inductive Purpose where
  | discovery
  | groupSet (limited : Bool)
  | proofRound
  | failureBlank
  | poll (index : Nat)
  | identRetry
  | refresh
  deriving DecidableEq, Repr

/-- A transaction: the address, the command, what it is for, whether it is the retry (R158). -/
structure Transaction where
  addr : Addr
  command : LinkCommand
  purpose : Purpose
  isRetry : Bool
  deriving DecidableEq, Repr

/-- Link state (section The module table). -/
inductive LinkState where
  | owned
  | held
  deriving DecidableEq, Repr

/-- Discovery in progress (R160, R161): the addresses still to be sent IDENT, then the found modules still to be dealt
with, the first of them being the one under way. `firstReply` and `lastReply` are the times since the first and since
the last TRANSITION reply of that module, `proofDue` says that its BLANK or PROOF is due. -/
structure Discovery where
  identing : List Addr
  acting : List Addr
  firstReply : Option Nat
  lastReply : Option Nat
  proofDue : Bool
  deriving DecidableEq, Repr

/-- What SLC holds: the module table, the link state, the levels of HOLDREQ and HOLDACK, the pending hold, the
transaction in progress, the retry owed at the next boundary (R158), discovery, and the modules that a proof round has
still to poll (R173). -/
structure Slc where
  modules : Per8 Module
  link : LinkState
  holdReq : Bool
  holdAck : Bool
  holdPending : Bool
  transaction : Option Transaction
  retry : Option Transaction
  discovery : Option Discovery
  round : Option (List Addr)
  deriving DecidableEq, Repr

/-- The values of R176 at reset assertion. -/
def Slc.reset : Slc :=
  { modules := Per8.all Module.reset, link := .owned, holdReq := false, holdAck := false, holdPending := false,
    transaction := none, retry := none, discovery := none, round := none }

/-! ### Maintenance Port (MPT) -/

/-- The five snapshots (R187). -/
inductive Snapshot where
  | station
  | measurement
  | neighbours
  | closures
  | signs
  deriving DecidableEq, Repr

/-- The reasons of a refusal byte (R186). -/
inductive PortRefusal where
  | unknown
  | check
  | length
  deriving DecidableEq, Repr

/-- Port phase (section The maintenance port); `refusing` is the time in which a refusal byte is being sent (R186). -/
inductive PortPhase where
  | idle
  | receiving
  | replying
  | refusing (r : PortRefusal)
  deriving DecidableEq, Repr

/-- What MPT holds: the port phase, the bytes received so far, the current request with the copy taken for it, as the
bytes of its reply (R187, R192). -/
structure Mpt where
  phase : PortPhase
  received : List Byte
  request : Option (Snapshot × List Byte)
  deriving DecidableEq, Repr

/-- The values of R188. -/
def Mpt.reset : Mpt := { phase := .idle, received := [], request := none }

/-! ### The whole part -/

/-- The state of the part, block by block, then the model's own fields: the commands that wait, first in first out,
and the count of free choices made so far (`Config.choice`). -/
structure State where
  stu : Stu
  lpi : Lpi
  msu : Msu
  crl : Crl
  nbt : List Neighbour
  spc : Spc
  clt : Clt
  asa : Asa
  slc : Slc
  mpt : Mpt
  pending : List Instr
  choices : Nat
  deriving DecidableEq, Repr

/-- The part after power is applied, held in RESET (R178), every block at its values after reset (R19, R36, R55, R69,
R93, R113, R137, R154, R176, R188). `choices` starts at 0 (DESIGN CHOICE, assumption 9). -/
def State.reset : State :=
  { stu := Stu.reset, lpi := Lpi.reset, msu := Msu.reset, crl := Crl.reset, nbt := [], spc := Spc.reset,
    clt := Clt.reset, asa := Asa.reset, slc := Slc.reset, mpt := Mpt.reset, pending := [], choices := 0 }

/-- The reasons for which a command could stop the machine with a fault: none. Every event of the table is handled by
the part (the manual gives no fault that stops it), so this type has no constructor; safe. -/
inductive Fault where
  deriving DecidableEq, Repr

/-- The reasons for which a command has no meaning in the model. -/
inductive Refusal where
  /-- Raised by `exec` for a command that is not modelled yet, with its mnemonic; no command is. Safe. -/
  | notModelled (mnemonic : String)
  deriving DecidableEq, Repr

end Sys2Proof.Machine
end

