-- ==== Sys2Proof/WellFormed.lean ====
section
/-! DEFINITION. Which commands are well formed: the ranges the manual gives their operands. -/

namespace Sys2Proof

/-- The sync byte that opens a corridor frame (R189). -/
def syncByte : Byte := 0xA5#8

/-- A frame found on the bus with a given kind byte: it opens with the sync byte (R189), and its second byte, where
there is one, is the kind of the row. -/
def RxFrame.wellFormed (kind : Byte) (f : RxFrame) : Bool :=
  f.bytes.head? == some syncByte && (f.bytes[1]?.getD kind == kind)

/-- The operand ranges: lanes 1 to 6 (R1), positions 1 to 999 (R56), ceiling ids 1 to 15 (R79), closure ids 1 to 255
(chapter Closure Records), addresses 1 to 8 (chapter The Sign Link), a first byte that is not the sync (R189). -/
def Instr.wellFormed : Instr → Bool
  | .powerApplied => true
  | .resetAsserted _ => true
  | .resetReleased _ _ => true
  | .edgeRecognised lane _ => 1 ≤ lane && lane ≤ 6
  | .stuckOn lane _ => 1 ≤ lane && lane ≤ 6
  | .edgeTaken => true
  | .windowEnd => true
  | .beat => true
  | .entryStale p => 1 ≤ p && p ≤ 999
  | .entryRemoved p => 1 ≤ p && p ≤ 999
  | .clashCleared => true
  | .transmissionStart _ => true
  | .frameSent => true
  | .collision => true
  | .backoffEnd => true
  | .stateReceived f => f.wellFormed 0x01#8
  | .announceReceived f => f.wellFormed 0x02#8
  | .closeReceived f => f.wellFormed 0x03#8
  | .releaseReceived f => f.wellFormed 0x04#8
  | .ceilingReceived f => f.wellFormed 0x05#8
  | .orphanClearReceived f => f.wellFormed 0x06#8
  | .ceilingExpiry id => 1 ≤ id && id ≤ 15
  | .closureExpiry id => 1 ≤ id && id ≤ 255
  | .tombstoneExpiry id => 1 ≤ id && id ≤ 255
  | .refusedLifetimeExpiry id => 1 ≤ id && id ≤ 255
  | .leadWaitExpiry id => 1 ≤ id && id ≤ 255
  | .clearWaitExpiry id => 1 ≤ id && id ≤ 255
  | .transactionStart => true
  | .replyTimeout => true
  | .identComplete _ => true
  | .setComplete _ => true
  | .proofComplete _ => true
  | .refreshComplete _ => true
  | .blankComplete _ => true
  | .proofPollDue a => 1 ≤ a && a ≤ 8
  | .refreshDue a => 1 ≤ a && a ≤ 8
  | .identRetryDue a => 1 ≤ a && a ≤ 8
  | .discoveryProofTimeout a => 1 ≤ a && a ≤ 8
  | .holdreqAsserted => true
  | .holdreqDropped => true
  | .joinEnd => true
  | .requestByte _ => true
  | .requestGapTimeout => true
  | .replyEnd => true
  | .millisecondCounterIncrement _ => true
  | .lineActivityNotAFrame b => b != syncByte
  | .discoveryProofResendDue a => 1 ≤ a && a ≤ 8

end Sys2Proof
end

