-- ==== Sys2Proof/Machine/Ops.lean ====
section
/-! DEFINITION. The named operations of the model: the tables of lanes and addresses, the speed set V, aspects and
their ranks and codes, modular comparisons, and the reads and writes of the state that every block uses. -/

namespace Sys2Proof

/-- The value of a lane. -/
def Per6.get {α : Type} (t : Per6 α) (l : Lane) : α :=
  if l.val = 0 then t.l1 else if l.val = 1 then t.l2 else if l.val = 2 then t.l3
  else if l.val = 3 then t.l4 else if l.val = 4 then t.l5 else t.l6

/-- The table with the value of one lane replaced. -/
def Per6.set {α : Type} (t : Per6 α) (l : Lane) (x : α) : Per6 α :=
  if l.val = 0 then { t with l1 := x } else if l.val = 1 then { t with l2 := x } else if l.val = 2 then { t with l3 := x }
  else if l.val = 3 then { t with l4 := x } else if l.val = 4 then { t with l5 := x } else { t with l6 := x }

/-- The table that holds `f l` for each lane `l`. -/
def Per6.build {α : Type} (f : Lane → α) : Per6 α := ⟨f 0, f 1, f 2, f 3, f 4, f 5⟩

/-- The value of an address. -/
def Per8.get {α : Type} (t : Per8 α) (a : Addr) : α :=
  if a.val = 0 then t.m1 else if a.val = 1 then t.m2 else if a.val = 2 then t.m3 else if a.val = 3 then t.m4
  else if a.val = 4 then t.m5 else if a.val = 5 then t.m6 else if a.val = 6 then t.m7 else t.m8

/-- The table with the value of one address replaced. -/
def Per8.set {α : Type} (t : Per8 α) (a : Addr) (x : α) : Per8 α :=
  if a.val = 0 then { t with m1 := x } else if a.val = 1 then { t with m2 := x } else if a.val = 2 then { t with m3 := x }
  else if a.val = 3 then { t with m4 := x } else if a.val = 4 then { t with m5 := x } else if a.val = 5 then { t with m6 := x }
  else if a.val = 6 then { t with m7 := x } else { t with m8 := x }

/-- The table that holds `f a` for each address `a`. -/
def Per8.build {α : Type} (f : Addr → α) : Per8 α := ⟨f 0, f 1, f 2, f 3, f 4, f 5, f 6, f 7⟩

/-- The value of one loop of a lane. -/
def Pair.get {α : Type} (t : Pair α) : Loop → α
  | .a => t.a
  | .b => t.b

/-- The pair with the value of one loop replaced. -/
def Pair.set {α : Type} (t : Pair α) (p : Loop) (x : α) : Pair α :=
  match p with
  | .a => { t with a := x }
  | .b => { t with b := x }

/-- The partner of a loop (section Loop faults). -/
def Loop.partner : Loop → Loop
  | .a => .b
  | .b => .a

namespace Machine

/-! ### Counting -/

/-- Counting up to a bound at which the count stays. -/
def satAdd (bound x : Nat) : Nat := if x < bound then x + 1 else x

/-- ceil(x / y) for y above 0. -/
def ceilDiv (x y : Nat) : Nat := (x + y - 1) / y

/-- The time left of a timer counting down, one millisecond later. -/
def countDown : Option Nat → Option Nat := Option.map (· - 1)

/-! ### Modular comparisons (Introduction) -/

/-- A received cycle number is newer than a held one. -/
def newerCycle (received held : Cycle) : Bool :=
  1 ≤ (received - held).toNat && (received - held).toNat ≤ 2047

/-- A received closure generation is newer than a held one. -/
def newerGen (received held : Gen) : Bool :=
  1 ≤ (received - held).toNat && (received - held).toNat ≤ 127

/-- A millisecond counter value is after another one (chapter Measurement Windows). -/
def stampAfter (x y : Stamp) : Bool :=
  1 ≤ (x - y).toNat && (x - y).toNat ≤ 32767

/-- The length of the span from `s` to `e` (chapter Measurement Windows). -/
def spanLength (s e : Stamp) : Nat := if stampAfter e s then (e - s).toNat else 0

/-! ### The speed set V (Introduction) -/

/-- A member of V as a number; NONE counts as 120. -/
def Limit.num : Limit → Nat
  | .v40 => 40
  | .v50 => 50
  | .v60 => 60
  | .v80 => 80
  | .v100 => 100
  | .unlimited => 120

/-- To quantise a value down. -/
def quantise (v : Nat) : Limit :=
  if 120 ≤ v then .unlimited else if 100 ≤ v then .v100 else if 80 ≤ v then .v80
  else if 60 ≤ v then .v60 else if 50 ≤ v then .v50 else .v40

/-- The lower of two members of V. -/
def Limit.lower (a b : Limit) : Limit := if a.num ≤ b.num then a else b

/-- The next higher member of V. -/
def Limit.next : Limit → Limit
  | .v40 => .v50
  | .v50 => .v60
  | .v60 => .v80
  | .v80 => .v100
  | .v100 => .unlimited
  | .unlimited => .unlimited

/-- The least of a list of members of V, NONE if it is empty. -/
def leastLimit (ls : List Limit) : Limit := ls.foldr Limit.lower .unlimited

/-- The speed code of a member of V (chapter Formats). -/
def Limit.code : Limit → Nat
  | .unlimited => 0
  | l => l.num

/-- The member of V that a speed code names. -/
def limitOfCode (c : Nat) : Option Limit :=
  if c = 0 then some .unlimited else if c = 40 then some .v40 else if c = 50 then some .v50
  else if c = 60 then some .v60 else if c = 80 then some .v80 else if c = 100 then some .v100 else none

/-! ### Aspects -/

/-- The code of an aspect (chapter Formats). -/
def Aspect.code : Aspect → Nat
  | .blank => 0
  | .speed40 => 1
  | .speed50 => 2
  | .speed60 => 3
  | .speed80 => 4
  | .speed100 => 5
  | .endSign => 6
  | .arrowL => 7
  | .arrowR => 8
  | .redX => 9
  | .queue => 10
  | .incident => 11
  | .laneClosed => 12
  | .roadClosed => 13
  | .off => 14
  | .flash => 15

/-- The aspect that a code names. -/
def aspectOfCode (c : Nat) : Option Aspect :=
  match c with
  | 0 => some .blank
  | 1 => some .speed40
  | 2 => some .speed50
  | 3 => some .speed60
  | 4 => some .speed80
  | 5 => some .speed100
  | 6 => some .endSign
  | 7 => some .arrowL
  | 8 => some .arrowR
  | 9 => some .redX
  | 10 => some .queue
  | 11 => some .incident
  | 12 => some .laneClosed
  | 13 => some .roadClosed
  | 14 => some .off
  | 15 => some .flash
  | _ => none

/-- The rank of an aspect (Introduction, Restrictiveness). -/
def Aspect.rank : Aspect → Nat
  | .redX => 7
  | .arrowL => 6
  | .arrowR => 6
  | .speed40 => 5
  | .speed50 => 4
  | .speed60 => 3
  | .speed80 => 2
  | .speed100 => 1
  | .endSign => 0
  | .blank => 0
  | .roadClosed => 4
  | .laneClosed => 3
  | .incident => 2
  | .queue => 1
  | .flash => 1
  | .off => 0

/-- The SPEED aspect of a limit below NONE. -/
def Limit.aspect : Limit → Option Aspect
  | .v40 => some .speed40
  | .v50 => some .speed50
  | .v60 => some .speed60
  | .v80 => some .speed80
  | .v100 => some .speed100
  | .unlimited => none

/-- The speed that an aspect shows, if it is SPEED_40 to SPEED_100. -/
def Aspect.speed : Aspect → Option Limit
  | .speed40 => some .v40
  | .speed50 => some .v50
  | .speed60 => some .v60
  | .speed80 => some .v80
  | .speed100 => some .v100
  | _ => none

/-- Whether an aspect is a diversion arrow. -/
def Aspect.isArrow (a : Aspect) : Bool := a == .arrowL || a == .arrowR

/-! ### Lanes and addresses -/

/-- The lanes 1 to 6. -/
def allLanes : List Lane := [0, 1, 2, 3, 4, 5]

/-- The addresses 1 to 8. -/
def allAddrs : List Addr := [0, 1, 2, 3, 4, 5, 6, 7]

/-- The number of a lane, 1 to 6. -/
def laneNumber (l : Lane) : Nat := l.val + 1

/-- The address of a lane's module: lane L is at address L. -/
def laneAddr (l : Lane) : Addr := ⟨l.val, by omega⟩

/-- The lane whose module is at an address, if it is a lane's. -/
def addrLane (a : Addr) : Option Lane := if h : a.val < 6 then some ⟨a.val, h⟩ else none

/-- The lantern pair's address, 7. -/
def lanternAddr : Addr := 6

/-- The legend panel's address, 8. -/
def legendAddr : Addr := 7

/-- BLANK for a lane or the legend, OFF for the lanterns. -/
def darkAspect (a : Addr) : Aspect := if a = lanternAddr then .off else .blank

/-! ### Reads and writes of the state -/

/-- The station's own position (R179). -/
def State.position (s : State) : Nat := s.stu.straps.position.toNat

/-- The lane count n (R179). -/
def State.lanes (s : State) : Nat := s.stu.straps.laneCount.toNat

/-- The lanes in use, 1 to n (R1). -/
def State.lanesInUse (s : State) : List Lane := allLanes.filter fun l => l.val < s.lanes

/-- The station's module addresses: 1 to n, 7 and 8 (chapter The Sign Link). -/
def State.moduleAddrs (s : State) : List Addr := s.lanesInUse.map laneAddr ++ [lanternAddr, legendAddr]

/-- The loop spacing Dd in decimetres (R10). -/
def State.spacing (s : State) : Nat :=
  match s.stu.straps.spacing.toNat with
  | 0 => 25
  | 1 => 30
  | 2 => 35
  | _ => 40

/-- LPI and the pairing machines run in DISCOVER, JOIN and RUN (R1). -/
def State.running (s : State) : Bool :=
  s.stu.station == .discover || s.stu.station == .join || s.stu.station == .run

/-- CRL, NBT, SPC and CLT work in JOIN and RUN (R37, R69, R70, R95). -/
def State.onBus (s : State) : Bool := s.stu.station == .join || s.stu.station == .run

/-- One loop. -/
def State.loop (s : State) (l : Lane) (p : Loop) : LoopState := (s.lpi.loops.get l).get p

/-- The state with one loop replaced. -/
def State.setLoop (s : State) (l : Lane) (p : Loop) (x : LoopState) : State :=
  { s with lpi := { s.lpi with loops := s.lpi.loops.set l ((s.lpi.loops.get l).set p x) } }

/-- MSU's part of one lane. -/
def State.lane (s : State) (l : Lane) : LaneState := s.msu.lanes.get l

/-- The state with MSU's part of one lane replaced. -/
def State.setLane (s : State) (l : Lane) (x : LaneState) : State :=
  { s with msu := { s.msu with lanes := s.msu.lanes.set l x } }

/-- ASA's part of one module. -/
def State.display (s : State) (a : Addr) : Display := s.asa.modules.get a

/-- The state with ASA's part of one module replaced. -/
def State.setDisplay (s : State) (a : Addr) (x : Display) : State :=
  { s with asa := { s.asa with modules := s.asa.modules.set a x } }

/-- The module table entry of one address. -/
def State.mod (s : State) (a : Addr) : Module := s.slc.modules.get a

/-- The state with the module table entry of one address replaced. -/
def State.setMod (s : State) (a : Addr) (x : Module) : State :=
  { s with slc := { s.slc with modules := s.slc.modules.set a x } }

/-- One free choice among the candidates of a list, in the first of which the default stands (assumption 9). A list of
at most one candidate needs no choice. -/
def State.pick (s : State) (candidates : List Addr) : Option (Addr × State) :=
  match candidates with
  | [] => none
  | [a] => some (a, s)
  | a :: rest =>
    some ((a :: rest).getD (Config.choice s.choices % (rest.length + 1)) a, { s with choices := s.choices + 1 })

end Machine
end Sys2Proof
end

