-- ==== Sys2Proof/Machine/Lanes.lean ====
section
/-! DEFINITION. What MSU does with one lane: measuring mode (R6), the pairing machine (R7 to R10), occupancy intervals
and their crediting (R12, R23, R24), vehicle records (R13, R22), the flags of a window (R25, R26). -/

namespace Sys2Proof.Machine

/-! ### Measuring mode -/

/-- Measuring mode of a lane (R6). -/
inductive LaneMode where
  | paired
  | singleA
  | singleB
  | none
  deriving DecidableEq, Repr

/-- R6: the mode follows from the fault states of loops A and B. -/
def laneMode (a b : FaultState) : LaneMode :=
  match a == .faulty, b == .faulty with
  | false, false => .paired
  | false, true => .singleA
  | true, false => .singleB
  | true, true => .none

/-- R6: the occupancy loop of a mode. -/
def LaneMode.occupancyLoop : LaneMode → Option Loop
  | .paired => some .a
  | .singleA => some .a
  | .singleB => some .b
  | .none => Option.none

/-- R6: the loop whose OCCUPY edges are the vehicles of a single-loop mode. -/
def LaneMode.singleLoop : LaneMode → Option Loop
  | .singleA => some .a
  | .singleB => some .b
  | _ => Option.none

/-- The measuring mode of a lane. -/
def State.mode (s : State) (l : Lane) : LaneMode := laneMode (s.loop l .a).fault (s.loop l .b).fault

/-! ### The current window -/

/-- R26: the flags of a window that the mode and the fault states of a lane's loops set. -/
def Accum.noteFaults (w : Accum) (a b : FaultState) : Accum :=
  { w with
    faultSeen := w.faultSeen || laneMode a b == .none
    singleSeen := w.singleSeen || laneMode a b == .singleA || laneMode a b == .singleB
    recoverySeen := w.recoverySeen || a == .recovering || b == .recovering }

/-- R22: a vehicle record handed to a window, dropped whole when count stands at 4095. -/
def Accum.addVehicle (w : Accum) (v : VehicleRecord) : Accum :=
  if w.count < 4095 then
    match v.speed with
    | some sp => { w with count := w.count + 1, speedCount := w.speedCount + 1, speedSum := w.speedSum + sp }
    | none => { w with count := w.count + 1 }
  else w

/-- R23, R24: where the credited span of an interval starts. -/
def Accum.creditStart (w : Accum) (iv : Interval) : Stamp :=
  if iv.beforeWindow then w.creditedTo
  else if stampAfter iv.start w.creditedTo then iv.start
  else w.creditedTo

/-- R23: the span of an interval up to an end time credited to a window. -/
def Accum.credit (w : Accum) (iv : Interval) (e : Stamp) : Accum :=
  { w with
    occMs := w.occMs + spanLength (w.creditStart iv) e
    creditedTo := if stampAfter e w.creditedTo then e else w.creditedTo }

/-- R13: a vehicle record joins the lane's current window; it is dropped when none is current. -/
def LaneState.handVehicle (m : LaneState) (v : VehicleRecord) : LaneState :=
  { m with window := m.window.map (·.addVehicle v) }

/-- R12, R23: an open interval closes at a time and is credited to the current window, if there is one. -/
def LaneState.closeInterval (m : LaneState) (e : Stamp) : LaneState :=
  match m.interval with
  | none => m
  | some iv => { m with interval := none, window := m.window.map (·.credit iv e) }

/-- R12: an interval open on a given loop closes at a time. -/
def LaneState.closeIntervalOn (m : LaneState) (p : Loop) (e : Stamp) : LaneState :=
  match m.interval with
  | some iv => if iv.loop = p then m.closeInterval e else m
  | none => m

/-! ### The pairing machine -/

/-- R10: the transit time of a vehicle, a difference of 0 taken as 1. -/
def transitTime (tA tB : Stamp) : Nat := if (tB - tA).toNat = 0 then 1 else (tB - tA).toNat

/-- R10: the speed of a regular completion, if it carries one. -/
def vehicleSpeed (dd : Nat) (v : Vehicle) : Option Nat :=
  match v.tA, v.tB with
  | some tA, some tB =>
    if 4000 < transitTime tA tB then none
    else some (min ((360 * dd + transitTime tA tB / 2) / transitTime tA tB) 250)
  | _, _ => none

/-- R7: the loop levels that a state of the pairing machine stands for; RESYNC stands for none. -/
def PairState.levels : PairState → Option (Pair LoopLevel)
  | .empty => some ⟨.clear, .clear⟩
  | .aOn => some ⟨.occupied, .clear⟩
  | .abOn => some ⟨.occupied, .occupied⟩
  | .bOn => some ⟨.clear, .occupied⟩
  | .resync => none

/-- R7: the state that stands for given loop levels. -/
def pairStateOf (lv : Pair LoopLevel) : PairState :=
  match lv.a, lv.b with
  | .clear, .clear => .empty
  | .occupied, .clear => .aOn
  | .occupied, .occupied => .abOn
  | .clear, .occupied => .bOn

/-- The level that an edge leads to. -/
def EdgeKind.level : EdgeKind → LoopLevel
  | .occupy => .occupied
  | .clear => .clear

/-- What taking one edge gives the pairing machine: its state, its vehicle in progress, whether a vehicle is produced
and with what speed, whether the paired count goes up. -/
structure PairStep where
  state : PairState
  vehicle : Option Vehicle
  produced : Option (Option Nat)
  completed : Bool
  deriving DecidableEq, Repr

/-- Whether the vehicle in progress has already been counted (R7). -/
def alreadyCounted : Option Vehicle → Bool
  | some v => v.counted
  | none => false

/-- R9: an irregular edge that leads to given levels. -/
def irregularStep (v : Option Vehicle) (lv : Pair LoopLevel) : PairStep :=
  { state := pairStateOf lv
    vehicle := if pairStateOf lv = .empty then none else some ⟨none, none, true⟩
    produced := if alreadyCounted v then none else some none
    completed := false }

/-- R8, R9: one edge taken in a state other than RESYNC. -/
def pairStep (dd : Nat) (st : PairState) (v : Option Vehicle) (e : Edge) : PairStep :=
  match st.levels with
  | none => ⟨st, v, none, false⟩
  | some lv =>
    if lv.get e.loop = e.kind.level then ⟨st, v, none, false⟩
    else
      match st, e.loop, e.kind with
      | .empty, .a, .occupy => ⟨.aOn, some ⟨some e.time, none, false⟩, none, false⟩
      | .aOn, .b, .occupy =>
        ⟨.abOn, v.map fun v => if v.counted then v else { v with tB := some e.time }, none, false⟩
      | .abOn, .a, .clear => ⟨.bOn, v, none, false⟩
      | .bOn, .b, .clear =>
        if alreadyCounted v then ⟨.empty, none, none, false⟩
        else ⟨.empty, none, some (v.bind (vehicleSpeed dd)), true⟩
      | _, _, _ => irregularStep v (lv.set e.loop e.kind.level)

/-! ### One edge taken -/

/-- R8, R9, R6: the pairing machine takes an edge; its vehicle is handed to the window in mode PAIRED alone. -/
def LaneState.takePairing (m : LaneState) (dd : Nat) (mode : LaneMode) (e : Edge) : LaneState :=
  let p := pairStep dd m.pairing m.vehicle e
  let m := { m with
    pairing := p.state
    vehicle := p.vehicle
    pairedCount := if p.completed then satAdd 255 m.pairedCount else m.pairedCount }
  match p.produced, mode with
  | some sp, .paired => m.handVehicle ⟨e.lane, e.time, sp⟩
  | _, _ => m

/-- R6: in a single-loop mode each OCCUPY taken of the loop is one vehicle without speed. -/
def LaneState.takeSingle (m : LaneState) (mode : LaneMode) (e : Edge) : LaneState :=
  if mode.singleLoop = some e.loop ∧ e.kind = .occupy then m.handVehicle ⟨e.lane, e.time, none⟩ else m

/-- R12: the occupancy interval takes an edge. -/
def LaneState.takeOccupancy (m : LaneState) (mode : LaneMode) (e : Edge) : LaneState :=
  match e.kind with
  | .occupy =>
    if mode.occupancyLoop = some e.loop ∧ m.interval = none then
      { m with interval := some ⟨e.loop, e.time, false⟩ }
    else m
  | .clear => m.closeIntervalOn e.loop e.time

/-- R4: an edge handed to the pairing machine and to the occupancy interval of its lane, outside RESYNC. -/
def LaneState.takeEdge (m : LaneState) (dd : Nat) (mode : LaneMode) (e : Edge) : LaneState :=
  ((m.takePairing dd mode e).takeSingle mode e).takeOccupancy mode e

/-- R5: a lost edge of the lane forces RESYNC, drops the vehicle in progress, closes the open interval at the edge's
time and marks the current window. -/
def LaneState.loseEdge (m : LaneState) (e : Stamp) : LaneState :=
  let m := m.closeInterval e
  { m with pairing := .resync, vehicle := none, window := m.window.map fun w => { w with overflowSeen := true } }

end Sys2Proof.Machine
end

