-- ==== Sys2Proof/Machine/Operands.lean ====
section
/-! DEFINITION. The operand forms: from the manual's lane and address numbers to the model's, and the putting in form
of the fields that CLOSE and CEILING frames and IDENT replies carry (R79, R98, R160). -/

namespace Sys2Proof.Machine

/-- The lane with a number from 1 to 6. -/
def laneOf (n : Nat) : Option Lane :=
  if h : 1 ≤ n ∧ n ≤ 6 then some ⟨n - 1, by omega⟩ else none

/-- The address with a number from 1 to 8. -/
def addrOf (n : Nat) : Option Addr :=
  if h : 1 ≤ n ∧ n ≤ 8 then some ⟨n - 1, by omega⟩ else none

/-- The raw fields of a CLOSE frame (chapter Formats). -/
structure CloseFields where
  id : Nat
  gen : Gen
  anchor : Nat
  firstLane : Nat
  width : Nat
  leadIn : Nat
  leadSpeed : Nat
  duration : Nat
  afterCurrent : Bool
  deriving DecidableEq, Repr

/-- R98: a lead speed in km/h, 0 meaning NONE, is quantised down and limited to 80. -/
def leadSpeedInForm (kmh : Nat) : Limit := (quantise (if kmh = 0 then 120 else kmh)).lower .v80

/-- R98: first lane in form. -/
def firstLaneInForm (f : Nat) : Nat := if f = 0 then 1 else min f 6

/-- R98: width in form, for a first lane in form. -/
def widthInForm (first w : Nat) : Nat :=
  let w := if w = 0 then 1 else w
  if 6 < first + w - 1 then 7 - first else w

/-- R98: lead-in count in form. -/
def leadInInForm (c : Nat) : Nat := if c = 0 then 1 else min c 3

/-- R98: a CLOSE frame put in form; `none` discards it. -/
def CloseFields.inForm (f : CloseFields) : Option Closure :=
  if f.id = 0 then none
  else if f.anchor = 0 ∨ 1000 ≤ f.anchor then none
  else some
    { id := f.id, gen := f.gen, anchor := f.anchor, firstLane := firstLaneInForm f.firstLane,
      width := widthInForm (firstLaneInForm f.firstLane) f.width, leadIn := leadInInForm f.leadIn,
      leadSpeed := leadSpeedInForm f.leadSpeed, minutes := min f.duration 1440 }

/-- R105, R106: a handed closure entry put in form; `none` skips it. -/
def ClosureEntry.inForm (e : ClosureEntry) : Option Closure :=
  if e.id = 0 then none
  else if e.anchor = 0 ∨ 1000 ≤ e.anchor then none
  else some
    { id := e.id, gen := e.gen, anchor := e.anchor, firstLane := firstLaneInForm e.firstLane,
      width := widthInForm (firstLaneInForm e.firstLane) e.width, leadIn := leadInInForm e.leadIn,
      leadSpeed := leadSpeedInForm e.leadSpeed.num, minutes := e.minutes }

/-- The raw fields of a CEILING frame (chapter Formats). -/
structure CeilingFields where
  id : Nat
  first : Nat
  last : Nat
  limit : Nat
  incident : Bool
  minutes : Nat
  deriving DecidableEq, Repr

/-- A CEILING frame put in form (R79): its id, the range as it stands in a record, the limit, the flag, the remaining
minutes, and whether the frame covers the station. -/
structure CeilingInForm where
  id : Nat
  first : Nat
  last : Nat
  limit : Limit
  incident : Bool
  minutes : Nat
  covers : Bool
  deriving DecidableEq, Repr

/-- R79: a CEILING frame put in form at a station; `none` discards it. The range is swapped first, the covering test
takes it as received, and the record's range is cut to 1 to 999. -/
def CeilingFields.inForm (f : CeilingFields) (position : Nat) : Option CeilingInForm :=
  if f.id = 0 ∨ 15 < f.id then none
  else
    let lo := min f.first f.last
    let hi := max f.first f.last
    some
      { id := f.id, first := if lo = 0 then 1 else lo, last := min hi 999,
        limit := if f.limit = 0 then .unlimited else quantise f.limit, incident := f.incident,
        minutes := if f.minutes = 0 then 1 else min f.minutes 1440,
        covers := decide (lo ≤ position ∧ position ≤ hi) }

/-- R160: blank units in form. -/
def blankUnitsInForm (b : Nat) : Nat := if b = 0 then 1 else min b 50

/-- R160: ramp exponent in form. -/
def rampExponentInForm (r : Nat) : Nat := if r < 4 then 4 else min r 10

/-- The aspects that belong to a kind of module, as a repertoire (chapter Formats, section Levels of R139). -/
def ModuleKind.aspects : ModuleKind → BitVec 16
  | .lane => 0x03FF#16
  | .lantern => 0xC000#16
  | .legend => 0x3C01#16

/-- The dark aspect of a kind, which belongs to every repertoire, as a repertoire (R160). -/
def ModuleKind.darkBit : ModuleKind → BitVec 16
  | .lantern => 0x4000#16
  | _ => 0x0001#16

/-- R160: a repertoire in form. -/
def repertoireInForm (k : ModuleKind) (r : BitVec 16) : BitVec 16 := (r &&& k.aspects) ||| k.darkBit

/-- The kind that an address requires (R160). -/
def kindRequired (a : Addr) : ModuleKind :=
  if a = lanternAddr then .lantern else if a = legendAddr then .legend else .lane

end Sys2Proof.Machine
end

