-- ==== Sys2Proof/Machine/Flags.lean ====
section
/-! DEFINITION. The flags and outputs that follow from the state: the conditions of FAULT (R185), RUN (R184), the posted
limit (R91), SIGNS_DOWN (R92), the statuses of lanes (R52), and `drive`, which sets the outputs anew. -/

namespace Sys2Proof.Machine

/-! ### The cabinet outputs -/

/-- R185: the station is STOPPED. -/
def State.faultStopped (s : State) : Bool := s.stu.station == .stopped

/-- R185: a lane module of lanes 1 to n is ABSENT, from the moment discovery records it (R181). -/
def State.faultAbsent (s : State) : Bool :=
  s.lanesInUse.any fun l => (s.mod (laneAddr l)).state == .absent && (s.mod (laneAddr l)).discovered == .notFound

/-- R185: a lane module of lanes 1 to n is FAILED. -/
def State.faultFailed (s : State) : Bool := s.lanesInUse.any fun l => (s.mod (laneAddr l)).state == .failed

/-- R185: a loop in use is FAULTY. -/
def State.faultLoop (s : State) : Bool :=
  s.lanesInUse.any fun l => (s.loop l .a).fault == .faulty || (s.loop l .b).fault == .faulty

/-- R185: CLASH is set. -/
def State.faultClash (s : State) : Bool := s.crl.clash

/-- R185: FAULT is lit while any condition holds; it is dark in RESET. -/
def State.faultLevel (s : State) : Bool :=
  s.stu.station != .inReset &&
    (s.faultStopped || s.faultAbsent || s.faultFailed || s.faultLoop || s.faultClash)

/-- R184: RUN is lit in RUN alone. -/
def State.runLevel (s : State) : Bool := s.stu.station == .run

/-! ### The posted limit and SIGNS_DOWN -/

/-- R91: the speed a lane module has proven, if it is READY. -/
def Module.provenSpeed (m : Module) : Option Limit :=
  if m.state = .ready then m.proven.bind Aspect.speed else none

/-- R91: the speeds proven by the READY lane modules of lanes 1 to n, none while the link is HELD. -/
def State.provenSpeeds (s : State) : List Limit :=
  if s.slc.link = .held then [] else s.lanesInUse.filterMap fun l => (s.mod (laneAddr l)).provenSpeed

/-- R91: the posted limit, the lower of T and the lowest proven speed. -/
def State.postedLevel (s : State) : Limit := s.spc.target.lower (leastLimit s.provenSpeeds)

/-- R92: SIGNS_DOWN; while the link is HELD it keeps its value. -/
def State.signsDownLevel (s : State) : Bool :=
  if s.slc.link = .held then s.spc.signsDown
  else s.lanesInUse.all fun l => (s.mod (laneAddr l)).state == .failed || (s.mod (laneAddr l)).state == .absent

/-- The outputs and the derived values of the Speed Computer set anew: RUN and FAULT in every state (R184, R185), the
posted limit and SIGNS_DOWN from the entry to JOIN on (R70, R91, R92). -/
def State.drive (s : State) : State :=
  { s with
    stu := { s.stu with runLit := s.runLevel, faultLit := s.faultLevel }
    spc := if s.onBus then { s.spc with posted := s.postedLevel, signsDown := s.signsDownLevel } else s.spc }

/-! ### What the lane statuses read -/

/-- R145: a repertoire holds an aspect; BLANK and OFF belong to every repertoire. -/
def canShow (repertoire : BitVec 16) (a : Aspect) : Bool := a == .blank || a == .off || repertoire.getLsbD a.code

/-- The requests of a row that stand in one slot. -/
def slotOf (row : List Request) (lv : Level) : List Request := row.filter (·.level == lv)

/-- Whether a request is one of this station's AT closure records': a closure's own request at CLOSED (R140). -/
def Source.isClosure : Source → Bool
  | .closure .. => true
  | _ => false

/-- Whether a source is an orphan lane. -/
def Source.isOrphan : Source → Bool
  | .orphan _ => true
  | _ => false

/-- A module has an UNSENT entry in the change queue (R149). -/
def State.entryWaits (s : State) (a : Addr) : Bool :=
  s.asa.queue.any fun g => g.entries.any fun e => e.addr == a && !e.sent

/-- A command is a SET. -/
def LinkCommand.isSet : LinkCommand → Bool
  | .set .. => true
  | _ => false

/-- A SET to a module is on the line, or its retry is still to be made. -/
def State.setUnderWay (s : State) (a : Addr) : Bool :=
  (s.slc.transaction.toList ++ s.slc.retry.toList).any fun t => t.addr == a && t.command.isSet

/-- R52: the status of a lane, the first of the table whose condition holds. An entry whose SET is under way counts as
waiting, so that PROVEN says that the module shows its ordered aspect; a lane that no row fits, as one lit otherwise in a
proof round before its resync group, reports PROVEN (assumption 23). -/
def State.laneStatus (s : State) (l : Lane) : LaneStatus :=
  let a := laneAddr l
  let m := s.mod a
  let d := s.display a
  let closed := slotOf d.row .closed
  if d.winner = .redX ∧ closed.any (fun r => r.source.isClosure) ∧
      (m.state = .failed ∨ m.state = .absent ∨ canShow m.repertoire .redX = false) then .atFailed
  else if closed.any (fun r => r.source.isOrphan) then .orphan
  else if m.state = .failed ∨ m.state = .absent then .failed
  else if d.limited then .limited
  else if s.slc.link = .held ∨ m.state = .changing ∨ s.entryWaits a ∨ s.setUnderWay a then .changing
  else .proven

end Sys2Proof.Machine
end

