-- ==== Sys2Proof/Machine/Arbiter.lean ====
section
/-! DEFINITION. The Aspect Arbiter: the request table (R139), winners, the arrow post-pass and the lanterns (R141 to
R144), displayable forms (R145), change entries and groups (R146 to R149), failure, recovery and the end of a hold
(R150 to R152). -/

namespace Sys2Proof.Machine

/-! ### The request table -/

/-- R139: the place of a level in its row, highest first. -/
def Level.order : Level → Nat
  | .closed => 0
  | .divert => 1
  | .speed => 2
  | .endSign => 3
  | .default => 4
  | .roadClosed => 0
  | .laneClosed => 1
  | .incident => 2
  | .queue => 3
  | .blank => 4

/-- R192: the code of a source kind. -/
def Source.kindCode : Source → Nat
  | .default => 0
  | .spc => 1
  | .closure .. => 2
  | .substitution .. => 3
  | .orphan _ => 4
  | .enclosed => 5

/-- R192: the closure id of a source, or 0. -/
def Source.closureId : Source → Nat
  | .closure id _ => id
  | .substitution id _ => id
  | _ => 0

/-- R192: the anchor of a source, the orphan lane as a mask, or 0. -/
def Source.low : Source → Nat
  | .closure _ anchor => anchor
  | .substitution _ anchor => anchor
  | .orphan l => 2 ^ l.val
  | _ => 0

/-- R192: a request as its 4-byte field. -/
def Request.field (r : Request) : Nat :=
  r.source.kindCode * 2 ^ 28 + r.aspect.code * 2 ^ 24 + r.source.closureId * 2 ^ 16 + r.source.low

/-- The order in which requests stand in a row: by level, then by the field of R192. -/
def Request.before (r q : Request) : Bool :=
  r.level.order < q.level.order || (r.level.order == q.level.order && r.field ≤ q.field)

/-- A request inserted at its place in a row. -/
def insertRequest (r : Request) : List Request → List Request
  | [] => [r]
  | q :: rest => if r.before q then r :: q :: rest else q :: insertRequest r rest

/-- R139: a withdrawal removes the request of a source from a slot, if it is there. -/
def withdrawFrom (row : List Request) (lv : Level) (src : Source) : List Request :=
  row.filter fun r => !(r.level == lv && r.source == src)

/-- R139: a placement; a source that already stands in the slot has its request replaced. -/
def placeIn (row : List Request) (r : Request) : List Request := insertRequest r (withdrawFrom row r.level r.source)

/-- A placement on a module's row. -/
def State.place (s : State) (a : Addr) (r : Request) : State :=
  s.setDisplay a { s.display a with row := placeIn (s.display a).row r }

/-- A withdrawal from a module's row. -/
def State.withdraw (s : State) (a : Addr) (lv : Level) (src : Source) : State :=
  s.setDisplay a { s.display a with row := withdrawFrom (s.display a).row lv src }

/-- Every module's row with the requests that fail a test removed. -/
def State.keepRequests (s : State) (keep : Addr → Request → Bool) : State :=
  { s with asa := { s.asa with modules := Per8.build fun a => { s.display a with row := (s.display a).row.filter (keep a) } } }

/-! ### Winners -/

/-- R142: whether the request `r` wins over `q` in a DIVERT slot: lower anchor, then lower id. -/
def Source.nearer (r q : Source) : Bool :=
  r.low < q.low || (r.low == q.low && r.closureId ≤ q.closureId)

/-- R142: the winning request of a DIVERT slot. -/
def nearestArrow : Request → List Request → Request
  | r, [] => r
  | r, q :: rest => nearestArrow (if r.source.nearer q.source then r else q) rest

/-- R141: the winner of a row, the aspect of its highest non-empty level. -/
def rowWinner (row : List Request) : Aspect :=
  match row with
  | [] => .blank
  | r :: rest => if r.level = .divert then (nearestArrow r (slotOf rest .divert)).aspect else r.aspect

/-- R141: a lane's base winner, its row's winner with any ENCLOSED request left out. -/
def rowBaseWinner (row : List Request) : Aspect := rowWinner (row.filter fun r => r.source != .enclosed)

/-- R143: an arrow on a lane is blocked when it points off the carriageway or into a red lane. `bases` holds the base
winners of lanes 1 to n. -/
def blocked (n : Nat) (bases : Per6 Aspect) (l : Lane) (arrow : Aspect) : Bool :=
  if arrow = .arrowL then
    if l.val = 0 then true else bases.get ⟨l.val - 1, by omega⟩ == .redX
  else
    if h : l.val + 1 < n ∧ l.val + 1 < 6 then bases.get ⟨l.val + 1, h.2⟩ == .redX else true

/-- R143: the opposite arrow. -/
def Aspect.flip : Aspect → Aspect
  | .arrowL => .arrowR
  | .arrowR => .arrowL
  | a => a

/-- R143: a lane is ENCLOSED when its base winner is an arrow that is blocked both ways. -/
def enclosedLane (n : Nat) (bases : Per6 Aspect) (l : Lane) : Bool :=
  (bases.get l).isArrow && blocked n bases l (bases.get l) && blocked n bases l (bases.get l).flip

/-- R143: the winner of a lane after the arrow post-pass. -/
def postPass (n : Nat) (bases : Per6 Aspect) (l : Lane) : Aspect :=
  let base := bases.get l
  if base.isArrow = false then base
  else if blocked n bases l base = false then base
  else if blocked n bases l base.flip = false then base.flip
  else .redX

/-- R144: the lantern pair's winner follows the legend's. -/
def lanternWinner (legend : Aspect) : Aspect := if legend = .blank then .off else .flash

/-! ### Displayable forms (R145) -/

/-- The greatest speed of a repertoire below a limit. -/
def lowerSpeed (repertoire : BitVec 16) (l : Limit) : Option Aspect :=
  (([Limit.v100, .v80, .v60, .v50, .v40].filter fun x => x.num < l.num).filterMap Limit.aspect).find? (canShow repertoire)

/-- R145: the displayable form of a winner with its LIMITED mark, by the repertoire. -/
def formOf (repertoire : BitVec 16) (w : Aspect) : Aspect × Bool :=
  if canShow repertoire w then (w, false)
  else match w with
    | .endSign => (.blank, false)
    | .flash => (.off, true)
    | _ =>
      match w.speed with
      | some l => ((lowerSpeed repertoire l).getD .blank, true)
      | none => (.blank, true)

/-- R145: the displayable form at a module; an ABSENT module's is its winner. -/
def Module.form (m : Module) (w : Aspect) : Aspect × Bool :=
  if m.state = .absent then (w, false) else formOf m.repertoire w

/-! ### Settling the winners of an event (R138, steps 2 and 3) -/

/-- A module's winner and displayable form set anew. -/
def Display.settle (d : Display) (m : Module) (w : Aspect) : Display :=
  { d with winner := w, form := (m.form w).1, limited := (m.form w).2 }

/-- R143: the row of a lane with its ENCLOSED request as the post-pass finds it. -/
def enclosedRow (row : List Request) (enclosed : Bool) : List Request :=
  if enclosed then placeIn row ⟨.closed, .enclosed, .redX⟩ else withdrawFrom row .closed .enclosed

/-- The base winners of the lanes in use (R141). -/
def State.baseWinners (s : State) : Per6 Aspect :=
  Per6.build fun l => if l.val < s.lanes then rowBaseWinner (s.display (laneAddr l)).row else .blank

/-- R138, steps 2 and 3, for one module. -/
def State.settledDisplay (s : State) (a : Addr) : Display :=
  let d := s.display a
  let legend := rowWinner (s.display legendAddr).row
  match addrLane a with
  | some l =>
    if l.val < s.lanes then
      let bases := s.baseWinners
      let w := postPass s.lanes bases l
      { d.settle (s.mod a) w with
        row := enclosedRow d.row (enclosedLane s.lanes bases l), baseWinner := some (bases.get l) }
    else d
  | none => if a = lanternAddr then d.settle (s.mod a) (lanternWinner legend) else d.settle (s.mod a) legend

/-- R25: MSU is told of each lane whose winner changed to RED_X. -/
def State.noteClosed (before s : State) : State :=
  { s with msu := { s.msu with lanes := Per6.build fun l =>
      let m := s.lane l
      if (s.display (laneAddr l)).winner = .redX ∧ (before.display (laneAddr l)).winner ≠ .redX then
        { m with window := m.window.map fun w => { w with closedSeen := true } }
      else m } }

/-- R138, steps 2 and 3: winners and displayable forms of every module, and MSU told of new red crosses. -/
def State.settleTable (s : State) : State :=
  State.noteClosed s { s with asa := { s.asa with modules := Per8.build s.settledDisplay } }

/-! ### Change groups -/

/-- R147: an entry goes into the urgent group. -/
def State.isUrgent (s : State) (e : ChangeEntry) : Bool :=
  (s.display e.addr).ordered.rank < e.aspect.rank ||
    (match (s.mod e.addr).sent with
      | some a => a.rank < e.aspect.rank
      | none => false)

/-- R148, step 1: the UNSENT entries of some modules removed from a group's entries. -/
def dropUnsent (addrs : List Addr) (es : List ChangeEntry) : List ChangeEntry :=
  es.filter fun e => e.sent || !(addrs.contains e.addr)

/-- R148, step 1: removal from the whole queue; a group left with no entries is dropped. -/
def removeUnsent (addrs : List Addr) (q : List Group) : List Group :=
  (q.map fun g => { g with entries := dropUnsent addrs g.entries }).filter fun g => !g.entries.isEmpty

/-- A change entry inserted at its place by address: that a group's entries stand, and are sent in a snapshot, in this order is the
model's choice (assumption 34). -/
def insertEntry (e : ChangeEntry) : List ChangeEntry → List ChangeEntry
  | [] => [e]
  | x :: rest => if e.addr ≤ x.addr then e :: x :: rest else x :: insertEntry e rest

/-- Entries merged into a group's entries. -/
def mergeEntries (new old : List ChangeEntry) : List ChangeEntry := new.foldr insertEntry old

/-- R148, step 2: the urgent entries merge into the first WAITING group, which becomes URGENT. -/
def mergeFirst (es : List ChangeEntry) : List Group → List Group
  | [] => []
  | g :: rest =>
    if g.beingSent then g :: mergeFirst es rest
    else { g with kind := .urgent, entries := mergeEntries es g.entries } :: rest

/-- R148, step 3: the normal entries merge into the last WAITING group. -/
def mergeLast (es : List ChangeEntry) (q : List Group) : List Group :=
  match q.reverse with
  | g :: rest => if g.beingSent then q else (({ g with entries := mergeEntries es g.entries } :: rest).reverse)
  | [] => q

/-- R148, step 2: an urgent group is placed ahead of every WAITING group. -/
def placeUrgent (g : Group) (q : List Group) : List Group :=
  if q.length < 8 then
    match q with
    | h :: rest => if h.beingSent then h :: g :: rest else g :: h :: rest
    | [] => [g]
  else mergeFirst g.entries q

/-- R148, step 3: a normal group is appended at the tail. -/
def placeNormal (g : Group) (q : List Group) : List Group :=
  if q.length < 8 then q ++ [g] else mergeLast g.entries q

/-- R147: a non-empty group takes the next tag and is placed (R148). -/
def State.placeGroup (s : State) (k : GroupKind) (es : List ChangeEntry) : State :=
  if es.isEmpty then s
  else
    let g : Group := { kind := k, tag := s.asa.nextTag, beingSent := false, entries := es }
    let q := match k with
      | .urgent => placeUrgent g s.asa.queue
      | .normal => placeNormal g s.asa.queue
    { s with asa := { s.asa with queue := q, nextTag := s.asa.nextTag + 1 } }

/-- R147: the ordered aspect of each module with a new entry becomes the entry's aspect. -/
def State.orderEntries (s : State) (es : List ChangeEntry) : State :=
  es.foldl (fun s e => s.setDisplay e.addr { s.display e.addr with ordered := e.aspect }) s

/-- R147, R148: the entries of one event are split, take their tags and are placed. -/
def State.placeEntries (s : State) (es : List ChangeEntry) : State :=
  let urgent := es.filter s.isUrgent
  let normal := es.filter fun e => !s.isUrgent e
  let s := { s with asa := { s.asa with queue := removeUnsent (es.map ChangeEntry.addr) s.asa.queue } }
  ((s.placeGroup .urgent urgent).placeGroup .normal normal).orderEntries es

/-- R146: the entry of a present module that is not FAILED and whose displayable aspect differs from its ordered one. -/
def State.changeEntry (s : State) (a : Addr) : Option ChangeEntry :=
  let d := s.display a
  let m := s.mod a
  if m.state = .absent ∨ m.state = .failed then none
  else if d.form = d.ordered then none
  else some ⟨a, d.form, d.limited, false⟩

/-- R146: the ordered aspect of each ABSENT module of a list becomes its displayable aspect at once. -/
def State.orderAbsent (s : State) (addrs : List Addr) : State :=
  addrs.foldl (fun s a =>
    if (s.mod a).state = .absent then s.setDisplay a { s.display a with ordered := (s.display a).form } else s) s

/-- R146: the modules of a list are handled by their state. -/
def State.formEntries (s : State) (addrs : List Addr) : State :=
  (s.orderAbsent addrs).placeEntries (addrs.filterMap s.changeEntry)

/-- R146: the modules whose winner or displayable form an event changed. -/
def changedModules (before after : State) : List Addr :=
  after.moduleAddrs.filter fun a =>
    (before.display a).winner != (after.display a).winner || (before.display a).form != (after.display a).form ||
      (before.display a).limited != (after.display a).limited

/-- R138, steps 2 to 4: a batch whose placements and withdrawals stand in the rows is settled. -/
def State.settle (s : State) : State :=
  s.settleTable.formEntries (changedModules s s.settleTable)

/-! ### Failure, recovery, the end of a hold, the entry to RUN -/

/-- R150: a module is marked FAILED: its UNSENT entry goes, BLANK or OFF is ordered, a failure blank is owed. -/
def State.moduleFailedAsa (s : State) (a : Addr) : State :=
  let s := { s with asa := { s.asa with queue := removeUnsent [a] s.asa.queue } }
  let s := s.setDisplay a { s.display a with ordered := darkAspect a }
  s.setMod a { s.mod a with blankOwed := true }

/-- R151: a FAILED module has answered an IDENT: an entry for its displayable form, even when that is BLANK. -/
def State.moduleAnsweredAsa (s : State) (a : Addr) : State :=
  let s := s.settleTable
  s.placeEntries [⟨a, (s.display a).form, (s.display a).limited, false⟩]

/-- R170, R146: a module has recovered: an entry if its displayable form differs from its ordered aspect. -/
def State.moduleRecoveredAsa (s : State) (a : Addr) : State := s.formEntries [a]

/-- R152: the entries of the resync group: the modules that are not FAILED and whose lit aspect, which the proof round
has left as their sent aspect (R173), differs from their displayable form. -/
def State.resyncEntry (s : State) (a : Addr) : Option ChangeEntry :=
  let m := s.mod a
  if m.state = .ready ∨ m.state = .changing then
    match m.sent with
    | some lit => if lit = (s.display a).form then none else some ⟨a, (s.display a).form, (s.display a).limited, false⟩
    | none => none
  else none

/-- R152: a resync entry is more restrictive than the module's lit aspect. -/
def State.resyncUrgent (s : State) (e : ChangeEntry) : Bool :=
  match (s.mod e.addr).sent with
  | some lit => lit.rank < e.aspect.rank
  | none => false

/-- R152: the resync group at the end of a hold's proof round; ordered aspects are unchanged. -/
def State.resync (s : State) : State :=
  let es := s.moduleAddrs.filterMap s.resyncEntry
  let k : GroupKind := if es.any s.resyncUrgent then .urgent else .normal
  let s := { s with asa := { s.asa with queue := removeUnsent (es.map ChangeEntry.addr) s.asa.queue } }
  s.placeGroup k es

/-- R146: at the entry to RUN every present module is handled, whether or not its winner changed. -/
def State.enterRunAsa (s : State) : State := s.formEntries s.moduleAddrs

/-- R154: at the end of discovery each present module's ordered aspect is its lit aspect, the proven one; BLANK or OFF
for absent modules and for modules FAILED at discovery. -/
def State.takeOrdered (s : State) : State :=
  { s with asa := { s.asa with modules := Per8.build fun a =>
      { s.display a with ordered :=
          if (s.mod a).state = .ready then (s.mod a).proven.getD (darkAspect a) else darkAspect a } } }

end Sys2Proof.Machine
end

