-- ==== Sys2Proof/Machine/Frames.lean ====
section
/-! DEFINITION. The corridor frames as bytes: CRC-16, the checks of R44, the payloads of R190 in both directions. -/

namespace Sys2Proof.Machine

/-! ### Numbers and flags as bytes -/

/-- A 16-bit number from its two bytes, most significant first (chapter Formats). -/
def word16 (hi lo : Byte) : Nat := hi.toNat * 256 + lo.toNat

/-- A number below 65536 as two bytes, most significant first. -/
def bytes16 (n : Nat) : List Byte := [BitVec.ofNat 8 (n / 256), BitVec.ofNat 8 n]

/-- A flag at a bit of a byte. -/
def flagBit (f : Bool) (weight : Nat) : Nat := if f then weight else 0

/-- All the values of a list of optional values, if every one is present. -/
def allSome {α : Type} : List (Option α) → Option (List α)
  | [] => some []
  | x :: xs => match x, allSome xs with
    | some y, some ys => some (y :: ys)
    | _, _ => none

/-! ### CRC-16 (R190) -/

/-- One bit of the division by 1021h. -/
def crcBit (r : BitVec 16) : BitVec 16 := if r.msb then (r <<< 1) ^^^ 0x1021#16 else r <<< 1

/-- One byte entering, most significant bit first. -/
def crcByte (r : BitVec 16) (b : Byte) : BitVec 16 :=
  crcBit (crcBit (crcBit (crcBit (crcBit (crcBit (crcBit (crcBit (r ^^^ (b.zeroExtend 16 <<< 8)))))))))

/-- The CRC of a list of bytes, in the order of transmission (R190). -/
def crc16 (bs : List Byte) : BitVec 16 := bs.foldl crcByte 0xFFFF#16

/-! ### The frame around a payload -/

/-- The six frame kinds (chapter Formats). -/
inductive FrameKind where
  | state
  | announce
  | close
  | release
  | ceiling
  | orphanClear
  deriving DecidableEq, Repr

/-- The code of a frame kind. -/
def FrameKind.code : FrameKind → Byte
  | .state => 0x01#8
  | .announce => 0x02#8
  | .close => 0x03#8
  | .release => 0x04#8
  | .ceiling => 0x05#8
  | .orphanClear => 0x06#8

/-- The kind that a code names. -/
def frameKindOf (b : Byte) : Option FrameKind :=
  if b = 0x01#8 then some .state else if b = 0x02#8 then some .announce else if b = 0x03#8 then some .close
  else if b = 0x04#8 then some .release else if b = 0x05#8 then some .ceiling
  else if b = 0x06#8 then some .orphanClear else none

/-- STATE and ANNOUNCE come from stations, the other kinds from gateways (R44). -/
def FrameKind.fromStation : FrameKind → Bool
  | .state => true
  | .announce => true
  | _ => false

/-- An accepted frame's header and payload. -/
structure Received where
  kind : FrameKind
  sender : Nat
  cycle : Cycle
  payload : List Byte
  deriving DecidableEq, Repr

/-- The bytes of a frame: sync, header, payload, CRC (chapter Formats). The four high bits of the cycle number are 0. -/
def frameBytes (kind : FrameKind) (sender : Nat) (cycle : Cycle) (payload : List Byte) : List Byte :=
  let body := kind.code :: bytes16 sender ++ bytes16 cycle.toNat ++ BitVec.ofNat 8 payload.length :: payload
  syncByte :: body ++ bytes16 (crc16 body).toNat

/-- R44, but for the length that a kind's payload requires: a frame is truncated when bytes are missing or a framing
error ended it, too long when bytes are left over or the payload length exceeds 200. -/
def checkFrame (f : RxFrame) : Option Received :=
  if f.framingError then none
  else match f.bytes with
    | sync :: k :: ph :: pl :: ch :: cl :: len :: rest =>
      let payload := rest.take len.toNat
      let sender := word16 ph pl
      if sync ≠ syncByte then none
      else if 200 < len.toNat then none
      else if rest.length ≠ len.toNat + 2 then none
      else if rest.drop len.toNat ≠ bytes16 (crc16 (k :: ph :: pl :: ch :: cl :: len :: payload)).toNat then none
      else match frameKindOf k with
        | none => none
        | some kind =>
          if sender = 0 ∨ 1015 < sender then none
          else if kind.fromStation = true ∧ 1000 ≤ sender then none
          else if kind.fromStation = false ∧ sender < 1000 then none
          else some { kind, sender, cycle := BitVec.ofNat 12 (word16 ch cl), payload }
    | _ => none

/-! ### Payload codes -/

/-- The code of a lane status. -/
def LaneStatus.code : LaneStatus → Nat
  | .proven => 0
  | .changing => 1
  | .failed => 2
  | .limited => 3
  | .atFailed => 4
  | .orphan => 5

/-- The lane status that a code names. -/
def laneStatusOf (c : Nat) : Option LaneStatus :=
  match c with
  | 0 => some .proven
  | 1 => some .changing
  | 2 => some .failed
  | 3 => some .limited
  | 4 => some .atFailed
  | 5 => some .orphan
  | _ => none

/-- The code of a closure stage. -/
def Stage.code : Stage → Nat
  | .waitLead => 0
  | .setting => 1
  | .proven => 2
  | .degraded => 3
  | .waitClear => 4
  | .released => 5

/-- The closure stage that a code names. -/
def stageOf (c : Nat) : Option Stage :=
  match c with
  | 0 => some .waitLead
  | 1 => some .setting
  | 2 => some .proven
  | 3 => some .degraded
  | 4 => some .waitClear
  | 5 => some .released
  | _ => none

/-- The code of a restart kind. -/
def RestartKind.code : RestartKind → Byte
  | .cold => 0x00#8
  | .keep => 0x01#8

/-- The restart kind that a code names. -/
def restartKindOf (b : Byte) : Option RestartKind :=
  if b = 0x00#8 then some .cold else if b = 0x01#8 then some .keep else none

/-! ### The STATE payload -/

/-- A lane entry as its byte: the ordered aspect in the high nibble, the status in the low one. -/
def LaneEntry.byte (e : LaneEntry) : Byte := BitVec.ofNat 8 (e.aspect.code * 16 + e.status.code)

/-- A lane entry from its byte; an aspect above 09h or an unknown status names no value (assumption 13). -/
def laneEntryOf (b : Byte) : Option LaneEntry :=
  if 9 < b.toNat / 16 then none
  else match aspectOfCode (b.toNat / 16), laneStatusOf (b.toNat % 16) with
    | some a, some st => some ⟨a, st⟩
    | _, _ => none

/-- A closure entry as its ten bytes. -/
def ClosureEntry.bytes (e : ClosureEntry) : List Byte :=
  [BitVec.ofNat 8 e.id, e.gen] ++ bytes16 e.anchor ++
  [BitVec.ofNat 8 (e.firstLane * 16 + e.width), BitVec.ofNat 8 e.leadIn, BitVec.ofNat 8 e.leadSpeed.code,
    BitVec.ofNat 8 (flagBit e.fullClosure 128 + flagBit e.pendingMod 64 + flagBit e.substituting 32 + e.stage.code)] ++
  bytes16 e.minutes

/-- A closure entry from its ten bytes. The lead speed must be one of 40, 50, 60 and 80 and the stage one of the six
(R190, assumption 13); remaining minutes above 1440 are taken as 1440. -/
def closureEntryOf (id gen ah al win leadIn speed st mh ml : Byte) : Option ClosureEntry :=
  match limitOfCode speed.toNat, stageOf (st.toNat % 8) with
  | some ls, some stage =>
    if ls = .unlimited ∨ ls = .v100 then none
    else some
      { id := id.toNat, gen, anchor := word16 ah al, firstLane := win.toNat / 16, width := win.toNat % 16,
        leadIn := leadIn.toNat, leadSpeed := ls, stage, minutes := min (word16 mh ml) 1440,
        fullClosure := st.getLsbD 7, pendingMod := st.getLsbD 6, substituting := st.getLsbD 5 }
  | _, _ => none

/-- The closure entries of a full frame: whole entries of ten bytes each. -/
def closureEntriesOf : List Byte → Option (List ClosureEntry)
  | [] => some []
  | b0 :: b1 :: b2 :: b3 :: b4 :: b5 :: b6 :: b7 :: b8 :: b9 :: rest =>
    match closureEntryOf b0 b1 b2 b3 b4 b5 b6 b7 b8 b9, closureEntriesOf rest with
    | some e, some es => some (e :: es)
    | _, _ => none
  | _ => none

/-- The flags byte of a STATE payload. -/
def StateFrame.flags (f : StateFrame) : Byte :=
  BitVec.ofNat 8
    (flagBit f.joining 128 + flagBit f.queue 64 + flagBit f.measInvalid 32 + flagBit f.isolatedDown 16 +
      flagBit f.signsDown 8 + flagBit f.clash 4 + flagBit f.tableFull 2 + flagBit f.entries.isSome 1)

/-- The bytes of the closure entries of a STATE payload, none in a short frame. -/
def StateFrame.entryBytes (f : StateFrame) : List Byte :=
  match f.entries with
  | none => []
  | some es => es.flatMap ClosureEntry.bytes

/-- The STATE payload. -/
def StateFrame.payload (f : StateFrame) : List Byte :=
  [f.flags, BitVec.ofNat 8 f.target.code, BitVec.ofNat 8 f.posted.code, BitVec.ofNat 8 f.laneCount, f.version,
    f.speedCode] ++ bytes16 f.occCode.toNat ++ f.lanes.map LaneEntry.byte ++ f.entryBytes

/-- A STATE frame from an accepted header and payload; `none` where R190's length condition fails. -/
def stateFrameOf (r : Received) : Option StateFrame :=
  match r.payload with
  | fl :: tl :: pl :: n :: ver :: spd :: oh :: ol :: rest =>
    if n.toNat < 2 ∨ 6 < n.toNat then none
    else if rest.length < n.toNat then none
    else
      match limitOfCode tl.toNat, limitOfCode pl.toNat, allSome ((rest.take n.toNat).map laneEntryOf),
        closureEntriesOf (rest.drop n.toNat) with
      | some target, some posted, some lanes, some es =>
        if fl.getLsbD 0 = false ∧ es ≠ [] then none
        else if 8 < es.length then none
        else some
          { sender := r.sender, cycle := r.cycle, joining := fl.getLsbD 7, queue := fl.getLsbD 6,
            measInvalid := fl.getLsbD 5, isolatedDown := fl.getLsbD 4, signsDown := fl.getLsbD 3, clash := fl.getLsbD 2,
            tableFull := fl.getLsbD 1, target, posted, laneCount := n.toNat, version := ver, speedCode := spd,
            occCode := BitVec.ofNat 16 (word16 oh ol), lanes, entries := if fl.getLsbD 0 then some es else none }
      | _, _, _, _ => none
  | _ => none

/-! ### The other payloads -/

/-- The restart kind of an ANNOUNCE payload. -/
def announceOf (payload : List Byte) : Option RestartKind :=
  match payload with
  | [k] => restartKindOf k
  | _ => none

/-- The fields of a CLOSE payload. -/
def closeOf (payload : List Byte) : Option CloseFields :=
  match payload with
  | [id, gen, ah, al, first, width, leadIn, speed, dh, dl, flags] =>
    some { id := id.toNat, gen, anchor := word16 ah al, firstLane := first.toNat, width := width.toNat,
           leadIn := leadIn.toNat, leadSpeed := speed.toNat, duration := word16 dh dl, afterCurrent := flags.getLsbD 0 }
  | _ => none

/-- The fields of a RELEASE payload: id, gen, anchor. -/
structure ReleaseFields where
  id : Nat
  gen : Gen
  anchor : Nat
  deriving DecidableEq, Repr

/-- The fields of a RELEASE payload. -/
def releaseOf (payload : List Byte) : Option ReleaseFields :=
  match payload with
  | [id, gen, ah, al] => some ⟨id.toNat, gen, word16 ah al⟩
  | _ => none

/-- The fields of a CEILING payload. -/
def ceilingOf (payload : List Byte) : Option CeilingFields :=
  match payload with
  | [id, fh, fl, lh, ll, limit, flags, mh, ml] =>
    some { id := id.toNat, first := word16 fh fl, last := word16 lh ll, limit := limit.toNat,
           incident := flags.getLsbD 0, minutes := word16 mh ml }
  | _ => none

/-- The station position and the lane of an ORPHAN_CLEAR payload. -/
def orphanClearOf (payload : List Byte) : Option (Nat × Nat) :=
  match payload with
  | [ph, pl, lane] => some (word16 ph pl, lane.toNat)
  | _ => none

/-! ### The station's own frames on the line -/

/-- The bytes that a frame of the station's own puts on the line (R189, R190). -/
def OwnFrame.bytes : OwnFrame → List Byte
  | .announce sender cycle kind => frameBytes .announce sender cycle [kind.code]
  | .state f => frameBytes .state f.sender f.cycle f.payload

/-- Whether a frame of the station's own is a full STATE frame (R54). -/
def OwnFrame.isFull : OwnFrame → Bool
  | .announce .. => false
  | .state f => f.entries.isSome

/-- Whether a frame of the station's own is an ANNOUNCE (R49). -/
def OwnFrame.isAnnounce : OwnFrame → Bool
  | .announce .. => true
  | .state _ => false

end Sys2Proof.Machine
end

