-- ==== Sys2Proof/Machine/Neighbours.lean ====
section
/-! DEFINITION. The Neighbour Table: entries and their updates (R56 to R61), age (R62), what an entry is good for (R63 to
R66), and the notices an arrival gives (R67, R68). -/

namespace Sys2Proof.Machine

/-! ### Offsets and entries -/

/-- The offset of a position from the station's own (Introduction). -/
def State.offset (s : State) (position : Nat) : Int := (position : Int) - (s.position : Int)

/-- R56: an offset from -6 to +6 other than 0. -/
def State.inRange (s : State) (position : Nat) : Bool :=
  decide (s.offset position ≤ 6 ∧ -6 ≤ s.offset position ∧ s.offset position ≠ 0)

/-- The entry held for a position. An entry whose age has reached 10 is removed at that beat (R62) and no longer held. -/
def State.entryFor (s : State) (position : Nat) : Option Neighbour :=
  s.nbt.find? fun e => e.position == position && e.age < 10

/-- The entry at an offset. -/
def State.entryAt (s : State) (k : Int) : Option Neighbour :=
  s.nbt.find? fun e => s.offset e.position == k && e.age < 10

/-- R62: an entry is fresh while its age is 3 or less. -/
def Neighbour.fresh (e : Neighbour) : Bool := e.age ≤ 3

/-- R63: fresh with JOINING clear. -/
def Neighbour.settled (e : Neighbour) : Bool := e.fresh && !e.joining

/-- The offsets 1 to 6, nearest first. -/
def offsets : List Nat := [1, 2, 3, 4, 5, 6]

/-! ### The questions (R64 to R66) -/

/-- R64: the step partner with its offset. -/
def State.stepPartner (s : State) : Option (Nat × Neighbour) :=
  offsets.findSome? fun (k : Nat) =>
    match s.entryAt (k : Int) with
    | some e => if e.settled && !e.signsDown then some (k, e) else none
    | none => none

/-- R65: the upstream station for the END request. -/
def State.upstream (s : State) : Option Neighbour :=
  offsets.findSome? fun (k : Nat) =>
    match s.entryAt (-(k : Int)) with
    | some e => if e.settled then some e else none
    | none => none

/-- R66: QUEUE held at an offset from +1 to +6. -/
def State.queueHeldAt (s : State) (k : Nat) : Bool :=
  match s.entryAt k with
  | some e => e.settled && e.queue
  | none => false

/-- R66: the entry at an offset reports (id, gen) at a stage. -/
def State.reports (s : State) (k : Int) (id : Nat) (gen : Gen) (stage : Stage) : Bool :=
  match s.entryAt k with
  | some e => e.settled && (match e.summary with
    | some items => items.contains ⟨id, gen, stage⟩
    | none => false)
  | none => false

/-- R66: the entry at an offset lacks an id. -/
def State.lacksId (s : State) (k : Int) (id : Nat) : Bool :=
  match s.entryAt k with
  | some e => e.settled && (match e.summary with
    | some items => items.all fun i => i.id != id
    | none => false)
  | none => false

/-- The lane status an entry holds for a lane, if it has an item for it. -/
def Neighbour.statusOf (e : Neighbour) (l : Lane) : Option LaneStatus := (e.lanes[l.val]?).map LaneEntry.status

/-- R66: the entry at an offset reports AT_FAILED on a lane. -/
def State.reportsAtFailed (s : State) (k : Int) (l : Lane) : Bool :=
  match s.entryAt k with
  | some e => e.fresh && laneNumber l ≤ e.laneCount && e.statusOf l == some .atFailed
  | none => false

/-! ### Updates -/

/-- A summary item inserted in ascending order of id. -/
def insertItem (i : SummaryItem) : List SummaryItem → List SummaryItem
  | [] => [i]
  | x :: rest => if i.id ≤ x.id then i :: x :: rest else x :: insertItem i rest

/-- R59: the summary of a full frame's entries. -/
def summaryOf (es : List ClosureEntry) : List SummaryItem :=
  es.foldr (fun e acc => insertItem ⟨e.id, e.gen, e.stage⟩ acc) []

/-- R59: the summary after an arrival; `held` is the entry's version and summary, absent for a new entry. -/
def nextSummary (held : Option (Byte × Option (List SummaryItem))) (f : StateFrame) : Option (List SummaryItem) :=
  match f.entries with
  | some es => some (summaryOf es)
  | none =>
    match held with
    | some (v, sum) => if f.version = v then sum else none
    | none => none

/-- R57, R58: the entry for a frame's sender, from the entry held before, if one was. -/
def entryFrom (old : Option Neighbour) (f : StateFrame) : Neighbour :=
  { position := f.sender, cycle := some f.cycle, age := 0, restart := old.bind (·.restart), joining := f.joining,
    queue := f.queue, measInvalid := f.measInvalid, isolatedDown := f.isolatedDown, signsDown := f.signsDown,
    clash := f.clash, tableFull := f.tableFull, target := f.target, posted := f.posted, laneCount := f.laneCount,
    lanes := f.lanes, version := f.version, summary := nextSummary (old.map fun e => (e.version, e.summary)) f,
    staleDue := false }

/-- R61: an entry after its sender's ANNOUNCE. -/
def Neighbour.announced (e : Neighbour) (k : RestartKind) : Neighbour :=
  { e with cycle := none, restart := some k, joining := true, summary := none, age := 0, staleDue := false }

/-- An entry inserted by position, in place of any other for the position. -/
def insertNeighbour (e : Neighbour) : List Neighbour → List Neighbour
  | [] => [e]
  | x :: rest =>
    if e.position < x.position then e :: x :: rest
    else if e.position = x.position then e :: rest
    else x :: insertNeighbour e rest

/-- The table with an entry put in. -/
def State.putNeighbour (s : State) (e : Neighbour) : State := { s with nbt := insertNeighbour e s.nbt }

/-- The table with the entry for a position removed. -/
def State.dropNeighbour (s : State) (position : Nat) : State :=
  { s with nbt := s.nbt.filter fun e => e.position != position }

/-- R62: one beat of age; reaching 4 makes the entry stale, which is still to be told. -/
def Neighbour.aged (e : Neighbour) : Neighbour :=
  { e with age := e.age + 1, staleDue := e.staleDue || e.age + 1 == 4 }

/-! ### Notices -/

/-- What an arrival or an age tells the Speed Computer (R67) and the Closure Table (R68). `recompute` holds at least
one notice of R67, `review` one of those that R72 marks for an upstream entry, `closure` one of R68. -/
structure Notices where
  recompute : Bool
  review : Bool
  closure : Bool
  deriving DecidableEq, Repr

/-- The notices entry made, removed, stale and fresh: told to both blocks, and marked by R72 at every offset. -/
def Notices.all : Notices := ⟨true, true, true⟩

/-- R68: a lane's status changed into or out of AT_FAILED. -/
def atFailedChanged (old new : Neighbour) : Bool :=
  allLanes.any fun l => (old.statusOf l == some .atFailed) != (new.statusOf l == some .atFailed)

/-- R67, R68: the notices of an arrival that takes an entry from `old` to `new`; `full` says that closure entries are handed. -/
def arrivalNotices (old : Option Neighbour) (new : Neighbour) (full : Bool) : Notices :=
  match old with
  | none => .all
  | some o =>
    if !o.fresh then .all
    else
      let joining := o.joining != new.joining
      let posted := o.posted != new.posted
      { recompute := posted || o.queue != new.queue || joining || o.signsDown != new.signsDown
        review := posted || joining
        closure := full || joining || o.summary != new.summary || atFailedChanged o new }

end Sys2Proof.Machine
end

