-- ==== Sys2Proof/Machine/Speed.lean ====
section
/-! DEFINITION. The Speed Computer: the eight stages of a recomputation (R74 to R86), its requests (R87 to R90), the
operator ceilings (R79 to R82), with the meaning of CEILING_EXPIRY. -/

namespace Sys2Proof.Machine

/-! ### Stage 1: local demand (R74) -/

/-- R74: the limit that speed gives, with the occupancy that settles an EMPTY speed. -/
def speedDemand (v : SpeedValue) (occ : Nat) : Limit :=
  match v with
  | .kmh n => quantise (n + 10)
  | .empty => if 800 ≤ occ then .v40 else .unlimited

/-- R74: the limit that occupancy gives. -/
def occDemand (occ : Nat) : Limit :=
  if 300 ≤ occ then .v50 else if 200 ≤ occ then .v60 else if 120 ≤ occ then .v80 else if 80 ≤ occ then .v100
  else .unlimited

/-- R74: the local demand L1. -/
def localDemand (t : Limit) (c : Option Carriage) : Limit :=
  match c with
  | none => t
  | some c => (speedDemand c.speed c.occ).lower (occDemand c.occ)

/-! ### Stage 2: the QUEUE flag (R75, R76) -/

/-- R75: a lane is slow. -/
def Fast.slow (f : Fast) : Bool :=
  match f.speed with
  | .kmh v => v < 35 && 250 ≤ f.occ
  | .empty => 800 ≤ f.occ

/-- R75: a lane is still queued. -/
def Fast.stillQueued (f : Fast) : Bool :=
  200 ≤ f.occ || (match f.speed with
    | .kmh v => v < 45
    | .empty => false)

/-- R75: the fast values of the valid open lanes. -/
def State.fastLanes (s : State) : List Fast := s.lanesInUse.filterMap fun l => (s.lane l).fast

/-- R76: the QUEUE flag and the clear streak after an evaluation over the valid open lanes. -/
def queueFlagAfter (fasts : List Fast) (flag : Bool) (streak : Nat) : Bool × Nat :=
  let h := ceilDiv fasts.length 2
  if fasts.length = 0 then (flag, streak)
  else if h ≤ (fasts.filter Fast.slow).length then (true, 0)
  else if flag = false then (false, 0)
  else if h ≤ (fasts.filter Fast.stillQueued).length then (true, 0)
  else if streak = 0 then (true, 1)
  else (false, 0)

/-- R75: the QUEUE flag evaluated at a window end. -/
def State.evaluateQueue (s : State) : State :=
  let r := queueFlagAfter s.fastLanes s.spc.queueFlag s.spc.clearStreak
  { s with spc := { s.spc with queueFlag := r.1, clearStreak := r.2 } }

/-! ### Stages 3 to 7 -/

/-- R77: the smallest offset from 0 to +6 at which a QUEUE flag is held. -/
def State.queueDistance (s : State) : Option Nat :=
  if s.spc.queueFlag then some 0 else offsets.find? s.queueHeldAt

/-- R77: the queue ceiling. -/
def queueCeiling (d : Option Nat) : Limit :=
  match d with
  | some 0 => .v40
  | some 1 => .v40
  | some 2 => .v60
  | some 3 => .v80
  | _ => .unlimited

/-- R78: the ceiling of a role and a lead speed. -/
def roleCeiling (r : Role) (ls : Limit) : Limit :=
  match r with
  | .atAnchor => ls
  | .lead1 => ls
  | .lead2 => quantise (ls.num + 20)
  | .lead3 => quantise (ls.num + 40)

/-- R95: a record is live while its stage is not RELEASED. -/
def ClosureRecord.live (r : ClosureRecord) : Bool := r.stage != .released

/-- R78, R110: the ceiling of a record, if it is live. -/
def ClosureRecord.ceiling (r : ClosureRecord) : Option Limit :=
  if r.live then r.role.map fun role => roleCeiling role r.leadSpeed else none

/-- R78: the closure ceiling Lc. -/
def State.closureCeiling (s : State) : Limit := leastLimit (s.clt.records.filterMap ClosureRecord.ceiling)

/-- R82: the operator ceiling Lop. -/
def State.operatorCeiling (s : State) : Limit := leastLimit (s.spc.ceilings.map (·.limit))

/-- R84: the step ceiling of a partner's posted limit at an offset. -/
def stepCeiling (posted : Limit) (k : Nat) : Limit := quantise (posted.num + 20 * k)

/-- R84: C2 from C by the step rule. -/
def State.applyStep (s : State) (c : Limit) : Limit :=
  if s.stu.straps.terminal then c
  else match s.stepPartner with
    | some (k, e) => c.lower (stepCeiling e.posted k)
    | none => c

/-- R84: ISOLATED_DOWN as a recomputation reports it. -/
def State.isolatedDownNow (s : State) : Bool := !s.stu.straps.terminal && s.stepPartner.isNone

/-- Stages 1 and 3 to 7: the stage values as they stand now (R74, R77, R78, R82 to R84). -/
def State.stageValues (s : State) : StageValues :=
  let l1 := localDemand s.spc.target s.msu.carriage
  let d := s.queueDistance
  let lq := queueCeiling d
  let lc := s.closureCeiling
  let lop := s.operatorCeiling
  let c := leastLimit [l1, lq, lc, lop]
  { l1, d, lq, lc, lop, c, c2 := s.applyStep c }

/-! ### Stage 8 (R85, R86) -/

/-- R85: T becomes a lower C2 at once. -/
def Spc.lowerTo (p : Spc) (c2 : Limit) : Spc := { p with target := c2, held := 0, raiseStreak := 0 }

/-- R85: stage 8 of an event recomputation. -/
def Spc.applyEvent (p : Spc) (c2 : Limit) : Spc := if c2.num < p.target.num then p.lowerTo c2 else p

/-- R86: stage 8 of a window-end recomputation. -/
def Spc.applyWindow (p : Spc) (c2 : Limit) (measured : Bool) : Spc :=
  let p := { p with held := satAdd 255 p.held }
  if c2.num < p.target.num then p.lowerTo c2
  else if c2 = p.target then { p with raiseStreak := 0 }
  else
    let p := { p with raiseStreak := p.raiseStreak + 1 }
    if 3 ≤ p.raiseStreak ∧ 4 ≤ p.held ∧ measured = true then
      { p with target := p.target.next, held := 0, raiseStreak := 0 }
    else p

/-! ### Requests (R87 to R90) -/

/-- A request of the Speed Computer placed on a module's level, or withdrawn from it. -/
def State.setSpc (s : State) (a : Addr) (lv : Level) (req : Option Aspect) : State :=
  match req with
  | some x => s.place a ⟨lv, .spc, x⟩
  | none => s.withdraw a lv .spc

/-- R88: the condition of the END request. -/
def State.wantsEnd (s : State) : Bool :=
  s.spc.target == .unlimited && (match s.upstream with
    | some e => e.posted != .unlimited
    | none => false)

/-- R88: the END request placed on or withdrawn from every lane in use. -/
def State.setEnd (s : State) : State :=
  s.lanesInUse.foldl (fun t l => t.setSpc (laneAddr l) .endSign (if s.wantsEnd then some .endSign else none)) s

/-- R87: the SPEED request of every lane in use, for the T held. -/
def State.setSpeed (s : State) : State :=
  s.lanesInUse.foldl (fun t l => t.setSpc (laneAddr l) .speed s.spc.target.aspect) s

/-- R89: the QUEUE legend request is held while the d of the last recomputation is 0, 1 or 2. -/
def Spc.wantsQueueLegend (p : Spc) : Bool :=
  match p.stages.bind (·.d) with
  | some d => d ≤ 2
  | none => false

/-- R82, R89: the INCIDENT legend request is held while a ceiling record has INCIDENT set. -/
def Spc.wantsIncidentLegend (p : Spc) : Bool := p.ceilings.any (·.incident)

/-- R89: the legend requests. -/
def State.setLegends (s : State) : State :=
  (s.setSpc legendAddr .queue (if s.spc.wantsQueueLegend then some .queue else none)).setSpc legendAddr .incident
    (if s.spc.wantsIncidentLegend then some .incident else none)

/-- R90: all the requests reviewed as one event of the Aspect Arbiter. -/
def State.reviewRequests (s : State) : State := s.setSpeed.setEnd.setLegends.settle

/-- R88: a review of the END request alone. -/
def State.reviewEnd (s : State) : State := s.setEnd.settle

/-! ### Recomputation (R71) -/

/-- R71: an event recomputation: stages 1 and 3 to 8, and the review of the requests. -/
def State.recompute (s : State) : State :=
  let v := s.stageValues
  { s with spc := { s.spc.applyEvent v.c2 with stages := some v, isolatedDown := s.isolatedDownNow } }.reviewRequests

/-- R71: a window-end recomputation: stages 1 to 8, and the review of the requests. -/
def State.recomputeWindow (s : State) : State :=
  let s := s.evaluateQueue
  let v := s.stageValues
  { s with spc :=
      { s.spc.applyWindow v.c2 s.msu.carriage.isSome with
        stages := some v, isolatedDown := s.isolatedDownNow } }.reviewRequests

/-- R70: what SPC does at the entry to JOIN, once the posted limit and SIGNS_DOWN are set (`drive`). -/
def State.startSpeed (s : State) : State :=
  let t := s.spc.target
  { s with spc := { s.spc with
      isolatedDown := !s.stu.straps.terminal
      stages := some { l1 := t, d := none, lq := .unlimited, lc := .unlimited, lop := .unlimited, c := t, c2 := t } }
  }.reviewRequests

/-! ### Operator ceilings -/

/-- A ceiling record inserted by id, in place of any other with the id. -/
def insertCeiling (c : Ceiling) : List Ceiling → List Ceiling
  | [] => [c]
  | x :: rest =>
    if c.id < x.id then c :: x :: rest else if c.id = x.id then c :: rest else x :: insertCeiling c rest

/-- R80: the record with the least time to expiry, the lower id where two are equal. -/
def soonest : List Ceiling → Option Ceiling
  | [] => none
  | c :: rest =>
    match soonest rest with
    | none => some c
    | some d => if c.expiry < d.expiry ∨ (c.expiry = d.expiry ∧ c.id ≤ d.id) then some c else some d

/-- R80: a record installed in the table, which makes room when it holds 4 others. -/
def installCeiling (c : Ceiling) (cs : List Ceiling) : List Ceiling :=
  if cs.any (fun x => x.id == c.id) ∨ cs.length < 4 then insertCeiling c cs
  else match soonest cs with
    | some d => insertCeiling c (cs.filter fun x => x.id != d.id)
    | none => insertCeiling c cs

/-- R80: the record that a frame in form gives. -/
def CeilingInForm.record (f : CeilingInForm) : Ceiling :=
  { id := f.id, first := f.first, last := f.last, limit := f.limit, incident := f.incident, expiry := f.minutes * 60000 }

/-- R80: the ceiling table after a frame in form, or `none` where the frame has no effect. -/
def ceilingsAfter (f : CeilingInForm) (cs : List Ceiling) : Option (List Ceiling) :=
  let holds := cs.any fun x => x.id == f.id
  if f.limit = .unlimited ∨ f.covers = false then
    if holds then some (cs.filter fun x => x.id != f.id) else none
  else some (installCeiling f.record cs)

/-- R79, R80: the Speed Computer takes a CEILING frame's fields. -/
def State.takeCeiling (s : State) (f : CeilingFields) : State :=
  match f.inForm s.position with
  | none => s
  | some f =>
    match ceilingsAfter f s.spc.ceilings with
    | none => s
    | some cs => { s with spc := { s.spc with ceilings := cs } }.recompute

/-- R81: the record with an id expires and the Speed Computer recomputes. -/
def State.expireCeiling (s : State) (id : Nat) : State :=
  if s.onBus ∧ s.spc.ceilings.any (fun c => c.id == id && c.expiry == 0) then
    ({ s with spc := { s.spc with ceilings := s.spc.ceilings.filter fun c => c.id != id } }.recompute).drive
  else s

/-- The meaning of CEILING_EXPIRY (R81). -/
def execCeilingExpiry (id : Nat) (s : State) : Host.Outcome State Fault Refusal := .next (s.expireCeiling id)

/-- R81: the remaining minutes of a time in ms, rounded up. -/
def minutesLeft (ms : Nat) : Nat := ceilDiv ms 60000

/-- R72: a notice of the Neighbour Table about the entry for a position reaches the Speed Computer. -/
def State.noticeSpeed (s : State) (position : Nat) (n : Notices) : State :=
  if 0 < s.offset position then if n.recompute then s.recompute else s
  else if n.review then s.reviewEnd else s

end Sys2Proof.Machine
end

