-- ==== Sys2Proof/Machine/Closures.lean ====
section
/-! DEFINITION. The Closure Table: roles and request sets (R99, R108, R109), installation and the refused list (R101,
R102), proof (R119, R120), the stage machines (R115 to R128), substitution (R129 to R131), orphans (R132 to R134), and
the meanings of the expiries of its timers. -/

namespace Sys2Proof.Machine

/-! ### The table -/

/-- The record held for an id (R95). -/
def State.record (s : State) (id : Nat) : Option ClosureRecord := s.clt.records.find? fun r => r.id == id

/-- A record inserted at its place by id, in place of any other for the id. -/
def insertRecord (r : ClosureRecord) : List ClosureRecord → List ClosureRecord
  | [] => [r]
  | x :: rest =>
    if r.id < x.id then r :: x :: rest else if r.id = x.id then r :: rest else x :: insertRecord r rest

/-- The state with a record put in the table. -/
def State.putRecord (s : State) (r : ClosureRecord) : State :=
  { s with clt := { s.clt with records := insertRecord r s.clt.records } }

/-- The state with the record of an id removed. -/
def State.dropRecord (s : State) (id : Nat) : State :=
  { s with clt := { s.clt with records := s.clt.records.filter fun r => r.id != id } }

/-- R96: whether the tombstone `r` is older than `q`: less tombstone time, the lower id where they are equal. -/
def ClosureRecord.older (r q : ClosureRecord) : Bool :=
  r.tombTime.getD 0 < q.tombTime.getD 0 || (r.tombTime.getD 0 == q.tombTime.getD 0 && r.id ≤ q.id)

/-- R96: the oldest tombstone. -/
def oldestTombstone : List ClosureRecord → Option ClosureRecord
  | [] => none
  | r :: rest =>
    match oldestTombstone rest with
    | none => if r.live then none else some r
    | some q => if r.live = false ∧ r.older q = true then some r else some q

/-- R101: the records with room for one more; `none` where all 8 are live. -/
def roomFor (rs : List ClosureRecord) : Option (List ClosureRecord) :=
  if rs.length < 8 then some rs
  else (oldestTombstone rs).map fun t => rs.filter fun r => r.id != t.id

/-- R102: an id leaves the refused list. -/
def State.unrefuse (s : State) (id : Nat) : State :=
  { s with clt := { s.clt with refused := s.clt.refused.filter fun r => r.id != id } }

/-- R102: the refused list after a refusal. -/
def refusedAfter (rs : List Refused) (id : Nat) : List Refused :=
  let others := rs.filter fun r => r.id != id
  (if others.length < 4 then others else others.drop 1) ++ [⟨id, 300000⟩]

/-- R102: a closure is refused. -/
def State.refuse (s : State) (id : Nat) : State :=
  { s with clt := { s.clt with refused := refusedAfter s.clt.refused id } }

/-! ### Role and lanes (R99) -/

/-- R99: the role of a station in a closure with an anchor and a lead-in count. -/
def roleOf (position anchor leadIn : Nat) : Option Role :=
  if position = anchor then some .atAnchor
  else if position + 1 = anchor ∧ 1 ≤ leadIn then some .lead1
  else if position + 2 = anchor ∧ 2 ≤ leadIn then some .lead2
  else if position + 3 = anchor ∧ 3 ≤ leadIn then some .lead3
  else none

/-- R99: the local lanes of a window at a station with n lanes. -/
def localLanesOf (n first width : Nat) : List Lane :=
  allLanes.filter fun l => decide (l.val < n ∧ first ≤ laneNumber l ∧ laneNumber l < first + width)

/-- R99: FULL_CLOSURE: the local lanes are every lane from 1 to n. -/
def isFullClosure (n : Nat) (ls : List Lane) : Bool := ls == (allLanes.filter fun l => l.val < n)

/-- R97: the time to expiry that minutes give, 0 meaning UNTIL_RELEASED. -/
def expiryOf (minutes : Nat) : Option Nat := if minutes = 0 then none else some (minutes * 60000)

/-- R97, R126: a record with its fields taken from a closure, with the role, local lanes and FULL_CLOSURE formed anew. -/
def ClosureRecord.takeFields (r : ClosureRecord) (n : Nat) (c : Closure) (role : Option Role) : ClosureRecord :=
  { r with
    gen := c.gen, anchor := c.anchor, firstLane := c.firstLane, width := c.width, leadIn := c.leadIn,
    leadSpeed := c.leadSpeed, role := role, localLanes := localLanesOf n c.firstLane c.width,
    fullClosure := isFullClosure n (localLanesOf n c.firstLane c.width), expiry := expiryOf c.minutes }

/-- R115: the stage machine's fields as an installation leaves them. -/
def ClosureRecord.clearWaits (r : ClosureRecord) : ClosureRecord :=
  { r with waitTime := none, awaiting := [], legendWaits := false, substitution := [] }

/-- R101, R106: a record with a closure's fields and a role, before its first stage. -/
def freshRecord (n : Nat) (c : Closure) (role : Option Role) : ClosureRecord :=
  ClosureRecord.takeFields
    { id := c.id, gen := c.gen, anchor := c.anchor, firstLane := c.firstLane, width := c.width, leadIn := c.leadIn,
      leadSpeed := c.leadSpeed, role := role, localLanes := [], fullClosure := false, stage := .setting, expiry := none,
      tombTime := none, waitTime := none, awaiting := [], legendWaits := false, substitution := [], pendingMod := none }
    n c role

/-- R96, R115: a record that becomes a tombstone. -/
def ClosureRecord.tombstone (r : ClosureRecord) : ClosureRecord :=
  { r.clearWaits with stage := .released, tombTime := some 300000, pendingMod := none }

/-! ### Request sets (R108, R109) -/

/-- R109: the arrow of a local lane. -/
def arrowOn (n : Nat) (ls : List Lane) (l : Lane) : Aspect :=
  let first := ls.any fun x => x.val == 0
  let last := ls.any fun x => x.val + 1 == n
  if first = true ∧ last = false then .arrowR
  else if last = true ∧ first = false then .arrowL
  else if ls.idxOf l < ceilDiv ls.length 2 then .arrowL
  else .arrowR

/-- The source of a record's own requests (R111). -/
def ClosureRecord.source (r : ClosureRecord) : Source := .closure r.id r.anchor

/-- The source of a record's substitution requests (R129). -/
def ClosureRecord.substSource (r : ClosureRecord) : Source := .substitution r.id r.anchor

/-- R108: the lane requests of a record. -/
def ClosureRecord.laneRequests (r : ClosureRecord) (n : Nat) : List (Addr × Request) :=
  match r.role with
  | some .atAnchor => r.localLanes.map fun l => (laneAddr l, ⟨.closed, r.source, .redX⟩)
  | some .lead1 =>
    if r.fullClosure then []
    else r.localLanes.map fun l => (laneAddr l, ⟨.divert, r.source, arrowOn n r.localLanes l⟩)
  | _ => []

/-- R108: the legend request of a record. -/
def ClosureRecord.legendRequest (r : ClosureRecord) : Option Request :=
  if r.fullClosure then r.role.map fun _ => ⟨.roadClosed, r.source, .roadClosed⟩
  else match r.role with
    | some .atAnchor => none
    | none => none
    | _ => some ⟨.laneClosed, r.source, .laneClosed⟩

/-- R108: the request set of a record. -/
def ClosureRecord.requestSet (r : ClosureRecord) (n : Nat) : List (Addr × Request) :=
  r.laneRequests n ++ r.legendRequest.toList.map fun q => (legendAddr, q)

/-- R129, R130: the request of a substitution lane. -/
def ClosureRecord.substRequest (r : ClosureRecord) (x : Lane × Aspect) : Addr × Request :=
  (laneAddr x.1, ⟨if x.2 = .redX then .closed else .divert, r.substSource, x.2⟩)

/-- Requests placed one after the other. -/
def State.placeAll (s : State) (reqs : List (Addr × Request)) : State := reqs.foldl (fun s x => s.place x.1 x.2) s

/-- Whether a source is a record's own. -/
def Source.ownOf (id : Nat) : Source → Bool
  | .closure i _ => i == id
  | _ => false

/-- Whether a source is a record's substitution. -/
def Source.substOf (id : Nat) : Source → Bool
  | .substitution i _ => i == id
  | _ => false

/-- R111: a record withdraws the requests of its own set. -/
def State.withdrawOwn (s : State) (id : Nat) : State := s.keepRequests fun _ q => !(q.source.ownOf id)

/-- R131: a record withdraws its substitution requests. -/
def State.withdrawSubst (s : State) (id : Nat) : State := s.keepRequests fun _ q => !(q.source.substOf id)

/-- R111: a record withdraws every request that carries its id. -/
def State.withdrawRecord (s : State) (id : Nat) : State := (s.withdrawOwn id).withdrawSubst id

/-! ### Proof (R119) -/

/-- The class of a module in the proof of a record (R119). -/
inductive ProofClass where
  | notCounted
  | failed
  | satisfied
  | pending
  deriving DecidableEq, Repr

/-- R119: a module has proven an aspect of at least a rank. -/
def Module.provesRank (m : Module) (rank : Nat) : Bool :=
  match m.proven with
  | some a => rank ≤ a.rank
  | none => false

/-- R119: the class of a module for a requested rank. -/
def State.proofClass (s : State) (a : Addr) (rank : Nat) : ProofClass :=
  let m := s.mod a
  if a = legendAddr ∧ m.state = .absent then .notCounted
  else if s.slc.link = .held then .pending
  else if m.state = .failed ∨ m.state = .absent ∨ (m.state = .ready ∧ m.limited = true) then .failed
  else if m.state = .ready ∧ m.provesRank rank = true then .satisfied
  else .pending

/-- The requests of a record on a module, substitutions included. -/
def State.requestsOf (s : State) (id : Nat) (a : Addr) : List Request :=
  (s.display a).row.filter fun q => q.source.ownOf id || q.source.substOf id

/-- R119: the classes of the counted modules of a record. -/
def State.proofClasses (s : State) (id : Nat) : List ProofClass :=
  (s.moduleAddrs.filterMap fun a =>
    match s.requestsOf id a with
    | [] => none
    | q :: qs => some (s.proofClass a (((q :: qs).map fun q => q.aspect.rank).foldr max 0))).filter fun c =>
      c != .notCounted

/-- R119, R120: the stage that the outcome of an evaluation gives. -/
def stageAfterProof (classes : List ProofClass) (st : Stage) : Stage :=
  if classes.all fun c => c == .satisfied then .proven
  else if classes.contains .pending then st
  else .degraded

/-- The settled stages and SETTING, in which proof is evaluated (R120). -/
def Stage.proofRuns : Stage → Bool
  | .setting => true
  | .proven => true
  | .degraded => true
  | _ => false

/-! ### One event of the Closure Table -/

/-- The state while one event of the Closure Table is handled, and whether the Speed Computer is to be told (R110). -/
structure Work where
  s : State
  tell : Bool

/-- The work with a record put in the table. -/
def Work.put (w : Work) (r : ClosureRecord) : Work := { w with s := w.s.putRecord r }

/-- R110: the Speed Computer is to be told when a condition holds. -/
def Work.telling (w : Work) (b : Bool) : Work := { w with tell := w.tell || b }

/-- R120: proof is evaluated for the record of an id. -/
def Work.prove (w : Work) (id : Nat) : Work :=
  match w.s.record id with
  | none => w
  | some r =>
    if r.stage.proofRuns = true ∧ r.awaiting = [] then
      let st := stageAfterProof (w.s.proofClasses id) r.stage
      (w.put { r with stage := st }).telling (st != r.stage)
    else w

/-- R129, R130: the substitution lanes that a record calls for, each with its aspect. -/
def State.substitutionOf (s : State) (r : ClosureRecord) : List (Lane × Aspect) :=
  if r.live = false then []
  else match r.role with
    | some .lead1 => (r.localLanes.filter (s.reportsAtFailed 1)).map fun l => (l, .redX)
    | some .lead2 =>
      if r.fullClosure then []
      else (r.localLanes.filter (s.reportsAtFailed 2)).map fun l => (l, arrowOn s.lanes r.localLanes l)
    | _ => []

/-- R131: substitution is evaluated for the record of an id, and proof with it where its requests change. -/
def Work.substitute (w : Work) (id : Nat) : Work :=
  match w.s.record id with
  | none => w
  | some r =>
    let want := w.s.substitutionOf r
    if want = r.substitution then w
    else
      (({ w with s := (w.s.withdrawSubst id).placeAll (want.map r.substRequest) } : Work).put
        { r with substitution := want }).prove id

/-- R117, R127, R133: a record places its request set, the lanes awaiting lead included, and waits for no lead. -/
def Work.leadGo (w : Work) (r : ClosureRecord) : Work :=
  let st : Stage := if r.stage = .waitLead then .setting else r.stage
  ((({ w with s := w.s.placeAll (r.requestSet w.s.lanes) } : Work).put
    { r with stage := st, waitTime := none, awaiting := [], legendWaits := false }).telling (st != r.stage)).prove r.id

/-- R117, R127: whether a record waits for a lead report. -/
def ClosureRecord.waitsForLead (r : ClosureRecord) : Bool :=
  r.role == some .atAnchor && (r.stage == .waitLead || (r.stage == .setting && !r.awaiting.isEmpty))

/-- R117: the lead report, or the FIRST strap in its place (R116). -/
def State.leadReported (s : State) (r : ClosureRecord) : Bool :=
  s.stu.straps.first || s.reports (-1) r.id r.gen .proven || s.reports (-1) r.id r.gen .degraded

/-- R117: the lead report is checked for the record of an id. -/
def Work.checkLead (w : Work) (id : Nat) : Work :=
  match w.s.record id with
  | none => w
  | some r => if r.waitsForLead = true ∧ w.s.leadReported r = true then w.leadGo r else w

/-- R121, R123: a record withdraws every request it holds and becomes a tombstone. -/
def Work.bury (w : Work) (r : ClosureRecord) : Work :=
  (({ w with s := w.s.withdrawRecord r.id } : Work).put r.tombstone).telling r.live

/-- R123: the clear report. -/
def State.clearReported (s : State) (r : ClosureRecord) : Bool :=
  s.reports 1 r.id r.gen .released || s.lacksId 1 r.id

/-- R123: the clear report is checked for the record of an id. -/
def Work.checkClear (w : Work) (id : Nat) : Work :=
  match w.s.record id with
  | none => w
  | some r => if r.stage = .waitClear ∧ w.s.clearReported r = true then w.bury r else w

/-- R121, R122: a record takes a release by its role and stage. -/
def Work.release (w : Work) (r : ClosureRecord) : Work :=
  if r.stage = .waitClear ∨ r.stage = .released then w.put r
  else if r.role = some .atAnchor ∨ r.role = none then w.bury r
  else
    ((w.put { r with stage := .waitClear, waitTime := some 10000, pendingMod := none }).telling true).checkClear r.id

/-- R116, R118: a record starts its role as a fresh installation. -/
def Work.startRole (w : Work) (r : ClosureRecord) : Work :=
  match r.role with
  | some .atAnchor =>
    ((w.put { r with stage := .waitLead, waitTime := some 10000 }).telling true).checkLead r.id
  | _ =>
    (((({ w with s := w.s.placeAll (r.requestSet w.s.lanes) } : Work).put { r with stage := .setting }).telling
      true).substitute r.id).prove r.id

/-- R126: a LEAD record that a modification leaves in its role: the old set withdrawn, the new one placed. -/
def Work.modifyLead (w : Work) (r : ClosureRecord) : Work :=
  (((({ w with s := (w.s.withdrawOwn r.id).placeAll (r.requestSet w.s.lanes) } : Work).put
    { r with stage := .setting, waitTime := none }).telling (r.stage != .setting)).substitute r.id).prove r.id

/-- A record's own CLOSED request stands on a lane. -/
def State.holdsClosed (s : State) (id : Nat) (l : Lane) : Bool :=
  (s.display (laneAddr l)).row.any fun q => q.level == .closed && q.source.ownOf id

/-- A record's own ROAD_CLOSED request stands on the legend. -/
def State.holdsRoadClosed (s : State) (id : Nat) : Bool :=
  (s.display legendAddr).row.any fun q => q.level == .roadClosed && q.source.ownOf id

/-- R127: a record's own requests on lanes that are no longer local, and a ROAD_CLOSED that is no longer called for,
are withdrawn. -/
def State.withdrawSurplus (s : State) (r : ClosureRecord) : State :=
  s.keepRequests fun a q =>
    !(q.source.ownOf r.id) ||
      (match addrLane a with
        | some l => r.localLanes.contains l
        | none => r.fullClosure)

/-- R127: an AT record that a modification leaves at AT. -/
def Work.modifyAnchor (w : Work) (r : ClosureRecord) : Work :=
  if r.stage = .waitLead then (w.put { r with waitTime := some 10000 }).checkLead r.id
  else
    let awaiting := r.localLanes.filter fun l => !(w.s.holdsClosed r.id l)
    let legendWaits := r.fullClosure && !(w.s.holdsRoadClosed r.id)
    let w := ({ w with s := w.s.withdrawSurplus r } : Work).telling (r.stage != .setting)
    let r := { r with stage := .setting, awaiting := awaiting, legendWaits := legendWaits }
    if awaiting = [] then w.leadGo r
    else (w.put { r with waitTime := some 10000 }).checkLead r.id

/-- R126, R128: a modification is applied to a record. -/
def Work.applyMod (w : Work) (r : ClosureRecord) (c : Closure) : Work :=
  match roleOf w.s.position c.anchor c.leadIn with
  | none => w.release { r with gen := c.gen }
  | some role =>
    let new := r.takeFields w.s.lanes c (some role)
    let w := w.telling (r.leadSpeed != c.leadSpeed)
    if r.role = some role then
      if role = .atAnchor then w.modifyAnchor new else w.modifyLead new
    else ({ w with s := w.s.withdrawRecord r.id } : Work).startRole new.clearWaits

/-- R120: a settled record that holds a pending modification has it applied. -/
def Work.drain (w : Work) (id : Nat) : Work :=
  match w.s.record id with
  | none => w
  | some r =>
    match r.pendingMod with
    | none => w
    | some c =>
      if r.stage = .proven ∨ r.stage = .degraded then w.applyMod { r with pendingMod := none } c else w

/-- R125: a pending modification whose gen is not newer than that of a modification applied at once is discarded. -/
def ClosureRecord.keepNewer (r : ClosureRecord) (gen : Gen) : ClosureRecord :=
  { r with pendingMod := r.pendingMod.filter fun p => newerGen p.gen gen }

/-- R125: a deferred modification is compared with the pending one. -/
def ClosureRecord.defer (r : ClosureRecord) (c : Closure) : ClosureRecord :=
  match r.pendingMod with
  | none => { r with pendingMod := some c }
  | some p => if newerGen c.gen p.gen then { r with pendingMod := some c } else r

/-- R125: a modification reaches a live record. -/
def Work.modify (w : Work) (r : ClosureRecord) (c : Closure) (afterCurrent : Bool) : Work :=
  if afterCurrent = true ∧ (r.stage = .waitLead ∨ r.stage = .setting) then w.put (r.defer c)
  else (w.applyMod (r.keepNewer c.gen) c).drain r.id

/-- R101, R106: a closure is installed if it concerns the station, in the slot of a tombstone of its id, in a free slot
or in that of the oldest tombstone; where there is no room it is refused (R102). -/
def Work.install (w : Work) (c : Closure) : Work :=
  match roleOf w.s.position c.anchor c.leadIn with
  | none => w
  | some role =>
    match roomFor (w.s.clt.records.filter fun r => r.id != c.id) with
    | none => { w with s := w.s.refuse c.id }
    | some rs =>
      (({ w with s := ({ w.s with clt := { w.s.clt with records := rs } } : State).unrefuse c.id } : Work).startRole
        (freshRecord w.s.lanes c (some role))).drain c.id

/-- R100, R105: a live closure in form reaches the table. -/
def Work.offer (w : Work) (c : Closure) (afterCurrent : Bool) : Work :=
  match w.s.record c.id with
  | none => w.install c
  | some r =>
    if newerGen c.gen r.gen then (if r.live then w.modify r c afterCurrent else w.install c) else w

/-- R103, R107: a release with a gen reaches the record that the table holds. -/
def Work.releaseHeld (w : Work) (r : ClosureRecord) (gen : Gen) : Work :=
  if r.live then
    if gen = r.gen ∨ newerGen gen r.gen = true then w.release { r with gen := gen } else w
  else if newerGen gen r.gen then w.put { r with gen := gen, tombTime := some 300000 }
  else w

/-- R103: the bare tombstone of a RELEASE frame; that its time to expiry is UNTIL_RELEASED is the model's (assumption 31). -/
def bareTombstone (f : ReleaseFields) : ClosureRecord :=
  { id := f.id, gen := f.gen, anchor := f.anchor, firstLane := 1, width := 1, leadIn := 3, leadSpeed := .v80, role := none,
    localLanes := [], fullClosure := false, stage := .released, expiry := none, tombTime := some 300000, waitTime := none,
    awaiting := [], legendWaits := false, substitution := [], pendingMod := none }

/-- R103: a RELEASE frame's fields reach the table. -/
def Work.takeRelease (w : Work) (f : ReleaseFields) : Work :=
  if f.id = 0 then w
  else match w.s.record f.id with
    | some r => w.releaseHeld r f.gen
    | none =>
      let w := { w with s := w.s.unrefuse f.id }
      if w.s.position ≤ f.anchor ∧ f.anchor ≤ w.s.position + 3 ∧ w.s.clt.records.length < 8 then
        w.put (bareTombstone f)
      else w

/-- R107: a RELEASED entry in form reaches the table. The time to expiry of the tombstone that it creates is the one its
minutes give (assumption 31). -/
def Work.adoptRelease (w : Work) (c : Closure) : Work :=
  match w.s.record c.id with
  | some r => w.releaseHeld r c.gen
  | none =>
    let w := { w with s := w.s.unrefuse c.id }
    match roleOf w.s.position c.anchor c.leadIn with
    | none => w
    | some role =>
      if w.s.clt.records.length < 8 then w.put (freshRecord w.s.lanes c (some role)).tombstone else w

/-- R105: one handed closure entry acts on the table. -/
def Work.adopt (w : Work) (e : ClosureEntry) : Work :=
  match e.inForm with
  | none => w
  | some c => if e.stage = .released then w.adoptRelease c else w.offer c false

/-- R105: a handed list, taken entry after entry. -/
def Work.adoptAll (w : Work) (es : List ClosureEntry) : Work := es.foldl Work.adopt w

/-- R117, R123, R131: the review that a notice of R68 about the entry at an offset causes for the record of an id. -/
def Work.notice (w : Work) (k : Int) (id : Nat) : Work :=
  let w := if k = 1 ∨ k = 2 then w.substitute id else w
  (if k = -1 then w.checkLead id else if k = 1 then w.checkClear id else w).drain id

/-- R95, R111, R110: an event of the Closure Table, handled whole: its requests settled as one event of the Aspect
Arbiter, then the Speed Computer told where R110 says so. -/
def State.closureEvent (s : State) (f : Work → Work) : State :=
  let w := f ⟨s, false⟩
  if w.tell then w.s.settle.recompute else w.s.settle

/-- The ids of the records, in ascending order. -/
def State.recordIds (s : State) : List Nat := s.clt.records.map ClosureRecord.id

/-- R60, R68, R105: the notice of an arrival or an age about the entry for a position: first the handed entries are
taken, then the stages are read. -/
def State.noticeClosure (s : State) (position : Nat) (n : Notices) (handed : List ClosureEntry) : State :=
  if n.closure then
    s.closureEvent fun w =>
      let w := w.adoptAll handed
      w.s.recordIds.foldl (fun w id => w.notice (s.offset position) id) w
  else s

/-- R120: proof is evaluated for every record after a change of the module table or of the hold. -/
def State.reviewProof (s : State) : State :=
  s.closureEvent fun w => w.s.recordIds.foldl (fun w id => (w.prove id).drain id) w

/-- R98, R100: a CLOSE frame's fields reach the Closure Table. -/
def State.takeClose (s : State) (f : CloseFields) : State :=
  match f.inForm with
  | none => s
  | some c => s.closureEvent fun w => w.offer c f.afterCurrent

/-- R103: a RELEASE frame's fields reach the Closure Table. -/
def State.takeRelease (s : State) (f : ReleaseFields) : State := s.closureEvent fun w => w.takeRelease f

/-! ### Orphans -/

/-- R104: an orphan lane leaves the orphan set, and its request the CLOSED slot. -/
def State.dropOrphan (s : State) (l : Lane) : State :=
  { s with clt := { s.clt with orphans := s.clt.orphans.filter fun x => x != l } }.withdraw (laneAddr l) .closed (.orphan l)

/-- R104: an ORPHAN_CLEAR frame's position and lane reach the Closure Table. -/
def State.takeOrphanClear (s : State) (position lane : Nat) : State :=
  if position = s.position then
    match laneOf lane with
    | some l => if s.clt.orphans.contains l then s.closureEvent fun w => { w with s := w.s.dropOrphan l } else s
    | none => s
  else s

/-- R132: the orphan set seeded with the lanes found lit RED_X, and their requests placed as one event. -/
def State.seedOrphans (s : State) : State :=
  let lanes := s.lanesInUse.filter fun l => (s.mod (laneAddr l)).discoveryLit == some .redX
  { s with clt := { s.clt with orphans := lanes } }.closureEvent fun w =>
    { w with s := w.s.placeAll (lanes.map fun l => (laneAddr l, ⟨.closed, .orphan l, .redX⟩)) }

/-- R133: the live AT record of an id that holds orphan lanes absorbs them. -/
def Work.absorb (orphans : List Lane) (w : Work) (id : Nat) : Work :=
  match w.s.record id with
  | none => w
  | some r =>
    let found := r.localLanes.filter fun l => orphans.contains l
    if r.live = true ∧ r.role = some .atAnchor ∧ found ≠ [] then
      (({ w with s := found.foldl State.dropOrphan w.s } : Work).leadGo r).drain id
    else w

/-- R133: the orphan event at the end of JOIN. -/
def State.orphanEvent (s : State) : State :=
  s.closureEvent fun w => w.s.recordIds.foldl (Work.absorb s.clt.orphans) w

/-! ### Closure entries (R53, R54) -/

/-- R97: the remaining minutes of a record. A record whose own expiry has put it in WAIT_CLEAR gives 0 (assumption 31). -/
def ClosureRecord.minutes (r : ClosureRecord) : Nat := if r.live then (r.expiry.map minutesLeft).getD 0 else 0

/-- R54: the closure entry of a record. -/
def ClosureRecord.entry (r : ClosureRecord) : ClosureEntry :=
  { id := r.id, gen := r.gen, anchor := r.anchor, firstLane := r.firstLane, width := r.width, leadIn := r.leadIn,
    leadSpeed := r.leadSpeed, stage := r.stage, minutes := r.minutes, fullClosure := r.fullClosure,
    pendingMod := r.pendingMod.isSome, substituting := !r.substitution.isEmpty }

/-- R53: the closure entry list. -/
def State.closureEntries (s : State) : List ClosureEntry := s.clt.records.map ClosureRecord.entry

/-! ### The expiries -/

/-- R97, R124: the time to expiry of a record counts down. -/
def Stage.counts : Stage → Bool
  | .waitLead => true
  | .setting => true
  | .proven => true
  | .degraded => true
  | _ => false

/-- The state after an event of the Closure Table on the record of an id that meets a test, while CLT takes events. -/
def State.expire (s : State) (id : Nat) (due : ClosureRecord → Bool) (f : Work → ClosureRecord → Work) : State :=
  match s.record id with
  | some r => if s.onBus = true ∧ due r = true then (s.closureEvent fun w => f w r).drive else s
  | none => s

/-- The meaning of CLOSURE_EXPIRY (R97, R124): the expiry is a release. -/
def execClosureExpiry (id : Nat) (s : State) : Host.Outcome State Fault Refusal :=
  .next (s.expire id (fun r => r.stage.counts && r.expiry == some 0) fun w r => w.release r)

/-- The meaning of TOMBSTONE_EXPIRY (R96): the tombstone is removed. -/
def execTombstoneExpiry (id : Nat) (s : State) : Host.Outcome State Fault Refusal :=
  .next (s.expire id (fun r => !r.live && r.tombTime == some 0) fun w r => { w with s := w.s.dropRecord r.id })

/-- The meaning of REFUSED_LIFETIME_EXPIRY (R102): the id leaves the refused list. -/
def execRefusedLifetimeExpiry (id : Nat) (s : State) : Host.Outcome State Fault Refusal :=
  .next (if s.onBus ∧ s.clt.refused.any (fun r => r.id == id && r.lifetime == 0) then s.unrefuse id else s)

/-- The meaning of LEAD_WAIT_EXPIRY (R117, R127). -/
def execLeadWaitExpiry (id : Nat) (s : State) : Host.Outcome State Fault Refusal :=
  .next (s.expire id (fun r => r.waitsForLead && r.waitTime == some 0) fun w r => (w.leadGo r).drain id)

/-- The meaning of CLEAR_WAIT_EXPIRY (R123). -/
def execClearWaitExpiry (id : Nat) (s : State) : Host.Outcome State Fault Refusal :=
  .next (s.expire id (fun r => r.stage == .waitClear && r.waitTime == some 0) fun w r => w.bury r)

end Sys2Proof.Machine
end

