-- ==== Sys2Proof/Machine/Bus.lean ====
section
/-! DEFINITION. The Corridor Link: the beat and the composing of frames (R39, R49, R51 to R54), medium access (R40 to R43),
reception (R44 to R50) and the ages of the Neighbour Table (R62), with the meanings of its commands. -/

namespace Sys2Proof.Machine

/-! ### Notices and ages -/

/-- R67, R68: what has changed in the entry for a position is told to the Speed Computer and the Closure Table. -/
def State.tell (s : State) (position : Nat) (n : Notices) (handed : List ClosureEntry) : State :=
  (s.noticeSpeed position n).noticeClosure position n handed

/-- R62: the entry for a position is removed by age, and this is told. -/
def State.removeEntry (s : State) (position : Nat) : State := (s.dropNeighbour position).tell position .all []

/-- R62: an entry whose becoming stale has been told. -/
def Neighbour.toldStale (e : Neighbour) : Neighbour := { e with staleDue := false }

/-- R62: it is told that the entry for a position has become stale. -/
def State.tellStale (s : State) (position : Nat) : State :=
  State.tell { s with nbt := s.nbt.map fun e => if e.position = position then e.toldStale else e } position .all []

/-- R62: the entry is removed at the beat at which its age reaches 10. -/
def Neighbour.gone (e : Neighbour) : Bool := 10 ≤ e.age

/-- R62: the entry became stale at its last beat. -/
def Neighbour.newlyStale (e : Neighbour) : Bool := e.staleDue && 4 ≤ e.age && !e.gone

/-- What a beat's aging has still to tell about an entry is told, as the whole event that ENTRY_REMOVED or ENTRY_STALE
is, the posted limit included (R91). -/
def State.settleAge (s : State) (e : Neighbour) : State :=
  if e.gone then (s.removeEntry e.position).drive else if e.newlyStale then (s.tellStale e.position).drive else s

/-- Everything that the last beat's aging has still to tell is told, before a later event (assumption 5). -/
def State.settleAges (s : State) : State := s.nbt.foldl State.settleAge s

/-- The meaning of ENTRY_STALE (R62, R67, R68). -/
def execEntryStale (position : Nat) (s : State) : Host.Outcome State Fault Refusal :=
  .next (if s.onBus = true ∧ s.nbt.any (fun e => e.position == position && e.newlyStale) = true then
    (s.tellStale position).drive else s)

/-- The meaning of ENTRY_REMOVED (R62, R67, R68). -/
def execEntryRemoved (position : Nat) (s : State) : Host.Outcome State Fault Refusal :=
  .next (if s.onBus = true ∧ s.nbt.any (fun e => e.position == position && e.gone) = true then
    (s.removeEntry position).drive else s)

/-! ### CLASH (R46) -/

/-- R46: CLASH is set, or its timer starts again. -/
def State.setClash (s : State) : State := { s with crl := { s.crl with clash := true, clashTimer := 0 } }

/-- R46: the clash timer has reached 30. -/
def Crl.clashOver (c : Crl) : Bool := c.clash && 30 ≤ c.clashTimer

/-- R46: CLASH is cleared where its timer has reached 30; the timer, which does not count then, stands at 0 (assumption 29). -/
def State.clearClash (s : State) : State :=
  if s.crl.clashOver then { s with crl := { s.crl with clash := false, clashTimer := 0 } } else s

/-- The meaning of CLASH_CLEARED (R46). -/
def execClashCleared (s : State) : Host.Outcome State Fault Refusal :=
  .next (if s.onBus then s.clearClash.drive else s)

/-! ### Composing (R51 to R54) -/

/-- R53: the closure entry list is compared with that of the previous beat. -/
def Crl.updateVersion (c : Crl) (list : List ClosureEntry) : Crl :=
  { c with
    version := if c.previousList.getD [] = list then c.version else c.version + 1
    repeatCount := if c.previousList.getD [] = list then c.repeatCount else 3
    previousList := some list }

/-- R54: the STATE frame composed now is full. -/
def Crl.composesFull (c : Crl) : Bool := 0 < c.repeatCount || c.cycle.toNat % 8 == 0 || c.fullOwed

/-- R51, R190: the code of the carriageway speed. -/
def speedCodeOf (c : Option Carriage) : Byte :=
  match c with
  | none => 0xFF#8
  | some c =>
    match c.speed with
    | .empty => 0xFE#8
    | .kmh v => BitVec.ofNat 8 v

/-- R51, R190: the code of the carriageway occupancy. -/
def occCodeOf (c : Option Carriage) : BitVec 16 :=
  match c with
  | none => 0xFFFF#16
  | some c => BitVec.ofNat 16 c.occ

/-- R52: the lane entry of a lane. -/
def State.laneEntry (s : State) (l : Lane) : LaneEntry := ⟨(s.display (laneAddr l)).ordered, s.laneStatus l⟩

/-- R51 to R54: the STATE frame composed from the state as it stands. At the beat at which the clash timer reaches 30
the frame carries CLASH clear (R39, R46). -/
def State.stateFrame (s : State) : StateFrame :=
  { sender := s.position, cycle := s.crl.cycle, joining := s.stu.station == .join, queue := s.spc.queueFlag,
    measInvalid := s.msu.carriage.isNone, isolatedDown := s.spc.isolatedDown, signsDown := s.spc.signsDown,
    clash := s.crl.clash && !s.crl.clashOver, tableFull := !s.clt.refused.isEmpty, target := s.spc.target,
    posted := s.spc.posted, laneCount := s.lanes, version := s.crl.version, speedCode := speedCodeOf s.msu.carriage,
    occCode := occCodeOf s.msu.carriage, lanes := s.lanesInUse.map s.laneEntry,
    entries := if s.crl.composesFull then some s.closureEntries else none }

/-- R49, R51: the frame of a beat. -/
def State.composed (s : State) : OwnFrame :=
  if s.crl.announceOwed then .announce s.position s.crl.cycle s.stu.restart else .state s.stateFrame

/-- R54: after the composition of a STATE frame a repeat count above 0 is decreased. -/
def Crl.countRepeat (c : Crl) : Crl :=
  if c.announceOwed then c else { c with repeatCount := c.repeatCount - 1 }

/-! ### Medium access (R40 to R43) -/

/-- R40, R43: a newly composed frame is handed over. -/
def Crl.hand (c : Crl) (f : TxFrame) : Crl :=
  if c.phase = .sending then { c with nextFrame := some f }
  else { c with pendingFrame := some f, attempt := 0, phase := .waitIdle, backoff := 0 }

/-- R41, R43: what follows the end of a transmission that leaves no pending frame behind. With none pending, attempt keeps
the last frame's count (assumption 29). -/
def Crl.promote (c : Crl) : Crl :=
  match c.nextFrame with
  | some f => { c with pendingFrame := some f, nextFrame := none, attempt := 0, phase := .waitIdle }
  | none => { c with pendingFrame := none, phase := .quiet }

/-- R40: the transmission of the pending frame starts. -/
def Crl.start (c : Crl) : Crl :=
  { c with attempt := c.attempt + 1, phase := .sending, receiver := .ready, idleBits := 0 }

/-- R41, R49, R54: the flags that a sent frame clears. -/
def Crl.clearOwed (c : Crl) (f : TxFrame) : Crl :=
  { c with
    fullOwed := c.fullOwed && !(f.frame.isFull && f.answersOwed)
    announceOwed := c.announceOwed && !f.frame.isAnnounce }

/-- R41: the pending frame is sent. -/
def Crl.sentFrame (c : Crl) : Crl :=
  (match c.pendingFrame with
    | some f => c.clearOwed f
    | none => c).promote

/-- R42: the slots of the backoff after a collision. -/
def backoffSlots (position attempt : Nat) : Nat := 1 + (position + 5 * attempt) % 16

/-- R41 to R43: the transmission collides. -/
def Crl.collide (c : Crl) (position : Nat) : Crl :=
  match c.nextFrame with
  | some _ => c.promote
  | none => { c with phase := .backoff, backoff := backoffSlots position c.attempt }

/-- R42: the backoff ends. -/
def Crl.endBackoff (c : Crl) : Crl :=
  if c.attempt < 6 then { c with phase := .waitIdle, backoff := 0 }
  else { c with pendingFrame := none, phase := .quiet, backoff := 0 }

/-- The meaning of TRANSMISSION_START (R40): the line has been idle for 32 bit times. -/
def execTransmissionStart (idleBits : Nat) (s : State) : Host.Outcome State Fault Refusal :=
  .next (if s.onBus = true ∧ s.crl.phase = .waitIdle ∧ s.crl.pendingFrame ≠ none ∧ 32 ≤ s.crl.idleBits + idleBits then
    { s with crl := s.crl.start } else s)

/-- The meaning of FRAME_SENT (R41). -/
def execFrameSent (s : State) : Host.Outcome State Fault Refusal :=
  .next (if s.crl.phase = .sending then { s with crl := { s.crl.sentFrame with idleBits := 0 } } else s)

/-- The meaning of COLLISION (R41). -/
def execCollision (s : State) : Host.Outcome State Fault Refusal :=
  .next (if s.crl.phase = .sending then { s with crl := { s.crl.collide s.position with idleBits := 0 } } else s)

/-- The meaning of BACKOFF_END (R42). -/
def execBackoffEnd (s : State) : Host.Outcome State Fault Refusal :=
  .next (if s.crl.phase = .backoff then { s with crl := s.crl.endBackoff } else s)

/-! ### The beat (R39) -/

/-- R39, steps 1 to 3, with the beat timer started again (R38). -/
def Crl.beatStart (c : Crl) : Crl :=
  { c with
    beatTimer := some 1000
    cycle := if c.firstBeat then c.cycle else c.cycle + 1
    firstBeat := false
    pendingFrame := if c.phase = .sending then c.pendingFrame else none
    clashTimer := if c.clash then satAdd 30 c.clashTimer else c.clashTimer }

/-- R39, steps 4 to 6. -/
def State.beatFrame (s : State) : State :=
  let s := { s with crl := s.crl.updateVersion s.closureEntries }
  { s with crl := (s.crl.countRepeat).hand ⟨s.composed, true⟩ }

/-- R62: every entry ages by one beat. -/
def State.ageEntries (s : State) : State := { s with nbt := s.nbt.map Neighbour.aged }

/-- R39, R62: the beat. -/
def State.beat (s : State) : State :=
  let s := s.settleAges.clearClash
  (State.beatFrame { s with crl := s.crl.beatStart }).ageEntries

/-- The meaning of BEAT (R39): it falls when the beat timer of a station in JOIN or RUN has run out. -/
def execBeat (s : State) : Host.Outcome State Fault Refusal :=
  .next (if s.onBus = true ∧ s.crl.beatTimer = some 0 then s.beat.drive else s)

/-! ### Reception (R44 to R50) -/

/-- R189, R40: the line after a frame: idle for 10 bit times, or still busy after a framing error. -/
def State.lineAfter (s : State) (f : RxFrame) : State :=
  { s with crl :=
    { s.crl with
      receiver := if f.framingError then .awaitIdle else .ready
      idleBits := if f.framingError then 0 else 10 } }

/-- R48, R57, R58: a STATE frame of another station is an arrival, unless it is a stale duplicate or comes from too far. -/
def State.arrive (s : State) (f : StateFrame) : State :=
  if s.inRange f.sender then
    let old := s.entryFor f.sender
    if (old.bind (·.cycle)).any (fun c => !newerCycle f.cycle c) then s
    else
      let new := entryFrom old f
      (s.putNeighbour new).tell f.sender (arrivalNotices old new f.entries.isSome) (f.entries.getD [])
  else s

/-- R45, R46, R48: an accepted STATE frame. -/
def State.takeState (s : State) (f : StateFrame) : State := if f.sender = s.position then s.setClash else s.arrive f

/-- R54: an ANNOUNCE was accepted after the frames that wait or are being sent were composed. -/
def Crl.oweFull (c : Crl) : Crl :=
  { c with
    fullOwed := true
    pendingFrame := c.pendingFrame.map fun f => { f with answersOwed := false }
    nextFrame := c.nextFrame.map fun f => { f with answersOwed := false } }

/-- R61: the entry for an ANNOUNCE's sender, where one is held, and what has changed in it. -/
def State.announceEntry (s : State) (sender : Nat) (k : RestartKind) : State :=
  match s.entryFor sender with
  | none => s
  | some old => (s.putNeighbour (old.announced k)).tell sender (arrivalNotices (some old) (old.announced k) false) []

/-- R45, R46, R50: an accepted ANNOUNCE. -/
def State.takeAnnounce (s : State) (sender : Nat) (k : RestartKind) : State :=
  if sender = s.position then s.setClash
  else if s.inRange sender then ({ s with crl := s.crl.oweFull } : State).announceEntry sender k
  else s

/-- R44, R47: a frame of a kind that has passed the checks is handled; one whose payload has not the length or the
codes that its kind calls for is discarded (R190). -/
def State.takeFrame (s : State) (r : Received) : State :=
  match r.kind with
  | .state => (stateFrameOf r).elim s s.takeState
  | .announce => (announceOf r.payload).elim s (s.takeAnnounce r.sender)
  | .close => (closeOf r.payload).elim s s.takeClose
  | .release => (releaseOf r.payload).elim s s.takeRelease
  | .ceiling => (ceilingOf r.payload).elim s s.takeCeiling
  | .orphanClear => (orphanClearOf r.payload).elim s fun p => s.takeOrphanClear p.1 p.2

/-- R37, R44: a frame of a row's kind has been received whole, while the station is SENDING too: R54 names an ANNOUNCE that is
accepted then. Which frames reach a station that is sending is the sender's (assumption 21). -/
def State.receive (s : State) (k : FrameKind) (f : RxFrame) : State :=
  if s.onBus = true then
    let s := s.settleAges.lineAfter f
    (match checkFrame f with
      | some r => if r.kind = k then s.takeFrame r else s
      | none => s).drive
  else s

/-- The meaning of STATE_RECEIVED (R44 to R46, R48). -/
def execStateReceived (frame : RxFrame) (s : State) : Host.Outcome State Fault Refusal := .next (s.receive .state frame)

/-- The meaning of ANNOUNCE_RECEIVED (R44 to R46, R50). -/
def execAnnounceReceived (frame : RxFrame) (s : State) : Host.Outcome State Fault Refusal :=
  .next (s.receive .announce frame)

/-- The meaning of CLOSE_RECEIVED (R44, R47, R100). -/
def execCloseReceived (frame : RxFrame) (s : State) : Host.Outcome State Fault Refusal := .next (s.receive .close frame)

/-- The meaning of RELEASE_RECEIVED (R44, R47, R103). -/
def execReleaseReceived (frame : RxFrame) (s : State) : Host.Outcome State Fault Refusal :=
  .next (s.receive .release frame)

/-- The meaning of CEILING_RECEIVED (R44, R47, R80). -/
def execCeilingReceived (frame : RxFrame) (s : State) : Host.Outcome State Fault Refusal :=
  .next (s.receive .ceiling frame)

/-- The meaning of ORPHAN_CLEAR_RECEIVED (R44, R47, R104). -/
def execOrphanClearReceived (frame : RxFrame) (s : State) : Host.Outcome State Fault Refusal :=
  .next (s.receive .orphanClear frame)

/-- The meaning of LINE_ACTIVITY_NOT_A_FRAME (R189, R40): a first byte other than the sync forms no frame. -/
def execLineActivityNotAFrame (firstByte : Byte) (s : State) : Host.Outcome State Fault Refusal :=
  .next (if s.onBus = true ∧ firstByte ≠ syncByte then
    { s with crl := { s.crl with receiver := .awaitIdle, idleBits := 0 } } else s)

end Sys2Proof.Machine
end

