-- ==== Sys2Proof/Machine/Loops.lean ====
section
/-! DEFINITION. The Loop Interface: debounce (R2), the millisecond's sampling, loop faults (R14 to R18), the edge queue
(R4, R5) and the RESYNC exit test (R11), with the meanings of EDGE_RECOGNISED, STUCK_ON and EDGE_TAKEN. -/

namespace Sys2Proof.Machine

/-! ### Sampling -/

/-- R2: one sample of a loop input creates or drops the loop's candidate; `now` is the counter value of the sample. -/
def LoopState.sample (x : LoopState) (now : Stamp) (read : LoopLevel) : LoopState :=
  if read = x.level then { x with candidate := none }
  else { x with candidate := some (x.candidate.getD now) }

/-- R14: occupied time counts each millisecond while the loop reads OCCUPIED. -/
def LoopState.countOccupied (x : LoopState) : LoopState :=
  if x.level = .occupied then { x with occupiedMs := satAdd 300000 x.occupiedMs } else x

/-- R2, R14: one millisecond of one loop. -/
def LoopState.millisecond (x : LoopState) (now : Stamp) (read : LoopLevel) : LoopState :=
  (x.sample now read).countOccupied

/-- R1, R2: the millisecond counter counts on and the loops in use are sampled. -/
def State.sampleLoops (s : State) (sample : LoopSample) : State :=
  let now := s.lpi.ms + 1
  let one := fun (l : Lane) =>
    if l.val < s.lanes then
      (⟨(s.loop l .a).millisecond now (sample.get l).a, (s.loop l .b).millisecond now (sample.get l).b⟩ : Pair LoopState)
    else s.lpi.loops.get l
  { s with lpi := { s.lpi with ms := now, loops := Per6.build one } }

/-- R19: the loops in use at the first sample, in DISCOVER. -/
def firstSample (n : Nat) (sample : LoopSample) : Per6 (Pair LoopState) :=
  Per6.build fun l =>
    if l.val < n then
      ⟨{ LoopState.reset with level := (sample.get l).a }, { LoopState.reset with level := (sample.get l).b }⟩
    else ⟨LoopState.reset, LoopState.reset⟩

/-! ### Fault conditions -/

/-- R14: the STUCK_ON condition is present. -/
def LoopState.stuckOn (x : LoopState) : Bool :=
  x.level == .occupied && 300000 ≤ x.occupiedMs && 5 ≤ x.partnerWhileOccupied

/-- R15: the STUCK_OFF condition is present. -/
def LoopState.stuckOff (x : LoopState) : Bool := x.level == .clear && 30 ≤ x.partnerWhileClear

/-- R16: the CHATTER condition is present. -/
def LoopState.chatter (x : LoopState) : Bool := 21 ≤ x.shortOccupancies

/-- R17, of the loop itself: a condition becomes present. -/
def LoopState.conditionPresent (x : LoopState) (k : FaultKind) : LoopState :=
  if x.fault = .faulty then { x with cleanWindow := false }
  else { x with fault := .faulty, kind := some k, cleanWindow := false }

/-- R17: a condition becomes present on a loop; on a loop that was not FAULTY the lane's mode changes, the window notes
it (R26), and an interval open on the loop closes at the present counter value (R12). -/
def State.raiseFault (s : State) (l : Lane) (p : Loop) (k : FaultKind) : State :=
  let was := (s.loop l p).fault
  let s := s.setLoop l p ((s.loop l p).conditionPresent k)
  if was = .faulty then s
  else
    let m := (s.lane l).closeIntervalOn p s.lpi.ms
    s.setLane l { m with window := m.window.map (·.noteFaults (s.loop l .a).fault (s.loop l .b).fault) }

/-! ### Recognition -/

/-- R2: the candidate's level has been read at its start time and at the four samples after it. -/
def LoopState.ripe (x : LoopState) (now : Stamp) : Option Stamp :=
  x.candidate.bind fun t => if 4 ≤ (now - t).toNat then some t else none

/-- R2, R14 to R16: the loop's own fields when its OCCUPY is recognised. -/
def LoopState.occupyRecognised (x : LoopState) (t : Stamp) : LoopState :=
  { x with level := .occupied, candidate := none, occupyTime := t, occupiedMs := 0, partnerWhileOccupied := 0,
           partnerWhileClear := 0 }

/-- R2, R14, R16: the loop's own fields when its CLEAR is recognised. -/
def LoopState.clearRecognised (x : LoopState) (t : Stamp) : LoopState :=
  { x with level := .clear, candidate := none, occupiedMs := 0,
           shortOccupancies := if (t - x.occupyTime).toNat < 30 then satAdd 255 x.shortOccupancies else x.shortOccupancies }

/-- R14, R15: the partner's counts when this loop's OCCUPY is recognised. -/
def LoopState.partnerOccupied (x : LoopState) : LoopState :=
  match x.level with
  | .occupied => { x with partnerWhileOccupied := satAdd 255 x.partnerWhileOccupied }
  | .clear => { x with partnerWhileClear := satAdd 255 x.partnerWhileClear }

/-- R14, R15: a partner's OCCUPY counted on a loop; a condition that this recognition makes present is raised. -/
def State.countPartner (s : State) (l : Lane) (q : Loop) : State :=
  let before := s.loop l q
  let after := before.partnerOccupied
  let s := s.setLoop l q after
  if after.stuckOn ∧ ¬ before.stuckOn then s.raiseFault l q .stuckOn
  else if after.stuckOff ∧ ¬ before.stuckOff then s.raiseFault l q .stuckOff
  else s

/-- R2, R14 to R17: the loop and fault fields at the recognition of an edge. -/
def State.recognise (s : State) (e : Edge) : State :=
  let before := s.loop e.lane e.loop
  match e.kind with
  | .occupy => (s.setLoop e.lane e.loop (before.occupyRecognised e.time)).countPartner e.lane e.loop.partner
  | .clear =>
    let after := before.clearRecognised e.time
    let s := s.setLoop e.lane e.loop after
    if after.chatter ∧ ¬ before.chatter then s.raiseFault e.lane e.loop .chatter else s

/-! ### The edge queue -/

/-- R11: both recognised levels of the lane are CLEAR and the queue holds no edge of the lane. -/
def State.laneQuiet (s : State) (l : Lane) : Bool :=
  (s.loop l .a).level == .clear && (s.loop l .b).level == .clear && s.lpi.queue.all (fun e => e.lane != l)

/-- R11: the exit test of RESYNC. -/
def State.resyncTest (s : State) (l : Lane) : State :=
  if (s.lane l).pairing = .resync ∧ s.laneQuiet l then
    s.setLane l { s.lane l with pairing := .empty, vehicle := none }
  else s

/-- R4, R5: an edge offered to the edge queue, and the exit test of R11 that follows. -/
def State.offerEdge (s : State) (e : Edge) : State :=
  (if s.lpi.queue.length < 64 then { s with lpi := { s.lpi with queue := s.lpi.queue ++ [e] } }
   else s.setLane e.lane ((s.lane e.lane).loseEdge e.time)).resyncTest e.lane

/-- R2: the edge that a ripe candidate gives. -/
def State.ripeEdge (s : State) (l : Lane) (p : Loop) : Option Edge :=
  ((s.loop l p).ripe s.lpi.ms).map fun t =>
    ⟨l, p, if (s.loop l p).level = .clear then .occupy else .clear, t⟩

/-- EDGE_RECOGNISED (R2) at a loop in use: LPI updates the loop and its fault conditions and offers the edge. -/
def State.edgeRecognised (s : State) (l : Lane) (p : Loop) : State :=
  if s.running ∧ l.val < s.lanes then
    match s.ripeEdge l p with
    | some e => ((s.recognise e).offerEdge e).drive
    | none => s
  else s

/-- The meaning of EDGE_RECOGNISED. -/
def execEdgeRecognised (lane : Nat) (loop : Loop) (s : State) : Host.Outcome State Fault Refusal :=
  .next <| match laneOf lane with
    | some l => s.edgeRecognised l loop
    | none => s

/-- The meaning of STUCK_ON (R14, R17): the condition that is present on a loop in use is taken. -/
def execStuckOn (lane : Nat) (loop : Loop) (s : State) : Host.Outcome State Fault Refusal :=
  .next <| match laneOf lane with
    | some l =>
      if s.running ∧ l.val < s.lanes ∧ (s.loop l loop).stuckOn then (s.raiseFault l loop .stuckOn).drive else s
    | none => s

/-- R4, R11: the edge at the head of the queue is taken; in RESYNC it is discarded and the exit test follows. -/
def State.takeEdge (s : State) (e : Edge) (rest : List Edge) : State :=
  let s := { s with lpi := { s.lpi with queue := rest } }
  if (s.lane e.lane).pairing = .resync then s.resyncTest e.lane
  else s.setLane e.lane ((s.lane e.lane).takeEdge s.spacing (s.mode e.lane) e)

/-- The meaning of EDGE_TAKEN (R4). -/
def execEdgeTaken (s : State) : Host.Outcome State Fault Refusal :=
  .next <| match s.lpi.queue with
    | e :: rest => if s.running then s.takeEdge e rest else s
    | [] => s

/-! ### The window end at the loops -/

/-- R18: the fault state of a loop at a window end, by the lane's paired count. -/
def LoopState.evaluate (x : LoopState) (pairedCount : Nat) : LoopState :=
  match x.fault with
  | .faulty =>
    if x.cleanWindow ∧ 3 ≤ pairedCount then { x with fault := .recovering, kind := none } else x
  | .recovering => if x.cleanWindow then { x with fault := .sound } else x
  | .sound => x

/-- R16, R18: the counts that begin anew after the evaluation. -/
def LoopState.newWindow (x : LoopState) : LoopState :=
  let x := { x with shortOccupancies := 0 }
  { x with cleanWindow := !(x.stuckOn || x.stuckOff || x.chatter) }

/-- R18: LPI's evaluation of every loop in use at a window end; each lane's paired count becomes 0. -/
def State.evaluateLoops (s : State) : State :=
  let one := fun (l : Lane) (p : Loop) =>
    if l.val < s.lanes then ((s.loop l p).evaluate (s.lane l).pairedCount).newWindow else s.loop l p
  { s with
    lpi := { s.lpi with loops := Per6.build fun l => ⟨one l .a, one l .b⟩ }
    msu := { s.msu with lanes := Per6.build fun l =>
      if l.val < s.lanes then { s.lane l with pairedCount := 0 } else s.lane l } }

end Sys2Proof.Machine
end

