-- ==== Sys2Proof/Machine/Replies.lean ====
section
/-! DEFINITION. Sign-link transactions as bytes (R191): requests, and replies with the test that makes a reply corrupt. -/

namespace Sys2Proof.Machine

/-- R191: the sum of bytes modulo 256. -/
def byteSum (bs : List Byte) : Byte := bs.foldl (· + ·) 0#8

/-- R191: bytes with the checksum that makes their sum 0. -/
def withChecksum (bs : List Byte) : List Byte := bs ++ [-(byteSum bs)]

/-- R191: the code of a sign-link command. -/
def LinkCommand.code : LinkCommand → Nat
  | .ident => 1
  | .set .. => 2
  | .proof => 3
  | .refresh => 4
  | .blank => 5

/-- R191: the request payload of a command. -/
def LinkCommand.payload : LinkCommand → List Byte
  | .set a t => [BitVec.ofNat 8 a.code, t]
  | _ => []

/-- R191: the bytes of a transaction's request. -/
def Transaction.bytes (t : Transaction) : List Byte :=
  withChecksum (BitVec.ofNat 8 (0x80 + t.addr.val + 1) :: BitVec.ofNat 8 t.command.code :: t.command.payload)

/-- R191: the kind that a kind byte names. -/
def moduleKindOf (b : Byte) : Option ModuleKind :=
  if b = 0x01#8 then some .lane else if b = 0x02#8 then some .lantern else if b = 0x03#8 then some .legend else none

/-- R191: the health that a health byte names. -/
def healthOf (b : Byte) : Option Health :=
  if b = 0x00#8 then some .ok else if b = 0x01#8 then some .degraded else if b = 0x02#8 then some .fail else none

/-- R191: whether a state byte says TRANSITION. -/
def transitionOf (b : Byte) : Option Bool :=
  if b = 0x00#8 then some false else if b = 0x01#8 then some true else none

/-- The payload of an IDENT reply: the kind byte and the capability as replied. -/
structure IdentReply where
  kind : Byte
  repertoire : BitVec 16
  blankUnits : Nat
  rampExponent : Nat
  deriving DecidableEq, Repr

/-- The payload of a PROOF reply. -/
structure ProofReply where
  lit : Aspect
  transition : Bool
  health : Health
  tag : Tag
  deriving DecidableEq, Repr

/-- A reply that is whole and correct (R157): REFUSE, or ACCEPT with the payload of its command. -/
inductive Reply where
  | refuse
  | accept
  | ident (r : IdentReply)
  | proof (r : ProofReply)
  deriving DecidableEq, Repr

/-- R191: a PROOF payload; a code outside the tables makes the reply corrupt. -/
def proofPayload (lit st h tag : Byte) : Option Reply :=
  match aspectOfCode lit.toNat, transitionOf st, healthOf h with
  | some a, some tr, some hl => some (.proof ⟨a, tr, hl, tag⟩)
  | _, _, _ => none

/-- R191: the reply payload that a command calls for. -/
def acceptPayload (c : LinkCommand) (payload : List Byte) : Option Reply :=
  match c, payload with
  | .ident, [k, rh, rl, bu, re] => some (.ident ⟨k, BitVec.ofNat 16 (word16 rh rl), bu.toNat, re.toNat⟩)
  | .proof, [lit, st, h, tag] => proofPayload lit st h tag
  | .set .., [] => some .accept
  | .refresh, [] => some .accept
  | .blank, [] => some .accept
  | _, _ => none

/-- R157, R191: the reply to a transaction, or `none` for one that is corrupt and so missing. -/
def replyOf (t : Transaction) (bs : List Byte) : Option Reply :=
  if byteSum bs ≠ 0#8 then none
  else match bs with
    | echo :: status :: rest =>
      if echo.toNat ≠ t.addr.val + 1 ∨ rest = [] then none
      else if status = 0x02#8 then (if rest.dropLast = [] then some .refuse else none)
      else if status = 0x01#8 then acceptPayload t.command rest.dropLast
      else none
    | _ => none

end Sys2Proof.Machine
end

