-- ==== Sys2Proof/Machine/Windows.lean ====
section
/-! DEFINITION. The measurement windows: opening (R20, R21, R25, R26), closing with mark and record (R24, R27 to R29), the
fast, slow and carriageway values (R30 to R34), with the meaning of WINDOW_END. -/

namespace Sys2Proof.Machine

/-! ### Closing a window -/

/-- R27: the mark of a closing window, the first whose condition holds. -/
def Accum.mark (w : Accum) : Mark :=
  if w.closedSeen then .closed
  else if w.startSeen then .start
  else if w.overflowSeen then .overflow
  else if w.faultSeen then .loopFault
  else if w.recoverySeen then .recovery
  else if w.singleSeen then .countOnly
  else .valid

/-- R28: the window record of a closing accumulator. -/
def Accum.record (w : Accum) : WindowRecord :=
  { seq := w.seq, count := w.count, speedCount := w.speedCount, speedSum := w.speedSum, occMs := w.occMs,
    occ := w.occMs / 15, mark := w.mark }

/-- R29: a record appended to a ring, from which the oldest of 9 is removed. -/
def pushRecord (ring : List WindowRecord) (r : WindowRecord) : List WindowRecord :=
  (ring ++ [r]).drop (ring.length + 1 - 8)

/-- R24: the open interval of a lane credited to the closing window, up to the window's end time. -/
def LaneState.creditOpen (m : LaneState) (now : Stamp) : LaneState :=
  match m.interval with
  | some iv => { m with window := m.window.map (·.credit iv now) }
  | none => m

/-- R24, R28, R29: a lane's current window closes and its record joins the ring. -/
def LaneState.closeWindow (m : LaneState) (now : Stamp) : LaneState :=
  let m := m.creditOpen now
  match m.window with
  | some w => { m with window := none, ring := pushRecord m.ring w.record }
  | none => m

/-! ### Opening a window -/

/-- R21, R25, R26: the accumulator of a window that opens. -/
def openAccum (seq : Cycle) (now : Stamp) (start closed : Bool) (a b : FaultState) : Accum :=
  Accum.noteFaults
    { seq, count := 0, speedCount := 0, speedSum := 0, occMs := 0, creditedTo := now, closedSeen := closed,
      startSeen := start, overflowSeen := false, faultSeen := false, recoverySeen := false, singleSeen := false } a b

/-- R21, R23: a lane's window opens; an interval already open is remembered as open before it. -/
def LaneState.openWindow (m : LaneState) (w : Accum) : LaneState :=
  { m with window := some w, interval := m.interval.map fun iv => { iv with beforeWindow := true } }

/-- R20, R21: the next window of every lane in use opens, and the window timer starts. `start` is YES in window 0. -/
def State.openWindows (s : State) (start : Bool) : State :=
  { s with msu :=
    { s.msu with
      windowTimer := some 15000
      nextSeq := s.msu.nextSeq + 1
      lanes := Per6.build fun l =>
        if l.val < s.lanes then
          (s.lane l).openWindow (openAccum s.msu.nextSeq s.lpi.ms start
            ((s.display (laneAddr l)).winner == .redX) (s.loop l .a).fault (s.loop l .b).fault)
        else s.lane l } }

/-- R20: the current window of every lane in use closes. -/
def State.closeWindows (s : State) : State :=
  { s with msu := { s.msu with lanes := Per6.build fun l =>
      if l.val < s.lanes then (s.lane l).closeWindow s.lpi.ms else s.lane l } }

/-! ### Derived values -/

/-- R30: a record counts for occupancy and flow. -/
def Mark.counts (m : Mark) : Bool := m == .valid || m == .countOnly

/-- A sum over records. -/
def sumOf (f : WindowRecord → Nat) (rs : List WindowRecord) : Nat := (rs.map f).foldr (· + ·) 0

/-- R31 to R33: the speed that the records valid for speed give. -/
def pooledSpeed (rs : List WindowRecord) : SpeedValue :=
  let v := rs.filter fun r => r.mark == .valid
  if sumOf (·.speedCount) v = 0 then .empty else .kmh (sumOf (·.speedSum) v / sumOf (·.speedCount) v)

/-- R31: the fast values, from the newest record. -/
def fastOf (ring : List WindowRecord) : Option Fast :=
  match ring.getLast? with
  | none => none
  | some r => if r.mark.counts then some ⟨pooledSpeed [r], r.occ⟩ else none

/-- R32: the slow values. -/
def slowOf (ring : List WindowRecord) : Option Slow :=
  let v := ring.filter (·.mark.counts)
  if 4 ≤ v.length then
    some ⟨pooledSpeed ring, sumOf (·.occMs) v / (15 * v.length), sumOf (·.count) v * 3600 / (15 * v.length)⟩
  else none

/-- R33: a lane is open. -/
def laneOpen (ring : List WindowRecord) : Bool :=
  match ring.getLast? with
  | none => false
  | some r => r.mark != .closed

/-- R33: the lanes that are open and slow-valid. -/
def State.carriageLanes (s : State) : List Lane :=
  s.lanesInUse.filter fun l => laneOpen (s.lane l).ring && (slowOf (s.lane l).ring).isSome

/-- R33, R34: the carriageway measurement over some lanes. -/
def State.carriageOf (s : State) (ls : List Lane) : Option Carriage :=
  if ls = [] then none
  else some
    { speed := pooledSpeed (ls.flatMap fun l => (s.lane l).ring)
      occ := (ls.filterMap fun l => (slowOf (s.lane l).ring).map (·.occ)).foldr (· + ·) 0 / ls.length }

/-- R35: the derived values formed anew. -/
def State.derive (s : State) : State :=
  { s with msu :=
    { s.msu with
      carriage := s.carriageOf s.carriageLanes
      lanes := Per6.build fun l =>
        if l.val < s.lanes then { s.lane l with fast := fastOf (s.lane l).ring, slow := slowOf (s.lane l).ring }
        else s.lane l } }

/-! ### The window end -/

/-- R18, R20, R24 to R29, R31 to R35: the window end, up to the Speed Computer's recomputation. -/
def State.endWindow (s : State) : State := (s.closeWindows.evaluateLoops.openWindows false).derive

/-- The meaning of WINDOW_END (R20): it falls when the window timer of a station in JOIN or RUN has run out. -/
def execWindowEnd (s : State) : Host.Outcome State Fault Refusal :=
  .next (if s.onBus = true ∧ s.msu.windowTimer = some 0 then s.endWindow.recomputeWindow.drive else s)

end Sys2Proof.Machine
end

