-- ==== Sys2Proof/Machine/Startup.lean ====
section
/-! DEFINITION. The Start-up Sequencer: reset and straps (R178 to R180), the end of discovery and the entry to JOIN (R181,
R182), the entry to RUN (R183), with the meanings of POWER_APPLIED, RESET_ASSERTED, RESET_RELEASED and JOIN_END. -/

namespace Sys2Proof.Machine

/-! ### Reset -/

/-- R179: the validity of sampled straps. -/
def strapValidity (st : Straps) : StrapValidity :=
  let okP := 1 ≤ st.position.toNat && st.position.toNat ≤ 999
  let okN := 2 ≤ st.laneCount.toNat && st.laneCount.toNat ≤ 6
  if okP && okN then .valid else if okN then .badPosition else if okP then .badLaneCount else .both

/-- R178: every block at its values after reset, with a restart kind; the level of HOLDREQ, which the tool drives, and
the model's own fields stay. -/
def State.reboot (s : State) (k : RestartKind) : State :=
  { State.reset with
    stu := { Stu.reset with restart := k }
    slc := { Slc.reset with holdReq := s.slc.holdReq }
    pending := s.pending
    choices := s.choices }

/-- The meaning of POWER_APPLIED (R178): the part holds itself in RESET, restart kind COLD. -/
def execPowerApplied (s : State) : Host.Outcome State Fault Refusal := .next (s.reboot .cold)

/-- R178, R179: reset is asserted; the sampled straps are held until the next release. -/
def State.assertReset (s : State) (keep : Bool) : State :=
  let k : RestartKind := if keep then .keep else .cold
  { s.reboot k with stu := { Stu.reset with restart := k, straps := s.stu.straps, validity := s.stu.validity } }

/-- The meaning of RESET_ASSERTED (R178). Taken in RESET it samples KEEP anew, after POWER_APPLIED too (assumption 26). -/
def execResetAsserted (keep : Bool) (s : State) : Host.Outcome State Fault Refusal := .next (s.assertReset keep)

/-- R174: the entry of a module as discovery starts: its values at reset. That an earlier pass has not found it stays
known, because FAULT for an ABSENT module ends only when a restarted discovery finds it (R185). -/
def Module.rediscover (m : Module) : Module :=
  { Module.reset with discovered := if m.discovered = .notFound then .notFound else .unknown }

/-- R160: discovery at its start: an IDENT to every module address, in address order. -/
def State.startDiscovery (s : State) : State :=
  { s with slc :=
    { s.slc with
      modules := Per8.build fun a => (s.mod a).rediscover
      discovery := some { identing := s.moduleAddrs, acting := [], firstReply := none, lastReply := none, proofDue := true } } }

/-- R174, R176, R180: at reset release HOLDACK is asserted and the link HELD while HOLDREQ is asserted. -/
def State.followHold (s : State) : State :=
  if s.slc.holdReq then { s with slc := { s.slc with link := .held, holdAck := true } } else s

/-- R181: the entry to DISCOVER, with the first sample of the loops (R19) and the exit test of every lane (R11). -/
def State.enterDiscover (s : State) (sample : LoopSample) : State :=
  let s := { s with
    stu := { s.stu with station := .discover }
    lpi := { Lpi.reset with loops := firstSample s.lanes sample } }
  let s := s.lanesInUse.foldl State.resyncTest s
  if s.slc.holdReq then s.followHold else s.startDiscovery

/-- R179: reset is released and the straps are sampled. -/
def State.releaseReset (s : State) (straps : Straps) (sample : LoopSample) : State :=
  let s := { s with stu := { s.stu with straps := straps, validity := strapValidity straps } }
  (if strapValidity straps = .valid then s.enterDiscover sample
   else ({ s with stu := { s.stu with station := .stopped } } : State).followHold).drive

/-- The meaning of RESET_RELEASED (R179); reset can be released only while it is asserted. -/
def execResetReleased (straps : Straps) (sample : LoopSample) (s : State) : Host.Outcome State Fault Refusal :=
  .next (if s.stu.station = .inReset then s.releaseReset straps sample else s)

/-! ### The end of discovery and the entry to JOIN -/

/-- R93: at a keep restart T is the lowest speed proven lit on a lane module, or NONE. -/
def State.takeLitTarget (s : State) : State :=
  { s with spc := { s.spc with target := leastLimit s.provenSpeeds, posted := leastLimit s.provenSpeeds } }

/-- R182: the JOIN timer, the beat timer (R38) and announce owed (R49) at the entry to JOIN. -/
def State.startJoin (s : State) : State :=
  { s with
    stu := { s.stu with station := .join, joinTimer := some 5000 }
    crl := { s.crl with beatTimer := some (s.position * 37 % 1000), announceOwed := true } }

/-- R182: the entry to JOIN: the corridor link, window 0 (R20), then the Speed Computer (R70). -/
def State.enterJoin (s : State) : State := ((s.startJoin.openWindows true).drive).startSpeed

/-- R181: the end of discovery, as one event. -/
def State.endDiscovery (s : State) : State :=
  let s := { s with slc := { s.slc with discovery := none } }
  let s := s.takeOrdered
  let s := match s.stu.restart with
    | .cold => s
    | .keep => s.takeLitTarget.seedOrphans
  s.enterJoin.drive

/-! ### The entry to RUN -/

/-- R183: JOIN ends, as one event. -/
def State.endJoin (s : State) : State :=
  let s := s.orphanEvent
  ({ s with stu := { s.stu with station := .run, joinTimer := none } } : State).enterRunAsa.drive

/-- The meaning of JOIN_END (R183): it falls when the JOIN timer has run out. -/
def execJoinEnd (s : State) : Host.Outcome State Fault Refusal :=
  .next (if s.stu.station = .join ∧ s.stu.joinTimer = some 0 then s.endJoin else s)

end Sys2Proof.Machine
end

