-- ==== Sys2Proof/Machine/SignLink.lean ====
section
/-! DEFINITION. The Sign Link Controller: the start of transactions by the arbiter's list (R159), their outcomes (R157 to
R174), polls, refreshes and IDENT retries falling due, the maintenance hold, with the meanings of its commands. -/

namespace Sys2Proof.Machine

/-! ### The module table -/

/-- The transition time of a module (section The module table). -/
def Module.transitionTime (m : Module) : Nat := m.blankUnits.getD 0 * 10 + 2 ^ m.rampExponent.getD 0

/-- R160, R170: kind and capability recorded from an IDENT reply, in form. A wrong kind reported before is reported no longer, the
model's choice (assumption 35). -/
def Module.capable (m : Module) (k : ModuleKind) (r : IdentReply) : Module :=
  { m with
    kind := some k, repertoire := repertoireInForm k r.repertoire, blankUnits := some (blankUnitsInForm r.blankUnits),
    rampExponent := some (rampExponentInForm r.rampExponent), wrongKind := none }

/-- R160, R170: an IDENT reply is of the kind its address requires. -/
def IdentReply.kindFits (r : IdentReply) (a : Addr) : Bool := moduleKindOf r.kind == some (kindRequired a)

/-- R169: the entry of a module that becomes FAILED. -/
def Module.fail (m : Module) : Module :=
  { m with
    state := .failed, proven := none, health := none, sinceSetEnd := none, nextPoll := none, pollDue := false,
    identTimer := some 60000, answered := false, identDue := false }

/-- R164, R173, R161: the entry of a module whose STEADY reply proves an aspect. -/
def Module.steady (m : Module) (r : ProofReply) : Module :=
  { m with
    state := .ready, sent := some r.lit, sentTag := some r.tag, proven := some r.lit, health := some r.health,
    sinceSetEnd := none, nextPoll := none, pollDue := false, answered := false }

/-- R169, R150: a module becomes FAILED, unless it already is; `anew` fails a FAILED module again (R170). -/
def State.failModule (s : State) (a : Addr) (anew : Bool) : State :=
  if (s.mod a).state = .failed ∧ anew = false then s
  else (s.setMod a (s.mod a).fail).moduleFailedAsa a

/-! ### Starting a transaction -/

/-- R157, R167: a transaction starts, which restarts its module's refresh timer. -/
def State.startTxn (s : State) (t : Transaction) : State :=
  let m := { s.mod t.addr with refresh := some 0 }
  { s.setMod t.addr m with slc := { (s.setMod t.addr m).slc with transaction := some t, retry := none } }

/-- R149: a group whose last entry has gone or been removed leaves the queue. -/
def leaveQueue (q : List Group) : List Group := q.filter fun g => !(g.beingSent && g.entries.all (·.sent))

/-- R162: at a boundary the BEING_SENT group with no UNSENT entry leaves the queue. -/
def State.boundary (s : State) : State := { s with asa := { s.asa with queue := leaveQueue s.asa.queue } }

/-- R162: the UNSENT entry of a group with the lowest module address. -/
def Group.nextEntry (g : Group) : Option ChangeEntry := g.entries.find? fun e => !e.sent

/-- R162: a group BEING_SENT whose entry for a module is SENT. -/
def Group.markSent (g : Group) (a : Addr) : Group :=
  { g with beingSent := true, entries := g.entries.map fun e => if e.addr = a then { e with sent := true } else e }

/-- R162: the SET of the head group's next entry starts. -/
def State.startSet (s : State) : Option State :=
  match s.asa.queue with
  | [] => none
  | g :: rest =>
    g.nextEntry.map fun e =>
      State.startTxn { s with asa := { s.asa with queue := g.markSent e.addr :: rest } }
        { addr := e.addr, command := .set e.aspect g.tag, purpose := .groupSet e.limited, isRetry := false }

/-- R149: the head group is BEING_SENT. -/
def State.sendingHead (s : State) : Bool :=
  match s.asa.queue with
  | g :: _ => g.beingSent
  | [] => false

/-- R149, R165: an urgent head group can be taken. -/
def State.urgentHead (s : State) : Bool :=
  match s.asa.queue with
  | g :: _ => g.kind == .urgent
  | [] => false

/-- R149: a normal head group can be taken: none of its modules is CHANGING. -/
def State.normalHead (s : State) : Bool :=
  match s.asa.queue with
  | g :: _ => g.kind == .normal && g.entries.all fun e => (s.mod e.addr).state != .changing
  | [] => false

/-- R163: the index of a CHANGING module's poll at the present moment: the one that is due or will next fall due. -/
def Module.pollIndex (m : Module) : Nat :=
  let byTime := (m.sinceSetEnd.getD 0 - m.transitionTime) / 50
  max (m.nextPoll.getD 0) (min byTime 5)

/-- R163: the time at which a CHANGING module's poll falls due, after SET end. -/
def Module.pollTime (m : Module) : Nat := m.transitionTime + 50 * m.pollIndex

/-- R159, item 6: how long ago a module's poll fell due. -/
def Module.overdue (m : Module) : Nat := m.sinceSetEnd.getD 0 - m.pollTime

/-- R159, item 6: of the modules whose poll is due, the one whose poll fell due first, the lower address on a tie. -/
def State.earliestPoll (s : State) : List Addr → Option Addr
  | [] => none
  | a :: rest =>
    match s.earliestPoll rest with
    | none => some a
    | some b => if (s.mod b).overdue ≤ (s.mod a).overdue then some a else some b

/-- R159, item 6: the modules whose poll is due. -/
def State.duePolls (s : State) : List Addr :=
  s.moduleAddrs.filter fun a => (s.mod a).pollDue && (s.mod a).state == .changing

/-- R163: a poll is made. -/
def State.startPoll (s : State) (a : Addr) : State :=
  let m := s.mod a
  (s.setMod a { m with nextPoll := some m.pollIndex, pollDue := false }).startTxn
    { addr := a, command := .proof, purpose := .poll m.pollIndex, isRetry := false }

/-- R169: the failure blank of a module starts. -/
def State.startBlank (s : State) (a : Addr) : State :=
  s.startTxn { addr := a, command := .blank, purpose := .failureBlank, isRetry := false }

/-- R170: an IDENT retry starts. -/
def State.startIdent (s : State) (a : Addr) : State :=
  (s.setMod a { s.mod a with identDue := false }).startTxn
    { addr := a, command := .ident, purpose := .identRetry, isRetry := false }

/-- R167: a REFRESH starts. -/
def State.startRefresh (s : State) (a : Addr) : State :=
  (s.setMod a { s.mod a with refreshDue := false }).startTxn
    { addr := a, command := .refresh, purpose := .refresh, isRetry := false }

/-- R171, R172: a hold is granted. -/
def State.grantHold (s : State) : State :=
  { s with slc :=
    { s.slc with
      link := .held, holdAck := true, holdPending := false
      modules := Per8.build fun a => { s.mod a with pollDue := false, refreshDue := false } } }

/-- R160, R161: the next step of discovery. -/
def State.discoveryStep (s : State) : State :=
  match s.slc.discovery with
  | none => s
  | some d =>
    match d.identing, d.acting with
    | a :: _, _ => s.startTxn { addr := a, command := .ident, purpose := .discovery, isRetry := false }
    | [], a :: _ =>
      if d.proofDue then
        State.startTxn { s with slc := { s.slc with discovery := some { d with proofDue := false } } }
          { addr := a, command := if s.stu.restart = .cold then .blank else .proof, purpose := .discovery,
            isRetry := false }
      else s
    | [], [] => s

/-- R159, items 8 and 9: an IDENT retry, then a REFRESH; where several are due the arbiter's choice is free. -/
def State.lastItems (s : State) (inRun : Bool) : State :=
  match s.pick (s.moduleAddrs.filter fun a => inRun && (s.mod a).identDue) with
  | some (a, s) => s.startIdent a
  | none =>
    match s.pick (s.moduleAddrs.filter fun a => (s.mod a).refreshDue) with
    | some (a, s) => s.startRefresh a
    | none => s

/-- R159, items 6 to 9, in JOIN and RUN. -/
def State.lowItems (s : State) (inRun : Bool) : State :=
  match s.earliestPoll s.duePolls with
  | some a => s.startPoll a
  | none =>
    if inRun = true ∧ s.normalHead = true then (s.startSet).getD s else s.lastItems inRun

/-- R159, items 4 to 9, in JOIN and RUN. -/
def State.ownItems (s : State) : State :=
  let inRun := s.stu.station == .run
  if inRun = true ∧ s.urgentHead = true then (s.startSet).getD s
  else
    match s.pick (s.moduleAddrs.filter fun a => inRun && (s.mod a).blankOwed) with
    | some (a, s) => s.startBlank a
    | none => s.lowItems inRun

/-- R159, item 2: the address of the next PROOF of a proof round. -/
def State.roundHead (s : State) : Option Addr := s.slc.round.bind List.head?

/-- R159: the arbiter hands the line to the first item that is due and allowed. -/
def State.arbitrate (s : State) : State :=
  let s := s.boundary
  match s.slc.retry with
  | some t => s.startTxn t
  | none =>
    match s.roundHead with
    | some a => s.startTxn { addr := a, command := .proof, purpose := .proofRound, isRetry := false }
    | none =>
      if s.sendingHead = true ∧ s.stu.station = .run then (s.startSet).getD s
      else if s.slc.holdPending then
        (if s.onBus then s.grantHold.reviewProof else s.grantHold).drive
      else if s.stu.station = .discover then s.discoveryStep
      else s.ownItems

/-- The meaning of TRANSACTION_START (R159): a boundary at which the link is the part's own and no transaction runs. -/
def execTransactionStart (s : State) : Host.Outcome State Fault Refusal :=
  .next (if s.running = true ∧ s.slc.link = .owned ∧ s.slc.transaction = none then s.arbitrate else s)

/-! ### Discovery's outcomes (R160, R161) -/

/-- R160: the IDENT of an address has ended, with its entry. When it was the last, discovery goes on with the found
modules, and ends if there are none. DESIGN CHOICE (assumption 36), as at `State.dealtWith`: it ends so while a hold is pending too. -/
def State.identified (s : State) (a : Addr) (m : Module) : State :=
  let s := s.setMod a m
  match s.slc.discovery with
  | none => s
  | some d =>
    let rest := d.identing.drop 1
    let acting := if rest = [] then s.moduleAddrs.filter fun x => (s.mod x).discovered == .found else []
    let s : State :=
      { s with slc := { s.slc with discovery := some { identing := rest, acting := acting, firstReply := none,
                                                        lastReply := none, proofDue := true } } }
    if rest = [] ∧ acting = [] then s.endDiscovery else s

/-- R160: the entry of an address that is found. -/
def Module.found (m : Module) (k : ModuleKind) (r : IdentReply) : Module :=
  { m.capable k r with discovered := .found }

/-- R160: the entry of an address that is not found; a wrong kind is recorded. -/
def Module.notFound (m : Module) (kind : Option Byte) : Module :=
  { m with discovered := .notFound, wrongKind := kind, refresh := none }

/-- R161: a found module has been dealt with, with its entry. After the last one discovery ends. DESIGN CHOICE (assumption 36):
a HOLDREQ asserted during discovery's last transaction does not make discovery start again (R171, R181); discovery ends first
(R161), and the hold, still pending, is granted at the next boundary, in JOIN. -/
def State.dealtWith (s : State) (a : Addr) (m : Module) : State :=
  let s := s.setMod a m
  match s.slc.discovery with
  | none => s
  | some d =>
    let s : State :=
      { s with slc := { s.slc with discovery := some { d with acting := d.acting.drop 1, firstReply := none,
                                                              lastReply := none, proofDue := true } } }
    if d.acting.drop 1 = [] then s.endDiscovery else s

/-- R161: the entry of a module that becomes FAILED in discovery: no failure blank is owed. -/
def Module.failDiscovery (m : Module) : Module := { m.fail with blankOwed := false }

/-- R161: the entry of a module that has accepted discovery's BLANK. -/
def Module.blanked (m : Module) (a : Addr) : Module :=
  { m with state := .ready, sent := some (darkAspect a), sentTag := none, proven := some (darkAspect a), health := none,
           limited := false }

/-- R161: the discovery PROOF of a module has been answered. Of several replies the last one's lit aspect is kept for the
orphans (R132), the model's choice (assumption 30). -/
def State.discoveryProof (s : State) (a : Addr) (r : ProofReply) : State :=
  let m := { s.mod a with discoveryLit := some r.lit }
  if r.health = .fail then s.dealtWith a m.failDiscovery
  else if r.transition then
    match s.slc.discovery with
    | none => s
    | some d =>
      let d : Discovery := { d with firstReply := some (d.firstReply.getD 0), lastReply := some 0, proofDue := false }
      { s.setMod a m with slc := { (s.setMod a m).slc with discovery := some d } }
  else s.dealtWith a (m.steady r)

/-- The address discovery is dealing with. -/
def State.discoveryHead (s : State) : Option Addr :=
  s.slc.discovery.bind fun d => match d.identing with
    | a :: _ => some a
    | [] => d.acting.head?

/-- R160, R161: the outcome of a discovery transaction; `none` is a reply missing twice. An outcome for a module that
discovery has already left (R161's time limit) has no effect. -/
def State.discoveryOutcome (s : State) (t : Transaction) (r : Option Reply) : State :=
  let a := t.addr
  if s.discoveryHead = some a then
    match t.command, r with
    | .ident, some (.ident i) =>
      if i.kindFits a then s.identified a ((s.mod a).found (kindRequired a) i)
      else s.identified a ((s.mod a).notFound (some i.kind))
    | .ident, _ => s.identified a ((s.mod a).notFound none)
    | .blank, some .accept => s.dealtWith a ((s.mod a).blanked a)
    | .proof, some (.proof p) => s.discoveryProof a p
    | _, _ => s.dealtWith a (s.mod a).failDiscovery
  else s

/-! ### The outcomes of the other transactions -/

/-- R162: the entry of a module as its SET is recorded. -/
def Module.recordSet (m : Module) (aspect : Aspect) (tag : Tag) (limited : Bool) : Module :=
  { m with sent := some aspect, sentTag := some tag, limited := limited }

/-- R162, R165: the entry of a module that has accepted a SET. -/
def Module.startChange (m : Module) : Module :=
  { m with state := .changing, sinceSetEnd := some 0, nextPoll := some 0, pollDue := false, identTimer := none,
           identDue := false }

/-- R162, R169, R170: the outcome of a SET of a group. -/
def State.setOutcome (s : State) (a : Addr) (aspect : Aspect) (tag : Tag) (limited : Bool) (r : Option Reply) : State :=
  match r with
  | some .accept => s.setMod a ((s.mod a).recordSet aspect tag limited).startChange
  | some _ => s.failModule a true
  | none => (s.setMod a ((s.mod a).recordSet aspect tag limited)).failModule a true

/-- R164, R170: a CHANGING module is proven; a recovering one has recovered. -/
def State.proveModule (s : State) (a : Addr) (r : ProofReply) : State :=
  let was := (s.mod a).answered
  let s := s.setMod a ((s.mod a).steady r)
  if was then s.moduleRecoveredAsa a else s

/-- R164: the outcome of a poll of a CHANGING module. The retry of a poll keeps the index of its first request, past the
deadline too (assumption 33). -/
def State.pollOutcome (s : State) (a : Addr) (index : Nat) (r : Option Reply) : State :=
  let m := s.mod a
  if m.state = .changing then
    match r with
    | some (.proof p) =>
      if p.health = .fail then s.failModule a false
      else if p.transition then
        if index < 5 then s.setMod a { m with nextPoll := some (max (m.nextPoll.getD 0) (index + 1)) }
        else s.failModule a false
      else if m.sent = some p.lit ∧ m.sentTag = some p.tag then s.proveModule a p
      else s.failModule a false
    | _ => s.failModule a false
  else s

/-- R173: the reply of a module that is not FAILED to the PROOF of a proof round. -/
def State.roundReply (s : State) (a : Addr) (p : ProofReply) : State :=
  let m := s.mod a
  if p.health = .fail then s.failModule a false
  else if p.transition then
    s.setMod a
      { m with state := .changing, sent := some p.lit, sentTag := some p.tag, sinceSetEnd := some 0, nextPoll := some 0,
               pollDue := false }
  else
    let limited := if (s.display a).form = p.lit then (s.display a).limited else m.limited
    (s.setMod a { m with limited := limited }).proveModule a p

/-- R173: the round goes on with its next module; after the last the Aspect Arbiter forms the resync group (R152). -/
def State.nextOfRound (s : State) : State :=
  match s.slc.round with
  | none => s
  | some as =>
    if as.drop 1 = [] then State.resync { s with slc := { s.slc with round := none } }
    else { s with slc := { s.slc with round := some (as.drop 1) } }

/-- R173: the outcome of a PROOF of a proof round. -/
def State.roundOutcome (s : State) (a : Addr) (r : Option Reply) : State :=
  (if (s.mod a).state = .failed then s
   else match r with
    | some (.proof p) => s.roundReply a p
    | _ => s.failModule a false).nextOfRound

/-- R169: the end of a failure blank, whatever came back. -/
def State.blankOutcome (s : State) (a : Addr) : State :=
  s.setMod a { s.mod a with blankOwed := false, sent := some (darkAspect a), sentTag := none, limited := false }

/-- R170: the outcome of an IDENT retry. One missing twice leaves a wrong kind reported as it was (assumption 35). -/
def State.identOutcome (s : State) (a : Addr) (r : Option Reply) : State :=
  let m := s.mod a
  match r with
  | some (.ident i) =>
    if i.kindFits a then
      (s.setMod a { m.capable (kindRequired a) i with answered := true, identTimer := none }).moduleAnsweredAsa a
    else s.setMod a { m with identTimer := some 60000, wrongKind := some i.kind }
  | _ => s.setMod a { m with identTimer := some 60000 }

/-- R167: the outcome of a REFRESH. -/
def State.refreshOutcome (s : State) (a : Addr) (r : Option Reply) : State :=
  match r with
  | some .accept => s
  | _ => s.failModule a false

/-- The outcome of a transaction: its reply, or `none` for one that has failed (R158). -/
def State.outcome (s : State) (t : Transaction) (r : Option Reply) : State :=
  match t.purpose, t.command with
  | .discovery, _ => s.discoveryOutcome t r
  | .groupSet limited, .set aspect tag => s.setOutcome t.addr aspect tag limited r
  | .groupSet _, _ => s
  | .proofRound, _ => s.roundOutcome t.addr r
  | .failureBlank, _ => s.blankOutcome t.addr
  | .poll index, _ => s.pollOutcome t.addr index r
  | .identRetry, _ => s.identOutcome t.addr r
  | .refresh, _ => s.refreshOutcome t.addr r

/-- R158: a transaction whose reply is missing is repeated, unless it is a retry itself or a failure blank. -/
def Transaction.repeats (t : Transaction) : Bool := !t.isRetry && t.purpose != .failureBlank

/-- The end of a transaction: the module table's readers derive anew what they read from it (R91, R92, R120, R185). -/
def State.afterTxn (s : State) : State := (if s.onBus then s.boundary.reviewProof else s.boundary).drive

/-- R157, R158: the transaction in progress ends with a reply, or with `none` for a missing one. -/
def State.endTxn (s : State) (t : Transaction) (r : Option Reply) : State :=
  let s : State := { s with slc := { s.slc with transaction := none } }
  if r = none ∧ t.repeats = true then
    { s with slc := { s.slc with retry := some { t with isRetry := true } } }.boundary
  else (s.outcome t r).afterTxn

/-- The reply of a transaction of a given command received whole. -/
def State.complete (s : State) (code : Nat) (reply : List Byte) : State :=
  match s.slc.transaction with
  | some t => if t.command.code = code then s.endTxn t (replyOf t reply) else s
  | none => s

/-- The meaning of REPLY_TIMEOUT (R157, R158). -/
def execReplyTimeout (s : State) : Host.Outcome State Fault Refusal :=
  .next <| match s.slc.transaction with
    | some t => s.endTxn t none
    | none => s

/-- The meaning of IDENT_COMPLETE (R160, R170). -/
def execIdentComplete (reply : List Byte) (s : State) : Host.Outcome State Fault Refusal := .next (s.complete 1 reply)

/-- The meaning of SET_COMPLETE (R162). -/
def execSetComplete (reply : List Byte) (s : State) : Host.Outcome State Fault Refusal := .next (s.complete 2 reply)

/-- The meaning of PROOF_COMPLETE (R161, R164, R173). -/
def execProofComplete (reply : List Byte) (s : State) : Host.Outcome State Fault Refusal := .next (s.complete 3 reply)

/-- The meaning of REFRESH_COMPLETE (R167). -/
def execRefreshComplete (reply : List Byte) (s : State) : Host.Outcome State Fault Refusal := .next (s.complete 4 reply)

/-- The meaning of BLANK_COMPLETE (R161, R169). -/
def execBlankComplete (reply : List Byte) (s : State) : Host.Outcome State Fault Refusal := .next (s.complete 5 reply)

/-! ### What falls due -/

/-- A transaction in progress, or its retry still to be made, is of a module and meets a test. -/
def State.inFlight (s : State) (a : Addr) (f : Transaction → Bool) : Bool :=
  (s.slc.transaction.toList ++ s.slc.retry.toList).any fun t => t.addr == a && f t

/-- A poll of the module with the present index, or a later one, is being made. -/
def State.pollInFlight (s : State) (a : Addr) : Bool :=
  s.inFlight a fun t => match t.purpose with
    | .poll i => (s.mod a).pollIndex ≤ i
    | _ => false

/-- A module of a proof round whose reply has not come: the polls and the deadline that the hold suspended are dropped (R173). -/
def State.inRound (s : State) (a : Addr) : Bool :=
  match s.slc.round with
  | some as => as.contains a
  | none => false

/-- A module of a proof round that its PROOF has not reached: its refresh timer waits (R173). -/
def State.waitsInRound (s : State) (a : Addr) : Bool := s.inRound a && !(s.inFlight a fun _ => true)

/-- R163: a poll of a CHANGING module falls due. -/
def State.pollFalls (s : State) (a : Addr) : Bool :=
  s.running && s.slc.link == .owned && !(s.inRound a) && (s.mod a).state == .changing &&
    (match (s.mod a).sinceSetEnd with
      | some t => (s.mod a).pollTime ≤ t
      | none => false) && !(s.pollInFlight a)

/-- The meaning of PROOF_POLL_DUE (R163). -/
def execProofPollDue (address : Nat) (s : State) : Host.Outcome State Fault Refusal :=
  .next <| match addrOf address with
    | some a =>
      if s.pollFalls a then s.setMod a { s.mod a with nextPoll := some (s.mod a).pollIndex, pollDue := true } else s
    | none => s

/-- R167, R173: a REFRESH of a module that is not ABSENT falls due; in a proof round not before its PROOF. -/
def State.refreshFalls (s : State) (a : Addr) : Bool :=
  s.running && s.slc.link == .owned && !(s.waitsInRound a) && (s.mod a).state != .absent && (s.mod a).refresh == some 5000

/-- The meaning of REFRESH_DUE (R167). -/
def execRefreshDue (address : Nat) (s : State) : Host.Outcome State Fault Refusal :=
  .next <| match addrOf address with
    | some a => if s.refreshFalls a then s.setMod a { s.mod a with refreshDue := true } else s
    | none => s

/-- R170: the IDENT retry timer of a FAILED module has run out and its IDENT is not being made. -/
def State.identFalls (s : State) (a : Addr) : Bool :=
  s.running && (s.mod a).state == .failed && !(s.mod a).answered && (s.mod a).identTimer == some 0 &&
    !(s.inFlight a fun t => t.purpose == .identRetry)

/-- The meaning of IDENT_RETRY_DUE (R170). -/
def execIdentRetryDue (address : Nat) (s : State) : Host.Outcome State Fault Refusal :=
  .next <| match addrOf address with
    | some a => if s.identFalls a then s.setMod a { s.mod a with identDue := true } else s
    | none => s

/-- R161: discovery in DISCOVER is dealing with a found module. -/
def State.actingOn (s : State) (a : Addr) : Bool :=
  s.stu.station == .discover && s.slc.link == .owned &&
    (match s.slc.discovery with
      | some d => d.identing == [] && d.acting.head? == some a
      | none => false)

/-- R161: the time since the first TRANSITION reply has reached the transition time + 250 ms. -/
def State.discoveryLate (s : State) (a : Addr) : Bool :=
  match s.slc.discovery.bind (·.firstReply) with
  | some t => (s.mod a).transitionTime + 250 ≤ t
  | none => false

/-- The meaning of DISCOVERY_PROOF_TIMEOUT (R161). A PROOF of the module that is under way, or whose retry is owed, is
made all the same (R158); what it gives has no effect (assumption 25). -/
def execDiscoveryProofTimeout (address : Nat) (s : State) : Host.Outcome State Fault Refusal :=
  .next <| match addrOf address with
    | some a =>
      if s.actingOn a = true ∧ s.discoveryLate a = true then
        (s.dealtWith a (s.mod a).failDiscovery).drive
      else s
    | none => s

/-- R161: 50 ms have passed since the last TRANSITION reply, from which the model counts them (assumption 30), and no PROOF
is on its way. -/
def State.resendFalls (s : State) : Bool :=
  s.slc.transaction.isNone && s.slc.retry.isNone &&
    (match s.slc.discovery.bind (·.lastReply) with
      | some t => 50 ≤ t
      | none => false)

/-- The meaning of DISCOVERY_PROOF_RESEND_DUE (R161). -/
def execDiscoveryProofResendDue (address : Nat) (s : State) : Host.Outcome State Fault Refusal :=
  .next <| match addrOf address with
    | some a =>
      if s.actingOn a = true ∧ s.resendFalls = true then
        { s with slc := { s.slc with discovery := s.slc.discovery.map fun d => { d with proofDue := true } } }
      else s
    | none => s

/-! ### The maintenance hold -/

/-- R171, R174, R180: HOLDREQ is asserted. -/
def State.assertHold (s : State) : State :=
  let s : State := { s with slc := { s.slc with holdReq := true } }
  match s.stu.station with
  | .inReset => s
  | .stopped => s.followHold
  | _ => if s.slc.link = .owned then { s with slc := { s.slc with holdPending := true } } else s

/-- The meaning of HOLDREQ_ASSERTED (R171); the line can rise only while it is low. -/
def execHoldreqAsserted (s : State) : Host.Outcome State Fault Refusal :=
  .next (if s.slc.holdReq then s else s.assertHold)

/-- R173: the modules that a proof round polls. -/
def State.roundAddrs (s : State) : List Addr := s.moduleAddrs.filter fun a => (s.mod a).state != .absent

/-- R173: a proof round starts; with no module to poll it ends at once. -/
def State.startRound (s : State) : State :=
  if s.roundAddrs = [] then s.resync else { s with slc := { s.slc with round := some s.roundAddrs } }

/-- R173, R174: a hold ends: a proof round in JOIN and RUN, discovery from its first IDENT in DISCOVER. -/
def State.endHold (s : State) : State :=
  let s : State := { s with slc := { s.slc with link := .owned, holdAck := false } }
  match s.stu.station with
  | .discover => s.startDiscovery.drive
  | .join => s.startRound.reviewProof.drive
  | .run => s.startRound.reviewProof.drive
  | _ => s.drive

/-- R171, R173, R174: HOLDREQ drops. -/
def State.dropHold (s : State) : State :=
  let s : State := { s with slc := { s.slc with holdReq := false, holdPending := false } }
  if s.slc.link = .held then s.endHold else s

/-- The meaning of HOLDREQ_DROPPED (R173); the line can drop only while it is high. -/
def execHoldreqDropped (s : State) : Host.Outcome State Fault Refusal :=
  .next (if s.slc.holdReq then s.dropHold else s)

end Sys2Proof.Machine
end

