-- ==== Sys2Proof/Machine/Port.lean ====
section
/-! DEFINITION. The Maintenance Port: the records of the five snapshots (R187, R192), requests and refusals (R186), with
the meanings of REQUEST_BYTE, REQUEST_GAP_TIMEOUT and REPLY_END. -/

namespace Sys2Proof.Machine

/-! ### Fields and records (R192) -/

/-- The field of something that is absent. -/
def absentField : Nat := 0xFFFFFFFF

/-- The field of a speed of EMPTY and of a time to expiry of UNTIL_RELEASED. -/
def emptyField : Nat := 0xFFFFFFFE

/-- The field of a flag. -/
def flagField (b : Bool) : Nat := if b then 1 else 0

/-- The field of a value that may be absent. -/
def optField (x : Option Nat) : Nat := x.getD absentField

/-- A field as four bytes, most significant first. -/
def fieldBytes (n : Nat) : List Byte :=
  [BitVec.ofNat 8 (n / 2 ^ 24), BitVec.ofNat 8 (n / 2 ^ 16), BitVec.ofNat 8 (n / 2 ^ 8), BitVec.ofNat 8 n]

/-- A record: its type, its presence, its fields; an EMPTY record carries every field as absent. -/
def recordBytes (type : Byte) (count : Nat) (fields : Option (List Nat)) : List Byte :=
  match fields with
  | some fs => type :: 0x01#8 :: fs.flatMap fieldBytes
  | none => type :: 0x00#8 :: (List.replicate count absentField).flatMap fieldBytes

/-- A number of records of a type, from the elements of a table in its order; the places left over are EMPTY. -/
def tableBytes (type : Byte) (count places : Nat) (rows : List (List Nat)) : List Byte :=
  (rows.take places).flatMap (fun r => recordBytes type count (some r)) ++
    (List.replicate (places - rows.length) ()).flatMap fun _ => recordBytes type count none

/-- A set of lanes as a mask, bit L - 1 for lane L. -/
def laneMask (ls : List Lane) : Nat :=
  (allLanes.map fun l => if ls.contains l then 2 ^ l.val else 0).foldr (· + ·) 0

/-- A member of V by its speed code. -/
def limitField (l : Limit) : Nat := l.code

/-- A measured speed. -/
def speedField : SpeedValue → Nat
  | .empty => emptyField
  | .kmh v => v

/-! ### Codes of enumerations (R192) -/

/-- Station state. -/
def StationState.code : StationState → Nat
  | .inReset => 0
  | .discover => 1
  | .join => 2
  | .run => 3
  | .stopped => 4

/-- Strap validity. -/
def StrapValidity.code : StrapValidity → Nat
  | .valid => 0
  | .badPosition => 1
  | .badLaneCount => 2
  | .both => 3

/-- Access phase. -/
def AccessPhase.code : AccessPhase → Nat
  | .quiet => 0
  | .waitIdle => 1
  | .sending => 2
  | .backoff => 3

/-- Loop. -/
def loopCode : Loop → Nat
  | .a => 0
  | .b => 1

/-- Recognised level. -/
def levelCode : LoopLevel → Nat
  | .clear => 0
  | .occupied => 1

/-- Fault state. -/
def FaultState.code : FaultState → Nat
  | .sound => 0
  | .faulty => 1
  | .recovering => 2

/-- Fault kind. -/
def FaultKind.code : FaultKind → Nat
  | .stuckOn => 0
  | .stuckOff => 1
  | .chatter => 2

/-- Measuring mode. -/
def LaneMode.code : LaneMode → Nat
  | .paired => 0
  | .singleA => 1
  | .singleB => 2
  | .none => 3

/-- Pairing state. -/
def PairState.code : PairState → Nat
  | .empty => 0
  | .aOn => 1
  | .abOn => 2
  | .bOn => 3
  | .resync => 4

/-- Mark. -/
def Mark.code : Mark → Nat
  | .valid => 0
  | .countOnly => 1
  | .recovery => 2
  | .loopFault => 3
  | .overflow => 4
  | .start => 5
  | .closed => 6

/-- Role. -/
def Role.code : Role → Nat
  | .atAnchor => 0
  | .lead1 => 1
  | .lead2 => 2
  | .lead3 => 3

/-- Module state. -/
def ModuleState.code : ModuleState → Nat
  | .absent => 0
  | .ready => 1
  | .changing => 2
  | .failed => 3

/-- Module kind, by the IDENT kind codes. -/
def ModuleKind.code : ModuleKind → Nat
  | .lane => 1
  | .lantern => 2
  | .legend => 3

/-- Health, by the PROOF health codes. -/
def Health.code : Health → Nat
  | .ok => 0
  | .degraded => 1
  | .fail => 2

/-- Link state. -/
def LinkState.code : LinkState → Nat
  | .owned => 0
  | .held => 1

/-- Group kind. -/
def GroupKind.code : GroupKind → Nat
  | .urgent => 0
  | .normal => 1

/-! ### STATION -/

/-- The stage values of the last recomputation (R94). -/
def stageFields : Option StageValues → List Nat
  | none => List.replicate 7 absentField
  | some v =>
    [limitField v.l1, optField v.d, limitField v.lq, limitField v.lc, limitField v.lop, limitField v.c, limitField v.c2]

/-- The fields of the station record. While CLASH is clear the clash timer is sent as 0, and with no frame pending attempt
as it last stood (assumption 29). -/
def State.stationFields (s : State) : List Nat :=
  [s.stu.station.code, s.stu.restart.code.toNat, s.position, s.lanes, s.stu.straps.spacing.toNat,
    flagField s.stu.straps.first, flagField s.stu.straps.terminal, s.stu.validity.code, flagField s.stu.runLit,
    flagField s.stu.faultLit, flagField s.faultStopped, flagField s.faultAbsent, flagField s.faultFailed,
    flagField s.faultLoop, flagField s.faultClash, s.crl.cycle.toNat, s.crl.version.toNat, flagField s.crl.clash,
    s.crl.clashTimer, s.crl.phase.code, s.crl.attempt, limitField s.spc.target, limitField s.spc.posted,
    flagField s.spc.queueFlag, s.spc.clearStreak, s.spc.raiseStreak, s.spc.held, flagField s.spc.isolatedDown,
    flagField s.spc.signsDown] ++ stageFields s.spc.stages

/-- The fields of a ceiling record. -/
def Ceiling.fields (c : Ceiling) : List Nat :=
  [c.id, c.first, c.last, limitField c.limit, flagField c.incident, minutesLeft c.expiry]

/-- The records of a STATION snapshot. -/
def State.stationSnapshot (s : State) : List Byte :=
  recordBytes 0x10#8 36 (some s.stationFields) ++ tableBytes 0x11#8 6 4 (s.spc.ceilings.map Ceiling.fields)

/-! ### MEASUREMENT -/

/-- The fields of a loop record. -/
def State.loopFields (s : State) (l : Lane) (p : Loop) : List Nat :=
  let x := s.loop l p
  [laneNumber l, loopCode p, levelCode x.level, x.fault.code, optField (x.kind.map FaultKind.code), x.occupiedMs,
    x.partnerWhileOccupied, x.partnerWhileClear, x.shortOccupancies, flagField x.cleanWindow]

/-- The twelve fields of the current accumulator (R21). -/
def accumFields : Option Accum → List Nat
  | none => List.replicate 12 absentField
  | some w =>
    [w.seq.toNat, w.count, w.speedCount, w.speedSum, w.occMs, w.creditedTo.toNat, flagField w.closedSeen,
      flagField w.startSeen, flagField w.overflowSeen, flagField w.faultSeen, flagField w.recoverySeen,
      flagField w.singleSeen]

/-- The fast state, speed and occupancy (R31). -/
def fastFields : Option Fast → List Nat
  | none => [0, absentField, absentField]
  | some f => [1, speedField f.speed, f.occ]

/-- The slow-valid flag, slow speed, slow occupancy and flow (R32). -/
def slowFields : Option Slow → List Nat
  | none => [0, absentField, absentField, absentField]
  | some f => [1, speedField f.speed, f.occ, f.flow]

/-- The fields of a lane record. -/
def State.laneFields (s : State) (l : Lane) : List Nat :=
  let m := s.lane l
  [laneNumber l, (s.mode l).code, m.pairing.code, m.pairedCount] ++ accumFields m.window ++ fastFields m.fast ++
    slowFields m.slow

/-- The fields of a ring record. -/
def WindowRecord.fields (r : WindowRecord) : List Nat :=
  [r.seq.toNat, r.count, r.speedCount, r.speedSum, r.occMs, r.occ, r.mark.code]

/-- R187, R29: a lane's record, followed by its eight ring records, oldest first; R192 speaks of six (assumption 32). -/
def State.laneRecords (s : State) (l : Lane) : List Byte :=
  if l.val < s.lanes then
    recordBytes 0x21#8 23 (some (s.laneFields l)) ++ tableBytes 0x22#8 7 8 ((s.lane l).ring.map WindowRecord.fields)
  else recordBytes 0x21#8 23 none ++ tableBytes 0x22#8 7 8 []

/-- The fields of the carriageway record (R34). -/
def carriageFields : Option Carriage → List Nat
  | none => [0, absentField, absentField]
  | some c => [1, speedField c.speed, c.occ]

/-- A loop's record; the loops of lanes n + 1 to 6 are sent EMPTY (assumption 28). -/
def State.loopRecord (s : State) (l : Lane) (p : Loop) : List Byte :=
  recordBytes 0x20#8 10 (if l.val < s.lanes then some (s.loopFields l p) else none)

/-- The records of a MEASUREMENT snapshot. That the loop records go lane by lane, loop A first, is the model's choice
(assumption 20). -/
def State.measurementSnapshot (s : State) : List Byte :=
  (allLanes.flatMap fun l => s.loopRecord l .a ++ s.loopRecord l .b) ++ allLanes.flatMap s.laneRecords ++
    recordBytes 0x23#8 3 (some (carriageFields s.msu.carriage))

/-! ### NEIGHBOURS -/

/-- The field of an offset; the coding of a negative one is not the manual's (assumption 10). -/
def offsetField (k : Int) : Nat := if 0 ≤ k then k.toNat else (Config.negativeOffset k.natAbs).toNat

/-- Six aspect and status pairs. -/
def pairFields (ls : List LaneEntry) : List Nat :=
  (List.range 6).flatMap fun i =>
    match ls[i]? with
    | some e => [e.aspect.code, e.status.code]
    | none => [absentField, absentField]

/-- The UNKNOWN flag and eight items of id, gen and stage. -/
def summaryFields (sum : Option (List SummaryItem)) : List Nat :=
  flagField sum.isNone :: (List.range 8).flatMap fun i =>
    match (sum.getD [])[i]? with
    | some x => [x.id, x.gen.toNat, x.stage.code]
    | none => [absentField, absentField, absentField]

/-- The fields of a neighbour record. -/
def State.neighbourFields (s : State) (e : Neighbour) : List Nat :=
  [e.position, optField (e.cycle.map (·.toNat)), e.age, optField (e.restart.map fun k => k.code.toNat),
    flagField e.joining, flagField e.queue, flagField e.measInvalid, flagField e.isolatedDown, flagField e.signsDown,
    flagField e.clash, flagField e.tableFull, limitField e.target, limitField e.posted, e.laneCount] ++
    pairFields e.lanes ++ [e.version.toNat] ++ summaryFields e.summary ++ [offsetField (s.offset e.position)]

/-- The records of a NEIGHBOURS snapshot. -/
def State.neighboursSnapshot (s : State) : List Byte :=
  tableBytes 0x30#8 53 12 ((s.nbt.filter fun e => e.age < 10).map s.neighbourFields)

/-! ### CLOSURES -/

/-- The eight fields of a pending modification (R115). -/
def modFields : Option Closure → List Nat
  | none => List.replicate 8 absentField
  | some c => [c.id, c.gen.toNat, c.anchor, c.firstLane, c.width, c.leadIn, limitField c.leadSpeed, c.minutes]

/-- The fields of a closure record. -/
def ClosureRecord.fields (r : ClosureRecord) : List Nat :=
  [r.id, r.gen.toNat, r.anchor, r.firstLane, r.width, r.leadIn, limitField r.leadSpeed, optField (r.role.map Role.code),
    laneMask r.localLanes, flagField r.fullClosure, r.stage.code, r.expiry.getD emptyField, optField r.tombTime,
    flagField r.pendingMod.isSome, flagField (!r.substitution.isEmpty), optField r.waitTime, laneMask r.awaiting,
    laneMask (r.substitution.map (·.1))] ++ modFields r.pendingMod

/-- The records of a CLOSURES snapshot. -/
def State.closuresSnapshot (s : State) : List Byte :=
  tableBytes 0x40#8 26 8 (s.clt.records.map ClosureRecord.fields) ++
    tableBytes 0x41#8 2 4 (s.clt.refused.map fun r => [r.id, r.lifetime]) ++
    recordBytes 0x42#8 1 (some [laneMask s.clt.orphans])

/-! ### SIGNS -/

/-- The levels of a module's row, highest first (R139). -/
def levelsOf (a : Addr) : List Level :=
  if a = lanternAddr then []
  else if a = legendAddr then [.roadClosed, .laneClosed, .incident, .queue, .blank]
  else [.closed, .divert, .speed, .endSign, .default]

/-- The ten request places of a slot. -/
def slotFields (row : List Request) (lv : Level) : List Nat :=
  let rs := ((slotOf row lv).map Request.field).take 10
  rs ++ List.replicate (10 - rs.length) absentField

/-- The fifty request places of a row. -/
def rowFields (a : Addr) (row : List Request) : List Nat :=
  if a = lanternAddr then List.replicate 50 absentField else (levelsOf a).flatMap (slotFields row)

/-- The module table fields of R177. -/
def Module.fields (m : Module) : List Nat :=
  [m.state.code, optField (m.kind.map ModuleKind.code), optField (m.kind.map fun _ => m.repertoire.toNat),
    optField m.blankUnits, optField m.rampExponent, optField (m.wrongKind.map (·.toNat)),
    optField (m.kind.map fun _ => m.transitionTime), optField (m.sent.map Aspect.code),
    optField (m.sentTag.map (·.toNat)), flagField m.limited, optField (m.proven.map Aspect.code),
    optField (m.health.map Health.code), optField m.sinceSetEnd, optField m.nextPoll, optField m.refresh,
    optField m.identTimer, flagField m.answered, flagField m.blankOwed]

/-- The fields of a module record. -/
def State.moduleFields (s : State) (a : Addr) : List Nat :=
  let d := s.display a
  rowFields a d.row ++
    [optField (d.baseWinner.map Aspect.code), d.winner.code, d.form.code, flagField d.limited, d.ordered.code] ++
    (s.mod a).fields

/-- The eight entries of a group. -/
def entryFields (es : List ChangeEntry) : List Nat :=
  (List.range 8).flatMap fun i =>
    match es[i]? with
    | some e => [e.addr.val + 1, e.aspect.code, flagField e.limited, flagField e.sent]
    | none => List.replicate 4 absentField

/-- The fields of a group record. -/
def Group.fields (g : Group) : List Nat :=
  [g.kind.code, g.tag.toNat, flagField g.beingSent] ++ entryFields g.entries

/-- The transaction in progress: address, command and retry. -/
def txnFields : Option Transaction → List Nat
  | none => List.replicate 3 absentField
  | some t => [t.addr.val + 1, t.command.code, flagField t.isRetry]

/-- The fields of the link record. -/
def State.linkFields (s : State) : List Nat :=
  [s.slc.link.code, flagField s.slc.holdReq, flagField s.slc.holdAck, flagField s.slc.holdPending] ++
    txnFields s.slc.transaction

/-- A module's record; addresses n + 1 to 6 are sent EMPTY (assumption 28). -/
def State.moduleRecord (s : State) (a : Addr) : List Byte :=
  recordBytes 0x50#8 73 (if s.moduleAddrs.contains a then some (s.moduleFields a) else none)

/-- The records of a SIGNS snapshot. -/
def State.signsSnapshot (s : State) : List Byte :=
  allAddrs.flatMap s.moduleRecord ++ tableBytes 0x51#8 35 8 (s.asa.queue.map Group.fields) ++
    recordBytes 0x52#8 7 (some s.linkFields)

/-! ### Requests (R186) -/

/-- The code of a snapshot (R192). -/
def Snapshot.code : Snapshot → Byte
  | .station => 0x01#8
  | .measurement => 0x02#8
  | .neighbours => 0x03#8
  | .closures => 0x04#8
  | .signs => 0x05#8

/-- The snapshot that a code names. -/
def snapshotOf (b : Byte) : Option Snapshot :=
  if b = 0x01#8 then some .station else if b = 0x02#8 then some .measurement else if b = 0x03#8 then some .neighbours
  else if b = 0x04#8 then some .closures else if b = 0x05#8 then some .signs else none

/-- The records of a snapshot (R187). -/
def State.snapshotRecords (s : State) : Snapshot → List Byte
  | .station => s.stationSnapshot
  | .measurement => s.measurementSnapshot
  | .neighbours => s.neighboursSnapshot
  | .closures => s.closuresSnapshot
  | .signs => s.signsSnapshot

/-- The bytes of a reply (R192). -/
def State.replyBytes (s : State) (k : Snapshot) : List Byte := withChecksum (k.code :: s.snapshotRecords k)

/-- The refusal byte (R192). -/
def PortRefusal.byte : PortRefusal → Byte
  | .unknown => 0xE1#8
  | .check => 0xE2#8
  | .length => 0xE3#8

/-- R186: MPT while a refusal byte is being sent. -/
def Mpt.refuse (r : PortRefusal) : Mpt := { phase := .refusing r, received := [], request := none }

/-- R186, R187: a request whose two bytes have been received. -/
def State.answer (s : State) (code check : Byte) : Mpt :=
  if check ≠ ~~~code then .refuse .check
  else match snapshotOf code with
    | some k => { phase := .replying, received := [], request := some (k, s.replyBytes k) }
    | none => .refuse .unknown

/-- R186: MPT after a byte. -/
def State.portByte (s : State) (b : Byte) : Mpt :=
  match s.mpt.phase, s.mpt.received with
  | .idle, _ => { phase := .receiving, received := [b], request := none }
  | .receiving, c :: _ => s.answer c b
  | .receiving, [] => { s.mpt with received := [b] }
  | .replying, _ => s.mpt
  | .refusing _, _ => s.mpt

/-- The meaning of REQUEST_BYTE (R186, R187); bytes that arrive in RESET are discarded (R188). -/
def execRequestByte (byte : Byte) (s : State) : Host.Outcome State Fault Refusal :=
  .next (if s.stu.station = .inReset then s else { s with mpt := s.portByte byte })

/-- The meaning of REQUEST_GAP_TIMEOUT (R186): an incomplete request is refused with LENGTH. -/
def execRequestGapTimeout (s : State) : Host.Outcome State Fault Refusal :=
  .next (if s.mpt.phase = .receiving then { s with mpt := .refuse .length } else s)

/-- R186, R187: a reply or a refusal is being sent. -/
def PortPhase.sending : PortPhase → Bool
  | .replying => true
  | .refusing _ => true
  | _ => false

/-- The meaning of REPLY_END (R186, R187): the copy is discarded and the port returns to IDLE. -/
def execReplyEnd (s : State) : Host.Outcome State Fault Refusal :=
  .next (if s.mpt.phase.sending then { s with mpt := Mpt.reset } else s)

end Sys2Proof.Machine
end

