-- ==== Sys2Proof/Machine/Timers.lean ====
section
/-! DEFINITION. One millisecond of every timer of the part, with the meaning of MILLISECOND_COUNTER_INCREMENT, the one
clock of the model (assumption 3). -/

namespace Sys2Proof.Machine

/-- R97, R96, R115: the timers of a closure record. -/
def ClosureRecord.tick (r : ClosureRecord) : ClosureRecord :=
  { r with
    expiry := if r.stage.counts then countDown r.expiry else r.expiry
    tombTime := countDown r.tombTime
    waitTime := countDown r.waitTime }

/-- R102: the lifetime of a refused id. -/
def Refused.tick (r : Refused) : Refused := { r with lifetime := r.lifetime - 1 }

/-- R81: the time to expiry of a ceiling record. -/
def Ceiling.tick (c : Ceiling) : Ceiling := { c with expiry := c.expiry - 1 }

/-- R163, R167, R170, R177: the timers of a module; that of REFRESH stands while `stopped` (R172, R173). The time since SET end runs
on: of polls and deadlines R172 suspends only that they fall due. -/
def Module.tick (m : Module) (stopped : Bool) : Module :=
  { m with
    sinceSetEnd := m.sinceSetEnd.map (· + 1)
    refresh := if stopped then m.refresh else m.refresh.map fun t => satAdd 5000 t
    identTimer := if m.state = .failed then countDown m.identTimer else m.identTimer }

/-- R161: the times of discovery. -/
def Discovery.tick (d : Discovery) : Discovery :=
  { d with firstReply := d.firstReply.map (· + 1), lastReply := d.lastReply.map (· + 1) }

/-- R172, R173: the refresh timer of a module is stopped. -/
def State.timersStopped (s : State) (a : Addr) : Bool := s.slc.link == .held || s.waitsInRound a

/-- One millisecond of the timers of SLC. -/
def State.tickLink (s : State) : Slc :=
  { s.slc with
    modules := Per8.build fun a => (s.mod a).tick (s.timersStopped a)
    discovery := if s.slc.link = .owned then s.slc.discovery.map Discovery.tick else s.slc.discovery }

/-- One millisecond of every timer but those of the loops. -/
def State.tick (s : State) : State :=
  { s with
    stu := { s.stu with joinTimer := countDown s.stu.joinTimer }
    msu := { s.msu with windowTimer := countDown s.msu.windowTimer }
    crl := { s.crl with beatTimer := countDown s.crl.beatTimer }
    spc := { s.spc with ceilings := s.spc.ceilings.map Ceiling.tick }
    clt := { s.clt with records := s.clt.records.map ClosureRecord.tick, refused := s.clt.refused.map Refused.tick }
    slc := s.tickLink }

/-- The meaning of MILLISECOND_COUNTER_INCREMENT (R2, R3, R14): the counter counts on in DISCOVER, JOIN and RUN, the loops
in use are sampled, and every timer of the part runs on by one millisecond. -/
def execMillisecondCounterIncrement (sample : LoopSample) (s : State) : Host.Outcome State Fault Refusal :=
  .next (if s.running then (s.tick).sampleLoops sample else s)

end Sys2Proof.Machine
end

