-- ==== Sys2Proof/Machine/Dispatch.lean ====
section
/-! DEFINITION. The dispatch: one arm for each command, each a direct call of its meaning. -/

namespace Sys2Proof.Machine

def exec (i : Instr) (s : State) : Host.Outcome State Fault Refusal :=
  match i with
  | .powerApplied => Sys2Proof.Machine.execPowerApplied s
  | .resetAsserted keep => Sys2Proof.Machine.execResetAsserted keep s
  | .resetReleased straps sample => Sys2Proof.Machine.execResetReleased straps sample s
  | .edgeRecognised lane loop => Sys2Proof.Machine.execEdgeRecognised lane loop s
  | .stuckOn lane loop => Sys2Proof.Machine.execStuckOn lane loop s
  | .edgeTaken => Sys2Proof.Machine.execEdgeTaken s
  | .windowEnd => Sys2Proof.Machine.execWindowEnd s
  | .beat => Sys2Proof.Machine.execBeat s
  | .entryStale position => Sys2Proof.Machine.execEntryStale position s
  | .entryRemoved position => Sys2Proof.Machine.execEntryRemoved position s
  | .clashCleared => Sys2Proof.Machine.execClashCleared s
  | .transmissionStart idleBits => Sys2Proof.Machine.execTransmissionStart idleBits s
  | .frameSent => Sys2Proof.Machine.execFrameSent s
  | .collision => Sys2Proof.Machine.execCollision s
  | .backoffEnd => Sys2Proof.Machine.execBackoffEnd s
  | .stateReceived frame => Sys2Proof.Machine.execStateReceived frame s
  | .announceReceived frame => Sys2Proof.Machine.execAnnounceReceived frame s
  | .closeReceived frame => Sys2Proof.Machine.execCloseReceived frame s
  | .releaseReceived frame => Sys2Proof.Machine.execReleaseReceived frame s
  | .ceilingReceived frame => Sys2Proof.Machine.execCeilingReceived frame s
  | .orphanClearReceived frame => Sys2Proof.Machine.execOrphanClearReceived frame s
  | .ceilingExpiry id => Sys2Proof.Machine.execCeilingExpiry id s
  | .closureExpiry id => Sys2Proof.Machine.execClosureExpiry id s
  | .tombstoneExpiry id => Sys2Proof.Machine.execTombstoneExpiry id s
  | .refusedLifetimeExpiry id => Sys2Proof.Machine.execRefusedLifetimeExpiry id s
  | .leadWaitExpiry id => Sys2Proof.Machine.execLeadWaitExpiry id s
  | .clearWaitExpiry id => Sys2Proof.Machine.execClearWaitExpiry id s
  | .transactionStart => Sys2Proof.Machine.execTransactionStart s
  | .replyTimeout => Sys2Proof.Machine.execReplyTimeout s
  | .identComplete reply => Sys2Proof.Machine.execIdentComplete reply s
  | .setComplete reply => Sys2Proof.Machine.execSetComplete reply s
  | .proofComplete reply => Sys2Proof.Machine.execProofComplete reply s
  | .refreshComplete reply => Sys2Proof.Machine.execRefreshComplete reply s
  | .blankComplete reply => Sys2Proof.Machine.execBlankComplete reply s
  | .proofPollDue address => Sys2Proof.Machine.execProofPollDue address s
  | .refreshDue address => Sys2Proof.Machine.execRefreshDue address s
  | .identRetryDue address => Sys2Proof.Machine.execIdentRetryDue address s
  | .discoveryProofTimeout address => Sys2Proof.Machine.execDiscoveryProofTimeout address s
  | .holdreqAsserted => Sys2Proof.Machine.execHoldreqAsserted s
  | .holdreqDropped => Sys2Proof.Machine.execHoldreqDropped s
  | .joinEnd => Sys2Proof.Machine.execJoinEnd s
  | .requestByte byte => Sys2Proof.Machine.execRequestByte byte s
  | .requestGapTimeout => Sys2Proof.Machine.execRequestGapTimeout s
  | .replyEnd => Sys2Proof.Machine.execReplyEnd s
  | .millisecondCounterIncrement sample => Sys2Proof.Machine.execMillisecondCounterIncrement sample s
  | .lineActivityNotAFrame firstByte => Sys2Proof.Machine.execLineActivityNotAFrame firstByte s
  | .discoveryProofResendDue address => Sys2Proof.Machine.execDiscoveryProofResendDue address s

end Sys2Proof.Machine
end

