-- ==== Sys2Proof/Safety.lean ====
section
/-! DEFINITION. What a safe state of the part is, in the terms the claims use: outputs that follow the state, the hold, the
bounds of the tables, medium access, the closure table, the red crosses and the arrows; and the frames: which blocks of
the part a command may touch. -/

namespace Sys2Proof.Machine

/-! ### Frames -/

/-- The parts of `State`: the ten blocks, then the model's own two fields. -/
inductive Block where
  | stu
  | lpi
  | msu
  | crl
  | nbt
  | spc
  | clt
  | asa
  | slc
  | mpt
  | pending
  | choices
  deriving DecidableEq, Repr

/-- `t` differs from `s` in the listed blocks at most. -/
def State.sameBut (s : State) (bs : List Block) (t : State) : Prop :=
  (Block.stu ∈ bs ∨ t.stu = s.stu) ∧ (Block.lpi ∈ bs ∨ t.lpi = s.lpi) ∧ (Block.msu ∈ bs ∨ t.msu = s.msu) ∧
  (Block.crl ∈ bs ∨ t.crl = s.crl) ∧ (Block.nbt ∈ bs ∨ t.nbt = s.nbt) ∧ (Block.spc ∈ bs ∨ t.spc = s.spc) ∧
  (Block.clt ∈ bs ∨ t.clt = s.clt) ∧ (Block.asa ∈ bs ∨ t.asa = s.asa) ∧ (Block.slc ∈ bs ∨ t.slc = s.slc) ∧
  (Block.mpt ∈ bs ∨ t.mpt = s.mpt) ∧ (Block.pending ∈ bs ∨ t.pending = s.pending) ∧
  (Block.choices ∈ bs ∨ t.choices = s.choices)

/-! ### The outputs -/

/-- R184, R185: the RUN and FAULT outputs are as the state calls for; R91, R92: so are the posted limit and SIGNS_DOWN
from the entry to JOIN on. -/
def State.outputsFollow (s : State) : Prop :=
  s.stu.runLit = s.runLevel ∧ s.stu.faultLit = s.faultLevel ∧
  (s.onBus = true → s.spc.posted = s.postedLevel ∧ s.spc.signsDown = s.signsDownLevel)

/-! ### The sign link and the hold -/

/-- R171 to R174: HOLDACK is asserted exactly while the link is HELD; the link is HELD, or a hold pending, only while
HOLDREQ is asserted; no transaction and no retry stand while the link is HELD, nor in RESET and STOPPED. -/
def State.holdSafe (s : State) : Prop :=
  (s.slc.holdAck = true ↔ s.slc.link = .held) ∧
  (s.slc.link = .held → s.slc.holdReq = true ∧ s.slc.transaction = none ∧ s.slc.retry = none ∧ s.slc.holdPending = false) ∧
  (s.slc.holdPending = true → s.slc.holdReq = true) ∧
  (s.running = false → s.slc.transaction = none ∧ s.slc.retry = none ∧ s.slc.holdPending = false)

/-! ### The bounds of the tables -/

/-- R4, R29, R102, R149, R46: the edge queue holds at most 64 edges, a ring 8 records, the refused list 4 ids, the change
queue 8 groups, and the clash timer stands at 30 beats at most. -/
def State.bounded (s : State) : Prop :=
  s.lpi.queue.length ≤ 64 ∧ (∀ l, (s.lane l).ring.length ≤ 8) ∧ s.clt.refused.length ≤ 4 ∧ s.asa.queue.length ≤ 8 ∧
  s.crl.clashTimer ≤ 30

/-- R21, R22: in every current window the speed count does not exceed the count, 4095 at most, nor the speed sum 250 times
the speed count. -/
def State.windowsSound (s : State) : Prop :=
  ∀ l w, (s.lane l).window = some w → w.speedCount ≤ w.count ∧ w.count ≤ 4095 ∧ w.speedSum ≤ 250 * w.speedCount

/-- R22, R28: the same of every record of a ring. -/
def State.ringsSound (s : State) : Prop :=
  ∀ l, ∀ r ∈ (s.lane l).ring, r.speedCount ≤ r.count ∧ r.count ≤ 4095 ∧ r.speedSum ≤ 250 * r.speedCount

/-! ### Medium access -/

/-- R40 to R43: a next frame is held only while SENDING; in QUIET no frame is pending and in the other phases one is; a frame is
tried 6 times at most, and one that waits for an idle line has been tried fewer; a backoff is 1 to 16 slots. -/
def Crl.accessSound (c : Crl) : Prop :=
  (c.nextFrame ≠ none → c.phase = .sending) ∧ (c.pendingFrame = none ↔ c.phase = .quiet) ∧ c.attempt ≤ 6 ∧
  (c.phase = .waitIdle → c.attempt ≤ 5) ∧ (c.phase = .backoff → 1 ≤ c.backoff ∧ c.backoff ≤ 16)

/-! ### The tables kept by id or position -/

/-- The numbers of a list rise strictly. -/
def rising : List Nat → Bool
  | [] => true
  | x :: rest => (match rest with
      | [] => true
      | y :: _ => x < y) && rising rest

/-- R95: at most 8 closure records, at most one of them for an id, in ascending order of id. -/
def State.closuresSound (s : State) : Prop := s.clt.records.length ≤ 8 ∧ rising s.recordIds = true

/-- R79, R80: at most 4 ceiling records, at most one of them for an id, each id from 1 to 15. -/
def State.ceilingsSound (s : State) : Prop :=
  s.spc.ceilings.length ≤ 4 ∧ rising (s.spc.ceilings.map Ceiling.id) = true ∧
  ∀ c ∈ s.spc.ceilings, 1 ≤ c.id ∧ c.id ≤ 15 ∧ c.last ≤ 999 ∧ 1 ≤ c.first

/-- R56: at most one entry for a position, each of them within 6 of the station's own, so at most 12; on leaving RESET
there are none. -/
def State.neighboursSound (s : State) : Prop :=
  rising (s.nbt.map Neighbour.position) = true ∧ (∀ e ∈ s.nbt, s.inRange e.position = true) ∧
  (s.stu.station = .inReset → s.nbt = [])

/-- R181: discovery is under way in DISCOVER alone: it has ended when the station enters JOIN. -/
def State.discoveryEnded (s : State) : Prop := s.onBus = true → s.slc.discovery = none

/-- R85, R76, R77: from the entry to JOIN on, T does not exceed the closure ceiling nor the operator ceiling, and is 40 while the
station's own QUEUE flag is SET; before it, there is no record, no ceiling and no QUEUE. R93 takes T from the lit speeds at
the end of discovery, which is before it. -/
def State.targetWithin (s : State) : Prop :=
  (s.onBus = true →
    s.spc.target.num ≤ s.closureCeiling.num ∧ s.spc.target.num ≤ s.operatorCeiling.num ∧
    (s.spc.queueFlag = true → s.spc.target = .v40)) ∧
  (s.onBus = false → s.clt.records = [] ∧ s.spc.ceilings = [] ∧ s.spc.queueFlag = false) ∧ s.discoveryEnded

/-! ### What the signs show -/

/-- R144: the lantern pair's winner is OFF when the legend's is BLANK and FLASH when it is anything else. -/
def State.lanternFollows (s : State) : Prop :=
  (s.display lanternAddr).winner = lanternWinner (s.display legendAddr).winner

/-- R143: no lane in use has an arrow for its winner that points off the carriageway or into a lane whose base winner is
RED_X. -/
def State.noArrowIntoRed (s : State) : Prop :=
  ∀ l ∈ s.lanesInUse,
    ((s.display (laneAddr l)).winner = .arrowL →
      ∃ k ∈ s.lanesInUse, k.val + 1 = l.val ∧ (s.display (laneAddr k)).baseWinner ≠ some .redX) ∧
    ((s.display (laneAddr l)).winner = .arrowR →
      ∃ k ∈ s.lanesInUse, k.val = l.val + 1 ∧ (s.display (laneAddr k)).baseWinner ≠ some .redX)

/-- R140: every request at a lane's CLOSED level has its reason: an AT record in SETTING, PROVEN or DEGRADED, a LEAD_1 record that
substitutes on the lane, the orphan set, or the arrow post-pass. -/
def State.redCrossesReasoned (s : State) : Prop :=
  ∀ (l : Lane) (q : Request), q ∈ (s.display (laneAddr l)).row → q.level = .closed →
    match q.source with
    | .closure id _ => ∃ r, s.record id = some r ∧ r.role = some .atAnchor ∧
        (r.stage = .setting ∨ r.stage = .proven ∨ r.stage = .degraded)
    | .substitution id _ => ∃ r, s.record id = some r ∧ r.role = some .lead1 ∧ r.stage ≠ .released ∧ (l, .redX) ∈ r.substitution
    | .orphan k => k = l ∧ l ∈ s.clt.orphans
    | .enclosed => True
    | _ => False

/-- R121, R122: no AT record waits to clear: a release makes it a tombstone at once. -/
def State.anchorsNeverClear (s : State) : Prop := ∀ r ∈ s.clt.records, r.role = some .atAnchor → r.stage ≠ .waitClear

/-- R140, with what keeps it: the closure table is sound, and empty before the entry to JOIN; no AT record is in WAIT_CLEAR;
and discovery, whose end seeds the orphan set (R132), is over from the entry to JOIN on. -/
def State.crossesSafe (s : State) : Prop :=
  s.redCrossesReasoned ∧ s.closuresSound ∧ (s.onBus = false → s.clt.records = [] ∧ s.clt.orphans = []) ∧
  s.anchorsNeverClear ∧ s.discoveryEnded

/-- R148, R149: the change queue: at most 8 groups; only the head may be BEING_SENT; a WAITING group holds at least one entry
and only UNSENT ones; among the WAITING groups no NORMAL one stands ahead of an URGENT one; a module has at most one UNSENT
entry. R162: the entries of a group stand in ascending order of address. -/
def State.queueSound (s : State) : Prop :=
  s.asa.queue.length ≤ 8 ∧ (∀ g ∈ s.asa.queue.tail, g.beingSent = false) ∧
  (∀ g ∈ s.asa.queue, g.beingSent = false → g.entries ≠ [] ∧ ∀ e ∈ g.entries, e.sent = false) ∧
  (s.asa.queue.filter fun g => !g.beingSent).Pairwise (fun g h => h.kind = .urgent → g.kind = .urgent) ∧
  (∀ a : Addr, ((s.asa.queue.flatMap Group.entries).filter fun e => e.addr == a && !e.sent).length ≤ 1) ∧
  ∀ g ∈ s.asa.queue, g.entries.Pairwise fun e f => e.addr < f.addr

/-- R139: the requests of a row stand by level, highest first. -/
def State.rowsSorted (s : State) : Prop :=
  ∀ a : Addr, (s.display a).row.Pairwise fun q r => q.level.order ≤ r.level.order

/-- The arrows are safe, and no sign has been set in RESET, where the lane count is not yet sampled. -/
def State.arrowsSafe (s : State) : Prop :=
  s.noArrowIntoRed ∧ s.holdSafe ∧ (s.stu.station = .inReset → s.asa = Asa.reset)

end Sys2Proof.Machine
end

