-- ==== Sys2Proof/Certificates/Slice0/Obligations.lean ====
section
/-! DEFINITION. The statements for the provers, in the order of the manual's chapters. "Completes" is said by an equation
`exec c s = .next …` whose right side is written out, so that everything it does not name is unchanged, or by a next state
`t` with the blocks it may differ in (`State.sameBut`). `State.drive` sets the outputs, the posted limit and SIGNS_DOWN. -/

section Statements

open Sys2Proof Sys2Proof.Machine

/-! ### The machine -/

/-- A step takes the command at the front of the queue and runs it on the state with the queue's rest. The model's choice
(assumption 4): with no command waiting the part idles. -/
def Obligations.StepRunsFrontCommand : Prop :=
  (∀ (c : Instr) (q : List Instr) (s : State), step (s.withPending (c :: q)) = exec c (s.withPending q)) ∧
  (∀ s : State, step (s.withPending []) = .next (s.withPending []))

/-- Every command of the table completes in every state, and leaves the queue of the commands that wait alone. In a state in
which a command is not due it changes nothing, by the model's choice (assumption 2). -/
def Obligations.EveryCommandCompletes : Prop :=
  ∀ (c : Instr) (s : State), ∃ t, exec c s = .next t ∧ t.pending = s.pending

/-! ### Start-up and the maintenance port -/

/-- R178: power and reset put every block at its values after reset, with the restart kind that KEEP gives; the level of
HOLDREQ is the tool's. The straps held until the next release are the model's choice (assumption 1). So is that a reset
taken in RESET samples KEEP anew (26). -/
def Obligations.ResetAssertedClearsBlocks : Prop :=
  ∀ (s : State),
    exec .powerApplied s = .next
      { State.reset with
        slc := { Slc.reset with holdReq := s.slc.holdReq }, pending := s.pending, choices := s.choices } ∧
    ∀ keep : Bool, exec (.resetAsserted keep) s = .next
      { State.reset with
        stu := { Stu.reset with restart := if keep then .keep else .cold, straps := s.stu.straps, validity := s.stu.validity }
        slc := { Slc.reset with holdReq := s.slc.holdReq }, pending := s.pending, choices := s.choices }

/-- R179, R181, R19, R1, R160, R174: released with valid straps, the part enters DISCOVER: the counter is 0, each loop in use
takes the level it reads, sound and without an edge; a lane whose loops both read CLEAR enters EMPTY and any other lane
stays in RESYNC; discovery begins with an IDENT to every module address, unless HOLDREQ is asserted, which takes the link
at once. R179, R180, R181: released with an invalid strap, the part enters STOPPED with FAULT lit, RUN dark and the
validity that the two tests give, and runs nothing; a HOLDREQ that is asserted is granted at once. The link HELD with it
is the model's reading (assumption 17). -/
def Obligations.ReleaseEntersDiscoverOrStopped : Prop :=
  (∀ (s : State) (st : Straps) (sample : LoopSample),
      s.stu.station = .inReset → s.msu = Msu.reset → s.slc = { Slc.reset with holdReq := s.slc.holdReq } →
      1 ≤ st.position.toNat → st.position.toNat ≤ 999 → 2 ≤ st.laneCount.toNat → st.laneCount.toNat ≤ 6 →
      ∃ t, exec (.resetReleased st sample) s = .next t ∧
        s.sameBut [.stu, .lpi, .msu, .slc] t ∧
        t.stu.station = .discover ∧ t.stu.straps = st ∧ t.stu.validity = .valid ∧ t.stu.restart = s.stu.restart ∧
        t.stu.runLit = false ∧ t.stu.joinTimer = s.stu.joinTimer ∧
        t.lpi.ms = 0#16 ∧ t.lpi.queue = [] ∧
        (∀ (l : Lane) (p : Loop), t.loop l p =
          { LoopState.reset with level := if l.val < st.laneCount.toNat then (sample.get l).get p else .clear }) ∧
        (∀ l : Lane, t.lane l =
          { LaneState.reset with
            pairing := if l.val < st.laneCount.toNat ∧ sample.get l = ⟨.clear, .clear⟩ then .empty else .resync }) ∧
        t.msu.windowTimer = none ∧ t.msu.nextSeq = 0#12 ∧ t.msu.carriage = none ∧
        (s.slc.holdReq = true →
          t.slc = { Slc.reset with holdReq := true, holdAck := true, link := .held }) ∧
        (s.slc.holdReq = false →
          ∃ d, t.slc = { Slc.reset with discovery := some d } ∧ d.acting = [] ∧
            d.identing = (allAddrs.filter fun a => decide (a.val < st.laneCount.toNat ∨ 6 ≤ a.val)))) ∧
  (∀ (s : State) (st : Straps) (sample : LoopSample),
      s.stu.station = .inReset →
      ¬ (1 ≤ st.position.toNat ∧ st.position.toNat ≤ 999 ∧ 2 ≤ st.laneCount.toNat ∧ st.laneCount.toNat ≤ 6) →
      exec (.resetReleased st sample) s = .next
        { s with
          stu :=
            { s.stu with
              station := .stopped, straps := st, runLit := false, faultLit := true,
              validity :=
                if 2 ≤ st.laneCount.toNat ∧ st.laneCount.toNat ≤ 6 then .badPosition
                else if 1 ≤ st.position.toNat ∧ st.position.toNat ≤ 999 then .badLaneCount else .both }
          slc := if s.slc.holdReq then { s.slc with link := .held, holdAck := true } else s.slc })

/-! ### Loop inputs -/

/-- R2, R3, R1, R14: a millisecond samples every loop in use: a sample that equals the recognised level drops the candidate,
another one makes a candidate at this counter value unless one is held; occupied time counts while the loop reads
OCCUPIED; a loop that is not in use and everything else of LPI stay. In RESET and STOPPED nothing happens. The model's
choice (assumption 3): the millisecond is the one clock of every timer of the part; timers count down to 0 and stay, the
times since SET end count up, and so do the refresh timers, but for those of a HELD link or of a module still to be polled
by a proof round, which stand still; apart from LPI and these timers nothing changes. -/
def Obligations.MillisecondRunsLoopsAndTimers : Prop :=
  (∀ (s : State) (sample : LoopSample),
      (s.running = false → exec (.millisecondCounterIncrement sample) s = .next s) ∧
      (s.running = true →
        ∃ t, exec (.millisecondCounterIncrement sample) s = .next t ∧
          t.lpi.ms = s.lpi.ms + 1 ∧ t.lpi.queue = s.lpi.queue ∧
          (∀ (l : Lane) (p : Loop), s.lanes ≤ l.val → t.loop l p = s.loop l p) ∧
          ∀ (l : Lane) (p : Loop), l.val < s.lanes →
            t.loop l p =
              { s.loop l p with
                candidate :=
                  if (sample.get l).get p = (s.loop l p).level then none
                  else if (s.loop l p).candidate = none then some (s.lpi.ms + 1) else (s.loop l p).candidate
                occupiedMs :=
                  if (s.loop l p).level = .occupied ∧ (s.loop l p).occupiedMs < 300000 then (s.loop l p).occupiedMs + 1
                  else (s.loop l p).occupiedMs })) ∧
  (∀ (s : State) (sample : LoopSample), s.running = true →
      ∃ t, exec (.millisecondCounterIncrement sample) s = .next t ∧
        s.sameBut [.stu, .lpi, .msu, .crl, .spc, .clt, .slc] t ∧
        t.stu = { s.stu with joinTimer := s.stu.joinTimer.map (· - 1) } ∧
        t.msu = { s.msu with windowTimer := s.msu.windowTimer.map (· - 1) } ∧
        t.crl = { s.crl with beatTimer := s.crl.beatTimer.map (· - 1) } ∧
        t.spc = { s.spc with ceilings := s.spc.ceilings.map fun c => { c with expiry := c.expiry - 1 } } ∧
        t.clt.orphans = s.clt.orphans ∧
        t.clt.refused = s.clt.refused.map (fun r => { r with lifetime := r.lifetime - 1 }) ∧
        t.clt.records = s.clt.records.map (fun r =>
          { r with
            expiry := if r.stage = .waitClear ∨ r.stage = .released then r.expiry else r.expiry.map (· - 1)
            tombTime := r.tombTime.map (· - 1), waitTime := r.waitTime.map (· - 1) }) ∧
        (∀ a : Addr, t.mod a =
          { s.mod a with
            sinceSetEnd := (s.mod a).sinceSetEnd.map (· + 1)
            refresh :=
              if s.slc.link = .held ∨ s.waitsInRound a = true then (s.mod a).refresh
              else (s.mod a).refresh.map fun x => if x < 5000 then x + 1 else x
            identTimer := if (s.mod a).state = .failed then (s.mod a).identTimer.map (· - 1) else (s.mod a).identTimer }) ∧
        t.slc =
          { s.slc with
            modules := t.slc.modules
            discovery :=
              if s.slc.link = .held then s.slc.discovery
              else s.slc.discovery.map fun d =>
                { d with firstReply := d.firstReply.map (· + 1), lastReply := d.lastReply.map (· + 1) } })

/-- R2: five samples in a row of the other level, the counter running from `ms + 1` on, leave the candidate of the first of
them, ripe for recognition at that time. R2, R4, R14, R15: an OCCUPY of a loop in use is recognised: the level, the counts
of the loop and of its partner change, and the edge, with the candidate's start time, joins the queue's tail. The partner
stays clear of its fault conditions. R2, R14, R16: a CLEAR is recognised: the condition STUCK_ON ceases, an occupancy
shorter than 30 ms is counted, and the edge joins the queue. The loop stays clear of CHATTER. -/
def Obligations.EdgeRecognisedJoinsQueue : Prop :=
  (∀ (x : LoopState) (ms : Stamp) (v : LoopLevel), x.candidate = none → v ≠ x.level →
      (((((x.sample (ms + 1) v).sample (ms + 2) v).sample (ms + 3) v).sample (ms + 4) v).ripe (ms + 4) = none) ∧
      ((((((x.sample (ms + 1) v).sample (ms + 2) v).sample (ms + 3) v).sample (ms + 4) v).sample (ms + 5) v).ripe (ms + 5)
        = some (ms + 1)) ∧
      ∀ n : Stamp, (((x.sample (ms + 1) v).sample (ms + 2) v).sample n x.level).candidate = none) ∧
  (∀ (s : State) (n : Nat) (l : Lane) (p : Loop) (t0 : Stamp),
      laneOf n = some l → s.running = true → l.val < s.lanes →
      (s.loop l p).level = .clear → (s.loop l p).candidate = some t0 → 4 ≤ (s.lpi.ms - t0).toNat →
      s.lpi.queue.length < 64 →
      (s.loop l p.partner).partnerWhileOccupied < 4 → (s.loop l p.partner).partnerWhileClear < 29 →
      ∃ t, exec (.edgeRecognised n p) s = .next t.drive ∧
        s.sameBut [.lpi] t ∧ t.lpi.ms = s.lpi.ms ∧ t.lpi.queue = s.lpi.queue ++ [⟨l, p, .occupy, t0⟩] ∧
        t.loop l p =
          { s.loop l p with
            level := .occupied, candidate := none, occupyTime := t0, occupiedMs := 0, partnerWhileOccupied := 0,
            partnerWhileClear := 0 } ∧
        t.loop l p.partner =
          (if (s.loop l p.partner).level = .occupied then
            { s.loop l p.partner with partnerWhileOccupied := (s.loop l p.partner).partnerWhileOccupied + 1 }
          else { s.loop l p.partner with partnerWhileClear := (s.loop l p.partner).partnerWhileClear + 1 }) ∧
        ∀ k : Lane, k ≠ l → ∀ q : Loop, t.loop k q = s.loop k q) ∧
  (∀ (s : State) (n : Nat) (l : Lane) (p : Loop) (t0 : Stamp),
      laneOf n = some l → s.running = true → l.val < s.lanes →
      (s.loop l p).level = .occupied → (s.loop l p).candidate = some t0 → 4 ≤ (s.lpi.ms - t0).toNat →
      s.lpi.queue.length < 64 → (s.loop l p).shortOccupancies < 20 →
      ∃ t, exec (.edgeRecognised n p) s = .next t.drive ∧
        s.sameBut [.lpi] t ∧ t.lpi.ms = s.lpi.ms ∧ t.lpi.queue = s.lpi.queue ++ [⟨l, p, .clear, t0⟩] ∧
        t.loop l p =
          { s.loop l p with
            level := .clear, candidate := none, occupiedMs := 0,
            shortOccupancies :=
              if (t0 - (s.loop l p).occupyTime).toNat < 30 then (s.loop l p).shortOccupancies + 1
              else (s.loop l p).shortOccupancies } ∧
        ∀ (k : Lane) (q : Loop), (k ≠ l ∨ q ≠ p) → t.loop k q = s.loop k q)

/-- R5: a CLEAR recognised while the queue holds 64 edges is lost: the queue is unchanged, the level is taken all the same,
the lane's vehicle is dropped and its interval closed, its machine is in RESYNC (or already out of it by R11's test), its
window is marked; the other lanes are untouched. R5, R14, R15: an OCCUPY recognised while the queue holds 64 edges is lost
in the same way: the level and the counts are taken all the same, and the lane's machine stays in RESYNC, since its loop
now reads OCCUPIED. R11: in RESYNC an edge taken is discarded, and the lane is EMPTY as soon as both levels read CLEAR and
no edge of the lane is left in the queue. -/
def Obligations.LostEdgeForcesResync : Prop :=
  (∀ (s : State) (n : Nat) (l : Lane) (p : Loop) (t0 : Stamp),
      laneOf n = some l → s.running = true → l.val < s.lanes →
      (s.loop l p).level = .occupied → (s.loop l p).candidate = some t0 → 4 ≤ (s.lpi.ms - t0).toNat →
      s.lpi.queue.length = 64 → (s.loop l p).shortOccupancies < 20 →
      ∃ t, exec (.edgeRecognised n p) s = .next t.drive ∧
        s.sameBut [.lpi, .msu] t ∧ t.lpi.queue = s.lpi.queue ∧ (t.loop l p).level = .clear ∧
        (t.lane l).vehicle = none ∧ (t.lane l).interval = none ∧
        ((t.lane l).pairing =
          if (s.loop l p.partner).level = .clear ∧ (∀ e ∈ s.lpi.queue, e.lane ≠ l) then .empty else .resync) ∧
        (t.lane l).window = ((s.lane l).window.map fun w =>
          { (match (s.lane l).interval with
              | some iv => w.credit iv t0
              | none => w) with overflowSeen := true }) ∧
        (t.lane l).ring = (s.lane l).ring ∧ (∀ k : Lane, k ≠ l → t.lane k = s.lane k ∧ ∀ q : Loop, t.loop k q = s.loop k q)) ∧
  (∀ (s : State) (n : Nat) (l : Lane) (p : Loop) (t0 : Stamp),
      laneOf n = some l → s.running = true → l.val < s.lanes →
      (s.loop l p).level = .clear → (s.loop l p).candidate = some t0 → 4 ≤ (s.lpi.ms - t0).toNat →
      s.lpi.queue.length = 64 →
      (s.loop l p.partner).partnerWhileOccupied < 4 → (s.loop l p.partner).partnerWhileClear < 29 →
      ∃ t, exec (.edgeRecognised n p) s = .next t.drive ∧
        s.sameBut [.lpi, .msu] t ∧ t.lpi.ms = s.lpi.ms ∧ t.lpi.queue = s.lpi.queue ∧
        t.loop l p =
          { s.loop l p with
            level := .occupied, candidate := none, occupyTime := t0, occupiedMs := 0, partnerWhileOccupied := 0,
            partnerWhileClear := 0 } ∧
        t.loop l p.partner =
          (if (s.loop l p.partner).level = .occupied then
            { s.loop l p.partner with partnerWhileOccupied := (s.loop l p.partner).partnerWhileOccupied + 1 }
          else { s.loop l p.partner with partnerWhileClear := (s.loop l p.partner).partnerWhileClear + 1 }) ∧
        t.msu = { s.msu with lanes := t.msu.lanes } ∧
        t.lane l =
          { s.lane l with
            pairing := .resync, vehicle := none, interval := none
            window := (s.lane l).window.map fun w =>
              { (match (s.lane l).interval with
                  | some iv => w.credit iv t0
                  | none => w) with overflowSeen := true } } ∧
        (∀ k : Lane, k ≠ l → t.lane k = s.lane k ∧ ∀ q : Loop, t.loop k q = s.loop k q)) ∧
  (∀ (s : State) (e : Edge) (rest : List Edge),
      s.running = true → s.lpi.queue = e :: rest → (s.lane e.lane).pairing = .resync →
      exec .edgeTaken s = .next
        (if (s.loop e.lane .a).level = .clear ∧ (s.loop e.lane .b).level = .clear ∧ (∀ x ∈ rest, x.lane ≠ e.lane) then
          { s.setLane e.lane { s.lane e.lane with pairing := .empty, vehicle := none } with lpi := { s.lpi with queue := rest } }
        else { s with lpi := { s.lpi with queue := rest } }))

/-- R15, R17: the partner's OCCUPY that brings a clear loop's count to 30 makes the loop, unless it is FAULTY already, FAULTY
with kind STUCK_OFF. R14, R17: the partner's fifth OCCUPY since the last OCCUPY of a loop that has been occupied for
300,000 ms makes that loop FAULTY with kind STUCK_ON; one that is FAULTY already keeps its kind and loses its clean
window. R16, R17: the CLEAR that ends the twenty-first occupancy shorter than 30 ms of a window makes its loop FAULTY with
kind CHATTER, closes an interval open on it, and lets the window note the lane's new mode (R12, R26); a loop that is
FAULTY already keeps its kind and loses its clean window. The edge joins the queue's tail. R17, R14, R12, R26: STUCK_ON
taken on a loop in use: one that was not FAULTY becomes FAULTY with this kind, an interval open on it closes at the
present counter value and is credited, and the window notes the new mode; one that was FAULTY keeps its kind and loses its
clean window. Nothing else of LPI and MSU changes. R6, R4, R12, R22: in a single-loop mode each OCCUPY of the sound loop
taken outside RESYNC is one vehicle without speed, and opens an occupancy interval where none is open; no other edge, and
no edge in mode NONE, is a vehicle. -/
def Obligations.FaultConditionMakesLoopFaulty : Prop :=
  (∀ (s : State) (n : Nat) (l : Lane) (p : Loop) (t0 : Stamp),
      laneOf n = some l → s.running = true → l.val < s.lanes →
      (s.loop l p).level = .clear → (s.loop l p).candidate = some t0 → 4 ≤ (s.lpi.ms - t0).toNat →
      (s.loop l p.partner).level = .clear → (s.loop l p.partner).partnerWhileClear = 29 →
      (s.loop l p.partner).fault ≠ .faulty →
      ∃ t, exec (.edgeRecognised n p) s = .next t ∧
        t.loop l p.partner =
          { s.loop l p.partner with partnerWhileClear := 30, fault := .faulty, kind := some .stuckOff, cleanWindow := false } ∧
        t.stu.faultLit = true) ∧
  (∀ (s : State) (n : Nat) (l : Lane) (p : Loop) (t0 : Stamp),
      laneOf n = some l → s.running = true → l.val < s.lanes →
      (s.loop l p).level = .clear → (s.loop l p).candidate = some t0 → 4 ≤ (s.lpi.ms - t0).toNat →
      (s.loop l p.partner).level = .occupied → 300000 ≤ (s.loop l p.partner).occupiedMs →
      (s.loop l p.partner).partnerWhileOccupied = 4 →
      ∃ t, exec (.edgeRecognised n p) s = .next t ∧ t.stu.faultLit = true ∧
        t.loop l p.partner =
          (if (s.loop l p.partner).fault = .faulty then
            { s.loop l p.partner with partnerWhileOccupied := 5, cleanWindow := false }
          else
            { s.loop l p.partner with
              partnerWhileOccupied := 5, fault := .faulty, kind := some .stuckOn, cleanWindow := false }) ∧
        ((s.loop l p.partner).fault ≠ .faulty → ∀ iv, (t.lane l).interval = some iv → iv.loop = p)) ∧
  (∀ (s : State) (n : Nat) (l : Lane) (p : Loop) (t0 : Stamp),
      laneOf n = some l → s.running = true → l.val < s.lanes →
      (s.loop l p).level = .occupied → (s.loop l p).candidate = some t0 → 4 ≤ (s.lpi.ms - t0).toNat →
      s.lpi.queue.length < 64 → (s.loop l p).shortOccupancies = 20 → (t0 - (s.loop l p).occupyTime).toNat < 30 →
      ∃ t, exec (.edgeRecognised n p) s = .next t.drive ∧
        t.lpi.queue = s.lpi.queue ++ [⟨l, p, .clear, t0⟩] ∧
        t.loop l p =
          { s.loop l p with
            level := .clear, candidate := none, occupiedMs := 0, shortOccupancies := 21, cleanWindow := false
            fault := .faulty, kind := if (s.loop l p).fault = .faulty then (s.loop l p).kind else some .chatter } ∧
        (∀ (k : Lane) (q : Loop), (k ≠ l ∨ q ≠ p) → t.loop k q = s.loop k q) ∧
        ((s.loop l p).fault = .faulty → s.sameBut [.lpi] t) ∧
        ((s.loop l p).fault ≠ .faulty → s.sameBut [.lpi, .msu] t ∧ t.msu = { s.msu with lanes := t.msu.lanes } ∧
          t.lane l = { s.lane l with interval := (t.lane l).interval, window := (t.lane l).window } ∧
          (t.lane l).interval = ((s.lane l).interval.filter fun iv => iv.loop ≠ p) ∧
          (∀ w, (t.lane l).window = some w → w.singleSeen = true ∨ w.faultSeen = true) ∧
          ∀ k : Lane, k ≠ l → t.lane k = s.lane k)) ∧
  (∀ (s : State) (n : Nat) (l : Lane) (p : Loop),
      laneOf n = some l → s.running = true → l.val < s.lanes →
      (s.loop l p).level = .occupied → 300000 ≤ (s.loop l p).occupiedMs → 5 ≤ (s.loop l p).partnerWhileOccupied →
      ((s.loop l p).fault = .faulty →
        exec (.stuckOn n p) s = .next (s.setLoop l p { s.loop l p with cleanWindow := false }).drive) ∧
      ((s.loop l p).fault ≠ .faulty →
        ∃ t, exec (.stuckOn n p) s = .next t.drive ∧
          s.sameBut [.lpi, .msu] t ∧ t.lpi.ms = s.lpi.ms ∧ t.lpi.queue = s.lpi.queue ∧
          t.loop l p = { s.loop l p with fault := .faulty, kind := some .stuckOn, cleanWindow := false } ∧
          (∀ (k : Lane) (q : Loop), (k ≠ l ∨ q ≠ p) → t.loop k q = s.loop k q) ∧
          t.msu = { s.msu with lanes := t.msu.lanes } ∧
          t.lane l = { s.lane l with interval := (t.lane l).interval, window := (t.lane l).window } ∧
          (∀ k : Lane, k ≠ l → t.lane k = s.lane k) ∧ (t.lane l).pairing = (s.lane l).pairing ∧
          (t.lane l).vehicle = (s.lane l).vehicle ∧ (t.lane l).ring = (s.lane l).ring ∧
          (t.lane l).interval = ((s.lane l).interval.filter fun iv => iv.loop ≠ p) ∧
          (∀ w, (t.lane l).window = some w →
            w.singleSeen = true ∨ w.faultSeen = true) ∧
          (∀ w iv, (s.lane l).window = some w → (s.lane l).interval = some iv → iv.loop = p →
            ∃ v, (t.lane l).window = some v ∧ v.occMs = w.occMs + spanLength (w.creditStart iv) s.lpi.ms ∧
              v.count = w.count))) ∧
  (∀ (s : State) (e : Edge) (rest : List Edge) (w : Accum),
      s.running = true → s.lpi.queue = e :: rest → (s.lane e.lane).pairing ≠ .resync → s.mode e.lane ≠ .paired →
      (s.lane e.lane).window = some w → w.count < 4095 →
      ∃ t v, exec .edgeTaken s = .next t ∧ (t.lane e.lane).window = some v ∧ s.sameBut [.lpi, .msu] t ∧
        t.lpi = { s.lpi with queue := rest } ∧ t.msu = { s.msu with lanes := t.msu.lanes } ∧
        (∀ k : Lane, k ≠ e.lane → t.lane k = s.lane k) ∧
        (e.kind = .occupy ∧ ((s.mode e.lane = .singleA ∧ e.loop = .a) ∨ (s.mode e.lane = .singleB ∧ e.loop = .b)) →
          v = { w with count := w.count + 1 } ∧
          (t.lane e.lane).interval = some ((s.lane e.lane).interval.getD ⟨e.loop, e.time, false⟩)) ∧
        (¬ (e.kind = .occupy ∧ ((s.mode e.lane = .singleA ∧ e.loop = .a) ∨ (s.mode e.lane = .singleB ∧ e.loop = .b))) →
          v.count = w.count ∧ v.speedCount = w.speedCount ∧ v.speedSum = w.speedSum))

/-- R8: the three regular transitions before a completion, in mode PAIRED: the vehicle begins, its B time is kept, its A CLEAR
closes the interval that the A OCCUPY opened (R12, R23). R8, R10, R22, R13: the B CLEAR of a vehicle in progress, taken in
B_ON in mode PAIRED with no interval open on loop B, completes it: the paired count goes up, and the lane's window counts
one vehicle, with the speed of R10 when the transit time is 4000 ms or less. R6, R8, R12, R22: the same transitions in
every measuring mode. The A OCCUPY begins a vehicle whatever the mode, the B OCCUPY gives it its time only when it is not
counted, and the B CLEAR of a counted vehicle, or in a mode other than PAIRED, hands none to the window; the paired count
rises, to 255 at most, at a vehicle that was not counted, in every mode. The OCCUPY of a single-loop mode's loop counts
one vehicle, and an OCCUPY of the occupancy loop opens the interval that the loop's CLEAR closes. -/
def Obligations.RegularPassageCountsVehicle : Prop :=
  (∀ (s : State) (l : Lane) (e : Edge) (rest : List Edge),
      s.running = true → s.lpi.queue = e :: rest → e.lane = l → s.mode l = .paired →
      ((s.lane l).pairing = .empty → e.loop = .a → e.kind = .occupy → (s.lane l).interval = none →
        exec .edgeTaken s = .next
          { s.setLane l { s.lane l with
              pairing := .aOn, vehicle := some ⟨some e.time, none, false⟩, interval := some ⟨.a, e.time, false⟩ }
            with lpi := { s.lpi with queue := rest } }) ∧
      (∀ tA tB, (s.lane l).pairing = .aOn → e.loop = .b → e.kind = .occupy → (s.lane l).vehicle = some ⟨tA, tB, false⟩ →
        exec .edgeTaken s = .next
          { s.setLane l { s.lane l with pairing := .abOn, vehicle := some ⟨tA, some e.time, false⟩ }
            with lpi := { s.lpi with queue := rest } }) ∧
      (∀ t0 w, (s.lane l).pairing = .abOn → e.loop = .a → e.kind = .clear →
        (s.lane l).interval = some ⟨.a, t0, false⟩ → (s.lane l).window = some w →
        exec .edgeTaken s = .next
          { s.setLane l { s.lane l with
              pairing := .bOn, interval := none
              window := some { w with
                occMs := w.occMs + spanLength (if stampAfter t0 w.creditedTo then t0 else w.creditedTo) e.time
                creditedTo := if stampAfter e.time w.creditedTo then e.time else w.creditedTo } }
            with lpi := { s.lpi with queue := rest } })) ∧
  (∀ (s : State) (l : Lane) (e : Edge) (rest : List Edge) (tA tB : Stamp) (w : Accum),
      s.running = true → s.lpi.queue = e :: rest → e.lane = l → e.loop = .b → e.kind = .clear →
      (s.lane l).pairing = .bOn → (s.lane l).vehicle = some ⟨some tA, some tB, false⟩ → s.mode l = .paired →
      (s.lane l).window = some w → w.count < 4095 → (∀ iv, (s.lane l).interval = some iv → iv.loop = .a) →
      (s.lane l).pairedCount ≤ 254 →
      let delta := if (tB - tA).toNat = 0 then 1 else (tB - tA).toNat
      exec .edgeTaken s = .next
        { s.setLane l
            { s.lane l with
              pairing := .empty, vehicle := none, pairedCount := (s.lane l).pairedCount + 1
              window := some (
                if delta ≤ 4000 then
                  { w with
                    count := w.count + 1, speedCount := w.speedCount + 1
                    speedSum := w.speedSum + min ((360 * s.spacing + delta / 2) / delta) 250 }
                else { w with count := w.count + 1 }) }
          with lpi := { s.lpi with queue := rest } }) ∧
  (∀ (s : State) (l : Lane) (e : Edge) (rest : List Edge),
      s.running = true → s.lpi.queue = e :: rest → e.lane = l →
      let m := s.lane l
      let after := fun x : LaneState => ({ s.setLane l x with lpi := { s.lpi with queue := rest } } : State)
      let oneMore := fun w : Accum => { w with count := if w.count < 4095 then w.count + 1 else w.count }
      let credited := fun w : Accum => match m.interval with
        | some iv => if iv.loop = e.loop then w.credit iv e.time else w
        | none => w
      (m.pairing = .empty → e.loop = .a → e.kind = .occupy →
        exec .edgeTaken s = .next (after
          { m with
            pairing := .aOn, vehicle := some ⟨some e.time, none, false⟩
            interval :=
              if m.interval = none ∧ (s.mode l = .paired ∨ s.mode l = .singleA) then some ⟨.a, e.time, false⟩ else m.interval
            window := if s.mode l = .singleA then m.window.map oneMore else m.window })) ∧
      (∀ v, m.pairing = .aOn → e.loop = .b → e.kind = .occupy → m.vehicle = some v →
        exec .edgeTaken s = .next (after
          { m with
            pairing := .abOn, vehicle := some (if v.counted then v else { v with tB := some e.time })
            interval := if m.interval = none ∧ s.mode l = .singleB then some ⟨.b, e.time, false⟩ else m.interval
            window := if s.mode l = .singleB then m.window.map oneMore else m.window })) ∧
      (m.pairing = .abOn → e.loop = .a → e.kind = .clear →
        exec .edgeTaken s = .next (after
          { m with
            pairing := .bOn, interval := m.interval.filter fun iv => iv.loop ≠ .a, window := m.window.map credited })) ∧
      (∀ v, m.pairing = .bOn → e.loop = .b → e.kind = .clear → m.vehicle = some v → (v.counted = true ∨ s.mode l ≠ .paired) →
        exec .edgeTaken s = .next (after
          { m with
            pairing := .empty, vehicle := none
            pairedCount := if v.counted then m.pairedCount else if m.pairedCount < 255 then m.pairedCount + 1 else m.pairedCount
            interval := m.interval.filter fun iv => iv.loop ≠ .b, window := m.window.map credited })))

/-- R9: an irregular edge, in each state of the table, counts one vehicle without speed if none was counted, and leads to the
state of the new levels with a counted vehicle, or to EMPTY without one. -/
def Obligations.IrregularEdgeCountsOnce : Prop :=
  ∀ (dd : Nat) (v : Option Vehicle) (lane : Lane) (x : Stamp),
    let counted := (v.map Vehicle.counted).getD false
    let held : Option Vehicle := some ⟨none, none, true⟩
    let one : Option (Option Nat) := if counted then none else some none
    pairStep dd .empty none ⟨lane, .b, .occupy, x⟩ = ⟨.bOn, held, some none, false⟩ ∧
    pairStep dd .aOn v ⟨lane, .a, .clear, x⟩ = ⟨.empty, none, one, false⟩ ∧
    pairStep dd .abOn v ⟨lane, .b, .clear, x⟩ = ⟨.aOn, held, one, false⟩ ∧
    pairStep dd .bOn v ⟨lane, .a, .occupy, x⟩ = ⟨.abOn, held, one, false⟩

/-! ### Measurement windows -/

/-- R20, R21, R24, R27 to R29: at a window end each lane in use has its window closed into a record with the mark of R27, the
newest of at most 8, and a new window opens with the next sequence number and nothing in it but an open interval. R31,
R33, R34: after a window end a lane in use has fast values exactly when its newest record is VALID or COUNT_ONLY, its fast
occupancy being that record's; and the carriageway measurement is INVALID exactly when no lane in use has a newest record
that is not CLOSED and four records that are VALID or COUNT_ONLY. R31 to R33: the fast speed is the newest record's, the
slow speed, occupancy and flow are those of the ring's records that count, and the carriageway's speed and occupancy are
those of the lanes that are open and slow-valid; each a whole quotient, the speed EMPTY where no record counts a speed. -/
def Obligations.WindowEndClosesWindows : Prop :=
  (∀ s : State, s.onBus = true → s.msu.windowTimer = some 0 →
      ∃ t, exec .windowEnd s = .next t ∧ s.sameBut [.stu, .lpi, .msu, .spc, .asa] t ∧
        t.lpi.ms = s.lpi.ms ∧ t.lpi.queue = s.lpi.queue ∧ t.stu.station = s.stu.station ∧
        t.msu.windowTimer = some 15000 ∧ t.msu.nextSeq = s.msu.nextSeq + 1 ∧
        ∀ (l : Lane) (w : Accum), l.val < s.lanes → (s.lane l).window = some w →
          (∃ r, (t.lane l).ring = ((s.lane l).ring ++ [r]).drop ((s.lane l).ring.length - 7) ∧
            r.seq = w.seq ∧ r.count = w.count ∧ r.speedCount = w.speedCount ∧ r.speedSum = w.speedSum ∧
            r.occ = r.occMs / 15 ∧
            r.occMs = w.occMs + (match (s.lane l).interval with
              | some iv => spanLength (w.creditStart iv) s.lpi.ms
              | none => 0) ∧
            r.mark =
              (if w.closedSeen then .closed else if w.startSeen then .start else if w.overflowSeen then .overflow
              else if w.faultSeen then .loopFault else if w.recoverySeen then .recovery
              else if w.singleSeen then .countOnly else .valid)) ∧
          ∃ v, (t.lane l).window = some v ∧ v.seq = s.msu.nextSeq ∧ v.count = 0 ∧ v.speedCount = 0 ∧ v.speedSum = 0 ∧
            v.occMs = 0 ∧ v.creditedTo = s.lpi.ms ∧ v.startSeen = false ∧ v.overflowSeen = false ∧
            (v.closedSeen = true ↔ (s.display (laneAddr l)).winner = .redX ∨ (t.display (laneAddr l)).winner = .redX) ∧
            (v.faultSeen = true ↔ t.mode l = .none) ∧ (v.singleSeen = true ↔ t.mode l = .singleA ∨ t.mode l = .singleB) ∧
            (v.recoverySeen = true ↔ ∃ p, (t.loop l p).fault = .recovering)) ∧
  (∀ s : State, s.onBus = true → s.msu.windowTimer = some 0 →
      ∃ t, exec .windowEnd s = .next t ∧
        (∀ l : Lane, l.val < s.lanes →
          (t.lane l).fast.map Fast.occ =
            ((t.lane l).ring.getLast?.filter fun r => r.mark = .valid ∨ r.mark = .countOnly).map WindowRecord.occ) ∧
        (t.msu.carriage = none ↔
          ∀ l : Lane, l.val < s.lanes →
            ¬ ((∃ r, (t.lane l).ring.getLast? = some r ∧ r.mark ≠ .closed) ∧
              4 ≤ ((t.lane l).ring.filter fun r => r.mark = .valid ∨ r.mark = .countOnly).length))) ∧
  (∀ s : State, s.onBus = true → s.msu.windowTimer = some 0 →
      ∃ t, exec .windowEnd s = .next t ∧
        let sum := fun (f : WindowRecord → Nat) (rs : List WindowRecord) => (rs.map f).sum
        let speed := fun (rs : List WindowRecord) =>
          let v := rs.filter fun r => r.mark = .valid
          if sum WindowRecord.speedCount v = 0 then SpeedValue.empty
          else .kmh (sum WindowRecord.speedSum v / sum WindowRecord.speedCount v)
        let valid := fun (l : Lane) => (t.lane l).ring.filter fun r => r.mark = .valid ∨ r.mark = .countOnly
        let lanes := s.lanesInUse.filter fun l =>
          4 ≤ (valid l).length ∧ ((t.lane l).ring.getLast?.map WindowRecord.mark) ≠ some .closed
        (∀ l : Lane, l.val < s.lanes → ∀ x, (t.lane l).fast = some x →
          ∃ r, (t.lane l).ring.getLast? = some r ∧ x.speed = speed [r]) ∧
        (∀ l : Lane, l.val < s.lanes →
          (t.lane l).slow =
            if 4 ≤ (valid l).length then
              some
                { speed := speed (t.lane l).ring, occ := sum WindowRecord.occMs (valid l) / (15 * (valid l).length)
                  flow := sum WindowRecord.count (valid l) * 3600 / (15 * (valid l).length) }
            else none) ∧
        (lanes ≠ [] →
          t.msu.carriage = some
            { speed := speed (lanes.flatMap fun l => (t.lane l).ring)
              occ := (lanes.map fun l => sum WindowRecord.occMs (valid l) / (15 * (valid l).length)).sum / lanes.length }))

/-- R18: at a window end a FAULTY loop with a clean window on a lane with 3 regular completions is RECOVERING, a RECOVERING
one with a clean window SOUND; the short occupancies, the clean windows and the paired counts begin anew. -/
def Obligations.WindowEndEvaluatesLoops : Prop :=
  ∀ s : State, s.onBus = true → s.msu.windowTimer = some 0 →
    ∃ t, exec .windowEnd s = .next t ∧
      ∀ l : Lane, l.val < s.lanes → (t.lane l).pairedCount = 0 ∧
        ∀ p : Loop,
          (t.loop l p).shortOccupancies = 0 ∧
          ((s.loop l p).fault = .faulty → (s.loop l p).cleanWindow = true → 3 ≤ (s.lane l).pairedCount →
            (t.loop l p).fault = .recovering ∧ (t.loop l p).kind = none) ∧
          ((s.loop l p).fault = .faulty → ¬ ((s.loop l p).cleanWindow = true ∧ 3 ≤ (s.lane l).pairedCount) →
            (t.loop l p).fault = .faulty ∧ (t.loop l p).kind = (s.loop l p).kind) ∧
          ((s.loop l p).fault = .recovering → (s.loop l p).cleanWindow = true → (t.loop l p).fault = .sound) ∧
          ((s.loop l p).fault = .sound → (t.loop l p).fault = .sound) ∧
          ((t.loop l p).cleanWindow = true ↔
            ¬ ((s.loop l p).level = .occupied ∧ 300000 ≤ (s.loop l p).occupiedMs ∧ 5 ≤ (s.loop l p).partnerWhileOccupied) ∧
            ¬ ((s.loop l p).level = .clear ∧ 30 ≤ (s.loop l p).partnerWhileClear))

/-! ### The corridor bus -/

/-- R38, R39, R43, R46, R53, R54, R62: a beat with nothing left to tell of the last beat's ages. The cycle number goes up but
at the first beat, a frame that still waits is abandoned, the clash timer of a CLASH counts, the version follows the
closure entry list, the beat's frame is handed over with attempt 0 (or held as the next frame while SENDING), and every
entry ages. The model's choices: CLASH whose timer reaches 30 stays set until CLASH_CLEARED, or the next beat, takes it
(assumption 8), its timer then standing at 0 (29), an entry of age 10 stays listed until its removal is taken (5), and the
repeat count falls at STATE frames alone (23). R49, R51, R54: the frame a beat composes: an ANNOUNCE with the restart kind
while one is owed; otherwise a STATE frame with the station's flags and limits, one lane entry for each lane in use, and
the closure entries when it is full. R52: a lane's status is the first of the table whose condition holds: AT_FAILED,
ORPHAN, FAILED, LIMITED, CHANGING, else PROVEN; that a SET under way counts as CHANGING, and that a lane which no row fits
reports PROVEN, is the model's choice (assumption 23). -/
def Obligations.BeatComposesFrameAndAges : Prop :=
  (∀ s : State, s.onBus = true → s.crl.beatTimer = some 0 →
      (∀ e ∈ s.nbt, e.gone = false ∧ e.newlyStale = false) →
      ∃ t f, exec .beat s = .next t.drive ∧ s.sameBut [.crl, .nbt] t ∧
        t.crl =
          { s.crl with
            beatTimer := some 1000, firstBeat := false
            cycle := if s.crl.firstBeat then s.crl.cycle else s.crl.cycle + 1
            version := if s.crl.previousList.getD [] = s.closureEntries then s.crl.version else s.crl.version + 1
            previousList := some s.closureEntries
            repeatCount :=
              (if s.crl.previousList.getD [] = s.closureEntries then s.crl.repeatCount else 3) -
                (if s.crl.announceOwed then 0 else 1)
            pendingFrame := if s.crl.phase = .sending then s.crl.pendingFrame else some f
            nextFrame := if s.crl.phase = .sending then some f else s.crl.nextFrame
            attempt := if s.crl.phase = .sending then s.crl.attempt else 0
            phase := if s.crl.phase = .sending then .sending else .waitIdle
            backoff := if s.crl.phase = .sending then s.crl.backoff else 0
            clash := s.crl.clash && decide (s.crl.clashTimer < 30)
            clashTimer :=
              if s.crl.clash = false then s.crl.clashTimer
              else if s.crl.clashTimer < 30 then s.crl.clashTimer + 1 else 0 } ∧
        f.answersOwed = true ∧ f.frame.isAnnounce = s.crl.announceOwed ∧
        t.nbt = s.nbt.map (fun e => { e with age := e.age + 1, staleDue := e.staleDue || e.age + 1 == 4 })) ∧
  (∀ s : State, s.onBus = true → s.crl.beatTimer = some 0 → s.crl.phase ≠ .sending →
      (∀ e ∈ s.nbt, e.gone = false ∧ e.newlyStale = false) →
      ∃ t f, exec .beat s = .next t ∧ t.crl.pendingFrame = some f ∧
        (s.crl.announceOwed = true → f.frame = .announce s.position t.crl.cycle s.stu.restart) ∧
        (s.crl.announceOwed = false → ∃ g, f.frame = .state g ∧
          g.sender = s.position ∧ g.cycle = t.crl.cycle ∧ (g.joining = true ↔ s.stu.station = .join) ∧
          g.queue = s.spc.queueFlag ∧ (g.measInvalid = true ↔ s.msu.carriage = none) ∧ g.isolatedDown = s.spc.isolatedDown ∧
          g.signsDown = s.spc.signsDown ∧ (g.clash = true ↔ s.crl.clash = true ∧ s.crl.clashTimer < 29) ∧ (g.tableFull = true ↔ s.clt.refused ≠ []) ∧
          g.target = s.spc.target ∧ g.posted = s.spc.posted ∧ g.laneCount = s.lanes ∧ g.version = t.crl.version ∧
          g.lanes = s.lanesInUse.map (fun l => ⟨(s.display (laneAddr l)).ordered, s.laneStatus l⟩) ∧
          g.entries =
            if s.crl.previousList.getD [] ≠ s.closureEntries ∨ 0 < s.crl.repeatCount ∨ t.crl.cycle.toNat % 8 = 0 ∨
                s.crl.fullOwed = true then some s.closureEntries
            else none)) ∧
  (∀ (s : State) (l : Lane),
      let down := (s.mod (laneAddr l)).state = .failed ∨ (s.mod (laneAddr l)).state = .absent
      let atFailed := (s.display (laneAddr l)).winner = .redX ∧
        (∃ q ∈ (s.display (laneAddr l)).row, q.level = .closed ∧ q.source.isClosure = true) ∧
        (down ∨ canShow (s.mod (laneAddr l)).repertoire .redX = false)
      let orphan := ∃ q ∈ (s.display (laneAddr l)).row, q.level = .closed ∧ q.source.isOrphan = true
      let changing := s.slc.link = .held ∨ (s.mod (laneAddr l)).state = .changing ∨
        (∃ g ∈ s.asa.queue, ∃ e ∈ g.entries, e.addr = laneAddr l ∧ e.sent = false) ∨
        (∃ t ∈ s.slc.transaction.toList ++ s.slc.retry.toList, t.addr = laneAddr l ∧ t.command.isSet = true)
      (atFailed → s.laneStatus l = .atFailed) ∧
      (¬ atFailed → orphan → s.laneStatus l = .orphan) ∧
      (¬ atFailed → ¬ orphan → down → s.laneStatus l = .failed) ∧
      (¬ atFailed → ¬ orphan → ¬ down → (s.display (laneAddr l)).limited = true → s.laneStatus l = .limited) ∧
      (¬ atFailed → ¬ orphan → ¬ down → (s.display (laneAddr l)).limited = false → changing → s.laneStatus l = .changing) ∧
      (¬ atFailed → ¬ orphan → ¬ down → (s.display (laneAddr l)).limited = false → ¬ changing → s.laneStatus l = .proven))

/-! ### The neighbour table -/

/-- R62, R67, R68, R64: a neighbour that has become stale is told once, as the event ENTRY_STALE after the beat by the model's
choice (assumption 5); the step rule then takes another station for its partner, or finds none, which an entry downstream
has told to ISOLATED_DOWN. R62, R67, R68, R64: an entry whose age has reached 10 is removed and the removal told, as the
event ENTRY_REMOVED after the beat (assumption 5); it is no step partner any more. -/
def Obligations.AgedEntriesTold : Prop :=
  (∀ (s : State) (p : Nat), s.onBus = true → (∃ e ∈ s.nbt, e.position = p ∧ e.newlyStale = true) →
      ∃ t, exec (.entryStale p) s = .next t ∧ s.sameBut [.stu, .msu, .nbt, .spc, .clt, .asa] t ∧
        t.nbt = s.nbt.map (fun e => if e.position = p then { e with staleDue := false } else e) ∧
        t.stu.station = s.stu.station ∧
        (0 < s.offset p → (t.spc.isolatedDown = true ↔ s.stu.straps.terminal = false ∧ t.stepPartner = none)) ∧
        (s.neighboursSound → ∀ k e, t.stepPartner = some (k, e) → e.position ≠ p)) ∧
  (∀ (s : State) (p : Nat), s.onBus = true → (∃ e ∈ s.nbt, e.position = p ∧ 10 ≤ e.age) →
      ∃ t, exec (.entryRemoved p) s = .next t ∧ s.sameBut [.stu, .msu, .nbt, .spc, .clt, .asa] t ∧
        t.nbt = s.nbt.filter (fun e => e.position ≠ p) ∧ t.stu.station = s.stu.station ∧
        (0 < s.offset p → (t.spc.isolatedDown = true ↔ s.stu.straps.terminal = false ∧ t.stepPartner = none)) ∧
        (∀ k e, t.stepPartner = some (k, e) → e.position ≠ p))

/-! ### The corridor bus -/

/-- R45, R46: an accepted STATE frame or ANNOUNCE that bears the station's own position sets CLASH, starts the clash timer
again and goes no further. R46: CLASH whose timer has reached 30 is cleared, and FAULT follows; a younger CLASH stays.
That CLASH_CLEARED, a command of its own after the beat, clears it (assumption 8), that its timer then stands at 0 (29),
and that the command has no effect before it is due (2), are the model's choices. -/
def Obligations.OwnPositionSetsClash : Prop :=
  (∀ (s : State) (f : RxFrame) (r : Received), s.onBus = true →
      (∀ e ∈ s.nbt, e.gone = false ∧ e.newlyStale = false) → checkFrame f = some r → r.sender = s.position →
      ((r.kind = .state ∧ stateFrameOf r ≠ none) →
        exec (.stateReceived f) s = .next (State.drive
          { s with crl := { s.crl with clash := true, clashTimer := 0, receiver := .ready, idleBits := 10 } })) ∧
      ((r.kind = .announce ∧ announceOf r.payload ≠ none) →
        exec (.announceReceived f) s = .next (State.drive
          { s with crl := { s.crl with clash := true, clashTimer := 0, receiver := .ready, idleBits := 10 } }))) ∧
  (∀ s : State, s.onBus = true → s.crl.clash = true →
      (30 ≤ s.crl.clashTimer →
        exec .clashCleared s = .next (State.drive { s with crl := { s.crl with clash := false, clashTimer := 0 } })) ∧
      (s.crl.clashTimer < 30 → exec .clashCleared s = .next s.drive))

/-- R40: with the line idle for 32 bit times the pending frame's transmission starts and its attempt is counted; on a line
that has not been idle for so long it does not. How the idle bit times are counted from what the commands tell is the
model's choice (assumption 16). R41, R43, R49, R54: a frame read back whole is sent: an ANNOUNCE clears announce owed, a
full STATE frame that was composed after "full frame owed" was last set clears that; then the next frame, if one is held,
waits for the line, else the access is QUIET. That attempt keeps the last frame's count while no frame is pending is the
model's choice (assumption 29). R42, R43: a collision puts the station in BACKOFF for 1 + ((position + 5 a) mod 16) slots;
a frame whose beat is over is abandoned instead, and the next frame waits for the line. No owed flag changes. R42: at the
end of a backoff the frame waits for the line again, or is abandoned after the sixth attempt. That attempt then keeps its
count is the model's choice (assumption 29). That a command which is not due changes nothing is the model's choice
(assumption 2). -/
def Obligations.MediumAccessPhases : Prop :=
  (∀ (s : State) (n : Nat), s.onBus = true → s.crl.phase = .waitIdle → s.crl.pendingFrame ≠ none →
      (32 ≤ s.crl.idleBits + n → exec (.transmissionStart n) s = .next
        { s with crl :=
          { s.crl with attempt := s.crl.attempt + 1, phase := .sending, receiver := .ready, idleBits := 0 } }) ∧
      (s.crl.idleBits + n < 32 → exec (.transmissionStart n) s = .next s)) ∧
  (∀ (s : State) (f : TxFrame), s.crl.phase = .sending → s.crl.pendingFrame = some f →
      exec .frameSent s = .next
        { s with crl :=
          { s.crl with
            idleBits := 0
            fullOwed := s.crl.fullOwed && !(f.frame.isFull && f.answersOwed)
            announceOwed := s.crl.announceOwed && !f.frame.isAnnounce
            pendingFrame := s.crl.nextFrame, nextFrame := none
            attempt := if s.crl.nextFrame = none then s.crl.attempt else 0
            phase := if s.crl.nextFrame = none then .quiet else .waitIdle } }) ∧
  (∀ s : State, s.crl.phase = .sending →
      (s.crl.nextFrame = none →
        exec .collision s = .next
          { s with crl :=
            { s.crl with phase := .backoff, backoff := 1 + (s.position + 5 * s.crl.attempt) % 16, idleBits := 0 } }) ∧
      (∀ f, s.crl.nextFrame = some f →
        exec .collision s = .next
          { s with crl :=
            { s.crl with pendingFrame := some f, nextFrame := none, attempt := 0, phase := .waitIdle, idleBits := 0 } })) ∧
  (∀ s : State, s.crl.phase = .backoff →
      (s.crl.attempt < 6 → exec .backoffEnd s = .next { s with crl := { s.crl with phase := .waitIdle, backoff := 0 } }) ∧
      (6 ≤ s.crl.attempt →
        exec .backoffEnd s = .next { s with crl := { s.crl with pendingFrame := none, phase := .quiet, backoff := 0 } }))

/-- R44, R189: line activity that does not open with a sync, and a frame that fails a check, reach no other block: the first
leaves the receiver waiting for an idle line, the second is discarded whole. So is a frame that its kind's reader rejects,
because its payload has not the length of the kind or of its count fields (R44) or carries a code that names no value
(R190; which codes these are is the model's reading, assumption 13), and, by the model's choice (assumption 21), a frame
of another kind than its command's. Which activity reaches a station that is SENDING is the sender's (assumption 21). -/
def Obligations.BadActivityDiscarded : Prop :=
  ∀ (s : State) (b : Byte) (f : RxFrame), s.onBus = true →
    (∀ e ∈ s.nbt, e.gone = false ∧ e.newlyStale = false) →
    (b ≠ 0xA5#8 → exec (.lineActivityNotAFrame b) s = .next
      { s with crl := { s.crl with receiver := .awaitIdle, idleBits := 0 } }) ∧
    (checkFrame f = none → ∀ c ∈ [Instr.stateReceived f, .announceReceived f, .closeReceived f, .releaseReceived f,
        .ceilingReceived f, .orphanClearReceived f],
      exec c s = .next (State.drive
        { s with crl :=
          { s.crl with
            receiver := if f.framingError then .awaitIdle else .ready
            idleBits := if f.framingError then 0 else 10 } })) ∧
    (∀ r, checkFrame f = some r →
      let unread := (r.kind = .state → stateFrameOf r = none) ∧ (r.kind = .announce → announceOf r.payload = none) ∧
        (r.kind = .close → closeOf r.payload = none) ∧ (r.kind = .release → releaseOf r.payload = none) ∧
        (r.kind = .ceiling → ceilingOf r.payload = none) ∧ (r.kind = .orphanClear → orphanClearOf r.payload = none)
      ∀ x ∈ [(FrameKind.state, Instr.stateReceived f), (.announce, .announceReceived f), (.close, .closeReceived f),
          (.release, .releaseReceived f), (.ceiling, .ceilingReceived f), (.orphanClear, .orphanClearReceived f)],
        (unread ∨ r.kind ≠ x.1) →
        exec x.2 s = .next (State.drive { s with crl := { s.crl with receiver := .ready, idleBits := 10 } }))

/-- R189, R190, R44: the bytes of a frame of each kind, with a sender of the kind's range and at most 200 bytes of payload,
pass the checks of header, length, CRC and sender and give header and payload again; with a byte missing or a byte more,
or ended by a framing error, they are discarded. The kind's reader then takes a payload of the kind's length alone: CLOSE
11 bytes, RELEASE 4, CEILING 9, ORPHAN_CLEAR 3, ANNOUNCE one byte with a restart kind, STATE the length that its lane
count and closure entries give. -/
def Obligations.FrameBytesAccepted : Prop :=
  ∀ (k : FrameKind) (sender : Nat) (cycle : Cycle) (payload : List Byte), payload.length ≤ 200 →
    (k.fromStation = true → 1 ≤ sender ∧ sender ≤ 999) → (k.fromStation = false → 1000 ≤ sender ∧ sender ≤ 1015) →
    checkFrame ⟨frameBytes k sender cycle payload, false⟩ = some ⟨k, sender, cycle, payload⟩ ∧
    (∀ n, n < (frameBytes k sender cycle payload).length → checkFrame ⟨(frameBytes k sender cycle payload).take n, false⟩ = none) ∧
    (∀ b, checkFrame ⟨frameBytes k sender cycle payload ++ [b], false⟩ = none) ∧
    checkFrame ⟨frameBytes k sender cycle payload, true⟩ = none ∧
    (closeOf payload ≠ none ↔ payload.length = 11) ∧ (releaseOf payload ≠ none ↔ payload.length = 4) ∧
    (ceilingOf payload ≠ none ↔ payload.length = 9) ∧ (orphanClearOf payload ≠ none ↔ payload.length = 3) ∧
    (announceOf payload ≠ none ↔ payload = [0x00#8] ∨ payload = [0x01#8]) ∧
    ∀ f, stateFrameOf ⟨.state, sender, cycle, payload⟩ = some f →
      2 ≤ f.laneCount ∧ f.laneCount ≤ 6 ∧ f.lanes.length = f.laneCount ∧
      payload.length = 8 + f.laneCount + 10 * (f.entries.getD []).length

/-- R190: every STATE frame a station can compose, with 2 to 6 lane entries of lane aspects and at most 8 closure entries of
the ranges of R54, is read again from its payload as it was written. -/
def Obligations.StateFrameRoundTrip : Prop :=
  ∀ f : StateFrame, 2 ≤ f.laneCount → f.laneCount ≤ 6 → f.lanes.length = f.laneCount →
    (∀ e ∈ f.lanes, e.aspect.code ≤ 9) →
    (∀ es, f.entries = some es → es.length ≤ 8 ∧ ∀ e ∈ es,
      e.id ≤ 255 ∧ e.anchor ≤ 65535 ∧ e.firstLane ≤ 15 ∧ e.width ≤ 15 ∧ e.leadIn ≤ 255 ∧ e.minutes ≤ 1440 ∧
      e.leadSpeed ≠ .v100 ∧ e.leadSpeed ≠ .unlimited) →
    stateFrameOf ⟨.state, f.sender, f.cycle, f.payload⟩ = some f

/-! ### The neighbour table -/

/-- R48, R57, R58, R60: an accepted STATE frame of another station within 6 gantries, whose cycle number is newer than the one
held or finds none held, makes or updates the sender's entry; the entries of the other positions stay. A frame that is not
newer leaves every table as it was, and so does one from farther away. R59, R60, R105 to R107, R101: a full frame's
summary is the list of its entries in ascending order of id, and its entries are handed on. A live entry of a closure that
concerns the station is adopted where the table holds none for its id and has room, replaces the fields of a held record
where its gen is newer, and else leaves them. A RELEASED entry at the held gen or a newer one releases a live record,
refreshes a tombstone of an older gen, and where none is held leaves a tombstone, whose time to expiry is the model's
choice (assumption 31). R66, R117, R123: a full frame from the LEAD_1 station, JOINING clear, with an entry of the
record's id and gen in PROVEN or DEGRADED is the lead report: the AT record that waits for it places its red crosses. A
full frame from the station downstream, JOINING clear, that lacks the id or holds its gen as RELEASED is the clear report:
the record that waits to clear withdraws its requests and becomes a tombstone. R129 to R131, R66: when a first frame from
the anchor at +1, or at +2, tells of its lanes, the substitution lanes of a live LEAD_1, or LEAD_2, record are exactly its
local lanes reported AT_FAILED there, red crosses for LEAD_1 and arrows for a LEAD_2 record without FULL_CLOSURE; where
they change, so do its substitution requests. When the anchor's entry becomes stale there are none. -/
def Obligations.StateFrameUpdatesEntry : Prop :=
  (∀ (s : State) (f : RxFrame) (r : Received) (g : StateFrame), s.onBus = true →
      (∀ e ∈ s.nbt, e.gone = false ∧ e.newlyStale = false) → checkFrame f = some r → r.kind = .state →
      stateFrameOf r = some g → g.sender ≠ s.position →
      (s.inRange g.sender = true →
        (∀ e c, s.entryFor g.sender = some e → e.cycle = some c → newerCycle g.cycle c = true) →
        ∃ t e, exec (.stateReceived f) s = .next t ∧ s.sameBut [.stu, .msu, .crl, .nbt, .spc, .clt, .asa] t ∧
          t.crl = { s.crl with receiver := .ready, idleBits := 10 } ∧ t.stu.station = s.stu.station ∧
          t.entryFor g.sender = some e ∧ e.cycle = some g.cycle ∧ e.age = 0 ∧ e.target = g.target ∧ e.posted = g.posted ∧
          e.joining = g.joining ∧ e.queue = g.queue ∧ e.signsDown = g.signsDown ∧ e.lanes = g.lanes ∧
          e.version = g.version ∧ e.restart = (s.entryFor g.sender).bind Neighbour.restart ∧
          (g.entries = none → e.summary = ((s.entryFor g.sender).filter fun o => o.version = g.version).bind Neighbour.summary) ∧
          (∀ p, p ≠ g.sender → t.entryFor p = s.entryFor p)) ∧
      ((s.inRange g.sender = false ∨
          ∃ e c, s.entryFor g.sender = some e ∧ e.cycle = some c ∧ newerCycle g.cycle c = false) →
        exec (.stateReceived f) s = .next (State.drive { s with crl := { s.crl with receiver := .ready, idleBits := 10 } }))) ∧
  (∀ (s : State) (f : RxFrame) (r : Received) (g : StateFrame) (es : List ClosureEntry), s.onBus = true →
      (∀ e ∈ s.nbt, e.gone = false ∧ e.newlyStale = false) → s.closuresSound → checkFrame f = some r → r.kind = .state →
      stateFrameOf r = some g → g.sender ≠ s.position → s.inRange g.sender = true →
      (∀ e c, s.entryFor g.sender = some e → e.cycle = some c → newerCycle g.cycle c = true) → g.entries = some es →
      ∃ t e items, exec (.stateReceived f) s = .next t ∧ t.entryFor g.sender = some e ∧ e.summary = some items ∧
        items.length = es.length ∧ items.Pairwise (fun i j => i.id ≤ j.id) ∧
        (∀ i, i ∈ items ↔ ∃ x ∈ es, i = ⟨x.id, x.gen, x.stage⟩) ∧
        ∀ x ∈ es, (∀ y ∈ es, y.id = x.id → y = x) → ∀ k, x.inForm = some k →
          let fields := fun (y : ClosureRecord) =>
            y.gen = k.gen ∧ y.anchor = k.anchor ∧ y.firstLane = k.firstLane ∧ y.width = k.width ∧ y.leadIn = k.leadIn ∧
            y.leadSpeed = k.leadSpeed ∧ y.role = roleOf s.position k.anchor k.leadIn ∧
            y.localLanes = localLanesOf s.lanes k.firstLane k.width ∧
            y.expiry = (if k.minutes = 0 then none else some (k.minutes * 60000)) ∧ y.pendingMod = none
          let concerned := roleOf s.position k.anchor k.leadIn ≠ none
          let room := s.clt.records.length + es.length ≤ 8
          let cleared := t.reports 1 x.id x.gen .released = true ∨ t.lacksId 1 x.id = true
          (x.stage ≠ .released → s.record x.id = none → concerned → room →
            (∀ q ∈ t.clt.refused, q.id ≠ x.id) ∧
            ∃ y, t.record x.id = some y ∧ fields y ∧ y.tombTime = none ∧ y.stage ≠ .released ∧ y.stage ≠ .waitClear ∧
              (y.role ≠ some .atAnchor → y.stage ≠ .waitLead ∧ ∀ z ∈ y.requestSet s.lanes, z.2 ∈ (t.display z.1).row)) ∧
          (∀ z, x.stage ≠ .released → s.record x.id = some z → z.pendingMod = none → concerned → newerGen x.gen z.gen = true →
            (z.stage ≠ .released ∨ room) →
            ∃ y, t.record x.id = some y ∧ fields y ∧ y.stage ≠ .released) ∧
          (∀ z, x.stage ≠ .released → s.record x.id = some z → z.pendingMod = none → newerGen x.gen z.gen = false →
            z.stage ≠ .released →
            ∃ y, t.record x.id = some y ∧ y.gen = z.gen ∧ y.anchor = z.anchor ∧ y.role = z.role ∧ y.localLanes = z.localLanes ∧
              y.expiry = z.expiry) ∧
          (∀ z, x.stage = .released → s.record x.id = some z → z.stage ≠ .released → (x.gen = z.gen ∨ newerGen x.gen z.gen = true) →
            (z.stage ≠ .waitClear → z.role = some .atAnchor ∨ (z.role ≠ none ∧ cleared) →
              t.record x.id = some
                { z with
                  gen := x.gen, stage := .released, tombTime := some 300000, waitTime := none, awaiting := [],
                  legendWaits := false, substitution := [], pendingMod := none } ∧
              ∀ a, ∀ q ∈ (t.display a).row, q.source.ownOf x.id = false ∧ q.source.substOf x.id = false) ∧
            (z.stage ≠ .waitClear → z.role ≠ some .atAnchor → z.role ≠ none → ¬ cleared →
              ∃ y, t.record x.id = some y ∧ y.gen = x.gen ∧ y.stage = .waitClear ∧ y.waitTime = some 10000 ∧ y.pendingMod = none)) ∧
          (∀ z, x.stage = .released → s.record x.id = some z → z.stage = .released → room →
            t.record x.id = some (if newerGen x.gen z.gen then { z with gen := x.gen, tombTime := some 300000 } else z)) ∧
          (x.stage = .released → s.record x.id = none → concerned → room →
            (∀ q ∈ t.clt.refused, q.id ≠ x.id) ∧
            ∃ y, t.record x.id = some y ∧ fields y ∧ y.stage = .released ∧ y.tombTime = some 300000)) ∧
  (∀ (s : State) (f : RxFrame) (r : Received) (g : StateFrame) (es : List ClosureEntry) (id : Nat) (z : ClosureRecord),
      s.onBus = true →
      (∀ e ∈ s.nbt, e.gone = false ∧ e.newlyStale = false) → s.closuresSound → checkFrame f = some r → r.kind = .state →
      stateFrameOf r = some g → s.inRange g.sender = true →
      (∀ e c, s.entryFor g.sender = some e → e.cycle = some c → newerCycle g.cycle c = true) → g.entries = some es →
      g.joining = false → s.record id = some z →
      (g.sender + 1 = s.position → z.role = some .atAnchor →
        (z.stage = .waitLead ∨ (z.stage = .setting ∧ z.awaiting ≠ [])) → z.pendingMod = none →
        (∃ x ∈ es, x.id = id ∧ x.gen = z.gen ∧ (x.stage = .proven ∨ x.stage = .degraded)) → (∀ x ∈ es, x.id = id → x.gen = z.gen ∧ x.stage ≠ .released) →
        ∃ t y, exec (.stateReceived f) s = .next t ∧ t.record id = some y ∧
          (y.stage = .setting ∨ y.stage = .proven ∨ y.stage = .degraded) ∧ y.waitTime = none ∧ y.awaiting = [] ∧
          ∀ x ∈ z.requestSet s.lanes, x.2 ∈ (t.display x.1).row) ∧
      (g.sender = s.position + 1 → z.stage = .waitClear →
        ((∀ x ∈ es, x.id ≠ id) ∨
          ((∃ x ∈ es, x.id = id) ∧ ∀ x ∈ es, x.id = id → x.gen = z.gen ∧ x.stage = .released)) →
        ∃ t, exec (.stateReceived f) s = .next t ∧
          t.record id = some
            { z with
              stage := .released, tombTime := some 300000, waitTime := none, awaiting := [], legendWaits := false,
              substitution := [], pendingMod := none } ∧
          ∀ a, ∀ q ∈ (t.display a).row, q.source.ownOf id = false ∧ q.source.substOf id = false)) ∧
  ((∀ (s : State) (f : RxFrame) (r : Received) (g : StateFrame) (id : Nat) (z : ClosureRecord),
      s.onBus = true →
      (∀ e ∈ s.nbt, e.gone = false ∧ e.newlyStale = false) → s.closuresSound → checkFrame f = some r → r.kind = .state →
      stateFrameOf r = some g → s.inRange g.sender = true → g.entries = none → s.entryFor g.sender = none →
      s.record id = some z → z.stage ≠ .released → z.pendingMod = none →
      let failed := z.localLanes.filter fun l => l.val < g.laneCount ∧ (g.lanes[l.val]?).map LaneEntry.status = some .atFailed
      (g.sender = s.position + 1 ∧ z.role = some .lead1) ∨ (g.sender = s.position + 2 ∧ z.role = some .lead2) →
      ∃ t y, exec (.stateReceived f) s = .next t ∧ t.record id = some y ∧
        y.substitution =
          (if z.role = some .lead1 then failed.map fun l => (l, .redX)
          else if z.fullClosure then [] else failed.map fun l => (l, arrowOn s.lanes z.localLanes l)) ∧
        (y.substitution ≠ z.substitution → ∀ (a : Addr) (q : Request), q.source.substOf id = true →
          (q ∈ (t.display a).row ↔ ∃ x ∈ y.substitution, a = laneAddr x.1 ∧
            q = ⟨if x.2 = .redX then .closed else .divert, .substitution id z.anchor, x.2⟩))) ∧
    (∀ (s : State) (p id : Nat) (z : ClosureRecord), s.onBus = true → s.closuresSound → s.neighboursSound →
      (∃ e ∈ s.nbt, e.position = p ∧ e.newlyStale = true) → s.record id = some z → z.stage ≠ .released → z.pendingMod = none →
      (p = s.position + 1 ∧ z.role = some .lead1) ∨ (p = s.position + 2 ∧ z.role = some .lead2) →
      ∃ t y, exec (.entryStale p) s = .next t ∧ t.record id = some y ∧ y.substitution = [] ∧
        (z.substitution ≠ [] → ∀ a, ∀ q ∈ (t.display a).row, q.source.substOf id = false)))

/-- R50, R61, R54: an ANNOUNCE of another station within 6 gantries makes a full frame owed, which no frame composed before it
answers, one being sent included (that an ANNOUNCE reaches a station that is SENDING is the sender's, assumption 21), and
clears the held cycle number and the summary of its sender's entry, which is JOINING with age 0. -/
def Obligations.AnnounceOwesFullFrame : Prop :=
  ∀ (s : State) (f : RxFrame) (r : Received) (k : RestartKind), s.onBus = true →
    (∀ e ∈ s.nbt, e.gone = false ∧ e.newlyStale = false) → checkFrame f = some r → r.kind = .announce →
    announceOf r.payload = some k → r.sender ≠ s.position →
    (s.inRange r.sender = true →
      ∃ t, exec (.announceReceived f) s = .next t ∧ s.sameBut [.stu, .msu, .crl, .nbt, .spc, .clt, .asa] t ∧
        t.crl.fullOwed = true ∧ (∀ x, t.crl.pendingFrame = some x → x.answersOwed = false) ∧
        (∀ x, t.crl.nextFrame = some x → x.answersOwed = false) ∧ t.crl.phase = s.crl.phase ∧
        (s.crl.phase = .sending → ∃ u, exec .frameSent t = .next u ∧ u.crl.fullOwed = true) ∧
        t.entryFor r.sender = (s.entryFor r.sender).map (fun e =>
          { e with cycle := none, restart := some k, joining := true, summary := none, age := 0, staleDue := false }) ∧
        (∀ p, p ≠ r.sender → t.entryFor p = s.entryFor p)) ∧
    (s.inRange r.sender = false →
      exec (.announceReceived f) s = .next (State.drive { s with crl := { s.crl with receiver := .ready, idleBits := 10 } }))

/-! ### Speed setting -/

/-- R83: the candidate of every recomputation is the least of the four limits, NONE counted as 120. -/
def Obligations.CandidateIsLeast : Prop :=
  ∀ (s t : State), t = s.recompute ∨ t = s.recomputeWindow →
    ∃ v, t.spc.stages = some v ∧ v.c.num = min (min v.l1.num v.lq.num) (min v.lc.num v.lop.num) ∧
      (v.c = v.l1 ∨ v.c = v.lq ∨ v.c = v.lc ∨ v.c = v.lop)

/-- R71, R83 to R85: an event recomputation lowers T to C2 where C2 is below it, with both counts at 0, and never raises it; C
is the least of the four limits, and C2 the lower of C and the step ceiling of the step partner, if there is one and
TERMINAL is clear; ISOLATED_DOWN says that there is none. -/
def Obligations.EventRecomputationLowers : Prop :=
  ∀ s : State, ∃ v, s.recompute.spc.stages = some v ∧
    v.c.num = min (min v.l1.num v.lq.num) (min v.lc.num v.lop.num) ∧
    (s.stu.straps.terminal = true ∨ s.stepPartner = none → v.c2 = v.c) ∧
    (∀ k e, s.stu.straps.terminal = false → s.stepPartner = some (k, e) →
      v.c2.num = min v.c.num (quantise (e.posted.num + 20 * k)).num) ∧
    (s.recompute.spc.isolatedDown = true ↔ s.stu.straps.terminal = false ∧ s.stepPartner = none) ∧
    (v.c2.num < s.spc.target.num →
      s.recompute.spc.target = v.c2 ∧ s.recompute.spc.held = 0 ∧ s.recompute.spc.raiseStreak = 0) ∧
    (s.spc.target.num ≤ v.c2.num →
      s.recompute.spc.target = s.spc.target ∧ s.recompute.spc.held = s.spc.held ∧
        s.recompute.spc.raiseStreak = s.spc.raiseStreak)

/-- R86: at a window end T is lowered to C2 at once, or stands, or rises by one member of V at the third window end in a row
with C2 above it once it has stood for four, while the carriageway measurement is valid. R75, R76: the QUEUE flag over the
valid open lanes at a window end: set when half of them are slow, kept while half of them are still queued, cleared at the
second window end in a row at which fewer are. -/
def Obligations.WindowEndAppliesCandidate : Prop :=
  (∀ s : State, s.onBus = true → s.msu.windowTimer = some 0 →
      ∃ t v, exec .windowEnd s = .next t ∧ t.spc.stages = some v ∧
        (v.c2.num < s.spc.target.num → t.spc.target = v.c2 ∧ t.spc.held = 0 ∧ t.spc.raiseStreak = 0) ∧
        (v.c2 = s.spc.target →
          t.spc.target = s.spc.target ∧ t.spc.held = (if s.spc.held < 255 then s.spc.held + 1 else s.spc.held) ∧ t.spc.raiseStreak = 0) ∧
        (s.spc.target.num < v.c2.num →
          (2 ≤ s.spc.raiseStreak ∧ 3 ≤ s.spc.held ∧ t.msu.carriage ≠ none →
            t.spc.target = s.spc.target.next ∧ t.spc.held = 0 ∧ t.spc.raiseStreak = 0) ∧
          (¬ (2 ≤ s.spc.raiseStreak ∧ 3 ≤ s.spc.held ∧ t.msu.carriage ≠ none) →
            t.spc.target = s.spc.target ∧ t.spc.raiseStreak = s.spc.raiseStreak + 1 ∧
              t.spc.held = (if s.spc.held < 255 then s.spc.held + 1 else s.spc.held)))) ∧
  (∀ s : State, s.onBus = true → s.msu.windowTimer = some 0 → s.spc.clearStreak ≤ 1 →
      ∃ t, exec .windowEnd s = .next t ∧
        let n := t.fastLanes.length
        let slow := (t.fastLanes.filter Fast.slow).length
        let queued := (t.fastLanes.filter Fast.stillQueued).length
        (n = 0 → t.spc.queueFlag = s.spc.queueFlag ∧ t.spc.clearStreak = s.spc.clearStreak) ∧
        (0 < n → n ≤ 2 * slow → t.spc.queueFlag = true ∧ t.spc.clearStreak = 0) ∧
        (0 < n → 2 * slow < n → s.spc.queueFlag = false → t.spc.queueFlag = false ∧ t.spc.clearStreak = 0) ∧
        (0 < n → 2 * slow < n → s.spc.queueFlag = true → n ≤ 2 * queued → t.spc.queueFlag = true ∧ t.spc.clearStreak = 0) ∧
        (0 < n → 2 * slow < n → s.spc.queueFlag = true → 2 * queued < n →
          (s.spc.clearStreak = 0 → t.spc.queueFlag = true ∧ t.spc.clearStreak = 1) ∧
          (s.spc.clearStreak = 1 → t.spc.queueFlag = false ∧ t.spc.clearStreak = 0)))

/-- R87: after a window end every lane in use holds SPC's SPEED request for T, and none while T is NONE. R91: the posted limit
does not exceed T nor, with the link OWNED, a speed proven by a READY lane module in use, and it is one of them; while the
link is HELD it is T. -/
def Obligations.SpeedRequestsFollowTarget : Prop :=
  (∀ s : State, s.onBus = true → s.msu.windowTimer = some 0 →
      ∃ t, exec .windowEnd s = .next t ∧
        ∀ (l : Lane) (x : Aspect), l.val < s.lanes →
          (⟨.speed, .spc, x⟩ ∈ (t.display (laneAddr l)).row ↔ t.spc.target.aspect = some x)) ∧
  (∀ s : State, s.onBus = true →
      s.drive.spc.posted.num ≤ s.spc.target.num ∧
      (s.slc.link = .held → s.drive.spc.posted = s.spc.target) ∧
      (s.slc.link = .owned → ∀ l a v, l ∈ s.lanesInUse → (s.mod (laneAddr l)).state = .ready →
        (s.mod (laneAddr l)).proven = some a → a.speed = some v → s.drive.spc.posted.num ≤ v.num) ∧
      (s.drive.spc.posted = s.spc.target ∨
        ∃ l ∈ s.lanesInUse, ∃ a, (s.mod (laneAddr l)).state = .ready ∧ (s.mod (laneAddr l)).proven = some a ∧
          a.speed = some s.drive.spc.posted))

/-- R74, R77, R78: the limits of stages 1, 3 and 4 by their tables. -/
def Obligations.StageTables : Prop :=
  (∀ v : Nat, ((quantise v).num ≤ v ∨ quantise v = .v40) ∧ ∀ m : Limit, m.num ≤ v → m.num ≤ (quantise v).num) ∧
  (∀ (t : Limit) (x o : Nat), localDemand t none = t ∧
    (localDemand t (some ⟨.kmh x, o⟩)).num =
      min (quantise (x + 10)).num (if 300 ≤ o then 50 else if 200 ≤ o then 60 else if 120 ≤ o then 80 else if 80 ≤ o then 100 else 120) ∧
    (localDemand t (some ⟨.empty, o⟩)).num =
      if 800 ≤ o then 40 else if 300 ≤ o then 50 else if 200 ≤ o then 60 else if 120 ≤ o then 80 else if 80 ≤ o then 100 else 120) ∧
  (queueCeiling none = .unlimited ∧ ∀ d : Nat,
    (queueCeiling (some d)).num = if d ≤ 1 then 40 else if d = 2 then 60 else if d = 3 then 80 else 120) ∧
  (∀ ls : Limit, ls = .v40 ∨ ls = .v50 ∨ ls = .v60 ∨ ls = .v80 →
    roleCeiling .atAnchor ls = ls ∧ roleCeiling .lead1 ls = ls ∧
    (roleCeiling .lead2 ls).num = (if ls.num ≤ 50 then 60 else ls.num + 20) ∧
    (roleCeiling .lead3 ls).num = (if ls.num ≤ 50 then 80 else ls.num + 40))

/-- R79, R80, R47: an accepted CEILING frame in form acts on the ceiling table by R80: NONE or a range that does not cover the
station removes the record with its id; a range that covers it installs or replaces the record with its time started
again, in a full table in place of the record that expires soonest. Every change makes SPC recompute, so T does not exceed
the limit. R79: a CEILING frame with an id of 0 or above 15 has no effect beyond the line. R81: a ceiling record whose
time has run out is removed and SPC recomputes; one whose time has not is kept. That a command which is not due changes
nothing is the model's choice (assumption 2). -/
def Obligations.CeilingFrameAndExpiry : Prop :=
  (∀ (s : State) (f : RxFrame) (r : Received) (c : CeilingFields), s.onBus = true →
      (∀ e ∈ s.nbt, e.gone = false ∧ e.newlyStale = false) → s.ceilingsSound →
      checkFrame f = some r → r.kind = .ceiling → ceilingOf r.payload = some c → 1 ≤ c.id → c.id ≤ 15 →
      let covers := min c.first c.last ≤ s.position ∧ s.position ≤ max c.first c.last
      let limit : Limit := if c.limit = 0 then .unlimited else quantise c.limit
      let record : Ceiling := ⟨c.id, max 1 (min c.first c.last), min (max c.first c.last) 999, limit, c.incident,
        (max 1 (min c.minutes 1440)) * 60000⟩
      ∃ t, exec (.ceilingReceived f) s = .next t ∧ s.sameBut [.stu, .msu, .crl, .spc, .asa] t ∧
        t.crl = { s.crl with receiver := .ready, idleBits := 10 } ∧
        (limit = .unlimited ∨ ¬ covers → t.spc.ceilings = s.spc.ceilings.filter (fun x => x.id ≠ c.id)) ∧
        (limit ≠ .unlimited → covers → t.spc.target.num ≤ limit.num ∧
          ((∃ x ∈ s.spc.ceilings, x.id = c.id) ∨ s.spc.ceilings.length < 4 →
            ∀ x, x ∈ t.spc.ceilings ↔ x = record ∨ (x ∈ s.spc.ceilings ∧ x.id ≠ c.id)) ∧
          ((∀ x ∈ s.spc.ceilings, x.id ≠ c.id) → s.spc.ceilings.length = 4 →
            ∃ d ∈ s.spc.ceilings, (∀ y ∈ s.spc.ceilings, d.expiry < y.expiry ∨ (d.expiry = y.expiry ∧ d.id ≤ y.id)) ∧
              ∀ x, x ∈ t.spc.ceilings ↔ x = record ∨ (x ∈ s.spc.ceilings ∧ x ≠ d)))) ∧
  (∀ (s : State) (f : RxFrame) (r : Received) (c : CeilingFields), s.onBus = true →
      (∀ e ∈ s.nbt, e.gone = false ∧ e.newlyStale = false) → checkFrame f = some r → r.kind = .ceiling →
      ceilingOf r.payload = some c → (c.id = 0 ∨ 15 < c.id) →
      exec (.ceilingReceived f) s = .next (State.drive { s with crl := { s.crl with receiver := .ready, idleBits := 10 } })) ∧
  (∀ (s : State) (id : Nat), s.onBus = true →
      ((∃ c ∈ s.spc.ceilings, c.id = id ∧ c.expiry = 0) →
        ∃ t, exec (.ceilingExpiry id) s = .next t ∧ s.sameBut [.stu, .msu, .spc, .asa] t ∧
          t.spc.ceilings = s.spc.ceilings.filter (fun c => c.id ≠ id) ∧ t.spc.target.num ≤ s.spc.target.num ∧
          ∃ v, t.spc.stages = some v ∧ v.lop = leastLimit (t.spc.ceilings.map Ceiling.limit)) ∧
      ((∀ c ∈ s.spc.ceilings, c.id = id → 0 < c.expiry) → exec (.ceilingExpiry id) s = .next s))

/-! ### Closure records -/

/-- R98: a CLOSE frame's fields in form: each in the range of a record, those that are in range unchanged, the lead speed
quantised down and limited to 80; an id of 0 or an anchor of 0 or above 999 discards the frame. -/
def Obligations.CloseFieldsInForm : Prop :=
  (∀ f : CloseFields,
    (f.inForm = none ↔ f.id = 0 ∨ f.anchor = 0 ∨ 1000 ≤ f.anchor) ∧
    ∀ c, f.inForm = some c →
      c.id = f.id ∧ c.gen = f.gen ∧ c.anchor = f.anchor ∧
      c.firstLane = max 1 (min f.firstLane 6) ∧
      c.width = min (max 1 f.width) (7 - c.firstLane) ∧ c.firstLane + c.width ≤ 7 ∧
      c.leadIn = max 1 (min f.leadIn 3) ∧ c.minutes = min f.duration 1440 ∧
      c.leadSpeed.num = min 80 (quantise (if f.leadSpeed = 0 then 120 else f.leadSpeed)).num) ∧
  ∀ (s : State) (f : RxFrame) (r : Received) (c : CloseFields), s.onBus = true →
    (∀ e ∈ s.nbt, e.gone = false ∧ e.newlyStale = false) → checkFrame f = some r → r.kind = .close →
    closeOf r.payload = some c → (c.id = 0 ∨ c.anchor = 0 ∨ 1000 ≤ c.anchor) →
    exec (.closeReceived f) s = .next (State.drive { s with crl := { s.crl with receiver := .ready, idleBits := 10 } })

/-- R109: the arrow of a local lane of a window of `w` lanes that begins at lane `first` on `n` lanes: right where the window
includes lane 1 and not lane n, left where it includes lane n, over which it may run, and not lane 1, and in between left
on the first half of the lanes, the centre lane included, right on the rest; a full closure makes no DIVERT request. R109,
R108: a LEAD_1 record without FULL_CLOSURE has on each of its local lanes one DIVERT request with that lane's arrow, on no
other address one, and with FULL_CLOSURE none. -/
def Obligations.ArrowsLeadToOpenLanes : Prop :=
  (∀ (n first w : Nat), 2 ≤ n → n ≤ 6 → 1 ≤ first → 1 ≤ w →
      let ls := localLanesOf n first w
      (∀ l ∈ ls,
        (first = 1 → w < n → arrowOn n ls l = .arrowR) ∧
        (1 < first → n < first + w → arrowOn n ls l = .arrowL) ∧
        (1 < first → first + w ≤ n → (arrowOn n ls l = .arrowL ↔ 2 * (l.val + 1 - first) < w) ∧
          (arrowOn n ls l = .arrowR ↔ w ≤ 2 * (l.val + 1 - first)))) ∧
      ∀ r : ClosureRecord, r.fullClosure = true → ∀ x ∈ r.requestSet n, x.2.level ≠ .divert) ∧
  (∀ (n : Nat) (r : ClosureRecord), r.role = some .lead1 →
      (r.fullClosure = true → ∀ x ∈ r.requestSet n, x.2.level ≠ .divert) ∧
      (r.fullClosure = false → ∀ x : Addr × Request,
        (x ∈ r.requestSet n ∧ x.2.level = .divert) ↔
          ∃ l ∈ r.localLanes, x = (laneAddr l, ⟨.divert, .closure r.id r.anchor, arrowOn n r.localLanes l⟩)))

/-- R100, R101, R97, R110, R116, R118: a CLOSE frame of a closure that concerns the station and that it does not hold is
installed while the table has room: the record has the fields in form, its role, lanes and time; a LEAD role has placed
its request set; AT waits for its lead where none is reported yet; the other records stay, and T is within the record's
ceiling. R100, R101, R96: with 8 records the closure takes the slot of the oldest tombstone, which is removed, and a newer
gen of a tombstone's own id takes that tombstone's; the id leaves the refused list and the other records stay. A tombstone
stays where the newer gen does not concern the station. -/
def Obligations.CloseInstallsRecord : Prop :=
  (∀ (s : State) (f : RxFrame) (r : Received) (c : CloseFields) (k : Closure) (role : Role),
      s.onBus = true → (∀ e ∈ s.nbt, e.gone = false ∧ e.newlyStale = false) →
      s.closuresSound → checkFrame f = some r → r.kind = .close → closeOf r.payload = some c → c.inForm = some k →
      roleOf s.position k.anchor k.leadIn = some role → s.record k.id = none → s.clt.records.length < 8 →
      ∃ t x, exec (.closeReceived f) s = .next t ∧ s.sameBut [.stu, .msu, .crl, .spc, .clt, .asa] t ∧
        t.crl = { s.crl with receiver := .ready, idleBits := 10 } ∧ t.record k.id = some x ∧
        x.gen = k.gen ∧ x.anchor = k.anchor ∧ x.firstLane = k.firstLane ∧ x.width = k.width ∧ x.leadIn = k.leadIn ∧
        x.leadSpeed = k.leadSpeed ∧ x.role = some role ∧ x.localLanes = localLanesOf s.lanes k.firstLane k.width ∧
        x.expiry = (if k.minutes = 0 then none else some (k.minutes * 60000)) ∧ x.tombTime = none ∧ x.pendingMod = none ∧
        (∀ id, id ≠ k.id → t.record id = s.record id) ∧ (∀ q ∈ t.clt.refused, q.id ≠ k.id) ∧ t.clt.orphans = s.clt.orphans ∧
        t.spc.target.num ≤ (roleCeiling role k.leadSpeed).num ∧
        (role ≠ .atAnchor →
          (x.stage = .setting ∨ x.stage = .proven ∨ x.stage = .degraded) ∧
          ∀ y ∈ x.requestSet s.lanes, y.2 ∈ (t.display y.1).row) ∧
        (role = .atAnchor → s.stu.straps.first = false → s.reports (-1) k.id k.gen .proven = false →
          s.reports (-1) k.id k.gen .degraded = false → x.stage = .waitLead ∧ x.waitTime = some 10000)) ∧
  (∀ (s : State) (f : RxFrame) (r : Received) (c : CloseFields) (k : Closure),
      s.onBus = true → (∀ e ∈ s.nbt, e.gone = false ∧ e.newlyStale = false) →
      s.closuresSound → checkFrame f = some r → r.kind = .close → closeOf r.payload = some c → c.inForm = some k →
      let installed := fun (t : State) (role : Role) (x : ClosureRecord) =>
        t.record k.id = some x ∧ x.gen = k.gen ∧ x.anchor = k.anchor ∧ x.firstLane = k.firstLane ∧ x.width = k.width ∧
        x.leadIn = k.leadIn ∧ x.leadSpeed = k.leadSpeed ∧ x.role = some role ∧
        x.localLanes = localLanesOf s.lanes k.firstLane k.width ∧
        x.expiry = (if k.minutes = 0 then none else some (k.minutes * 60000)) ∧ x.stage ≠ .released ∧ x.tombTime = none ∧
        x.pendingMod = none ∧ (∀ q ∈ t.clt.refused, q.id ≠ k.id)
      (∀ role d, roleOf s.position k.anchor k.leadIn = some role → s.record k.id = none → s.clt.records.length = 8 →
        d ∈ s.clt.records → d.stage = .released →
        (∀ z ∈ s.clt.records, z.stage = .released → d.tombTime.getD 0 < z.tombTime.getD 0 ∨
          (d.tombTime.getD 0 = z.tombTime.getD 0 ∧ d.id ≤ z.id)) →
        ∃ t x, exec (.closeReceived f) s = .next t ∧ installed t role x ∧ t.record d.id = none ∧
          ∀ id, id ≠ k.id → id ≠ d.id → t.record id = s.record id) ∧
      (∀ z, s.record k.id = some z → z.stage = .released → newerGen k.gen z.gen = true →
        (∀ role, roleOf s.position k.anchor k.leadIn = some role →
          ∃ t x, exec (.closeReceived f) s = .next t ∧ installed t role x ∧
            ∀ id, id ≠ k.id → t.record id = s.record id) ∧
        (roleOf s.position k.anchor k.leadIn = none →
          ∃ t, exec (.closeReceived f) s = .next t ∧ t.clt = s.clt)))

/-- R101, R102: with 8 live records the closure is refused: the table stays, and the id goes to the tail of the refused list
with 300,000 ms, the oldest of four others leaving it. R100, R125: a CLOSE frame whose gen is not newer than the held one
leaves the table; a newer one with AFTER_CURRENT that finds the record in WAIT_LEAD or SETTING waits as its pending
modification, unless a newer one waits already. -/
def Obligations.CloseRefusedOrDeferred : Prop :=
  (∀ (s : State) (f : RxFrame) (r : Received) (c : CloseFields) (k : Closure),
      s.onBus = true → (∀ e ∈ s.nbt, e.gone = false ∧ e.newlyStale = false) →
      checkFrame f = some r → r.kind = .close → closeOf r.payload = some c → c.inForm = some k →
      roleOf s.position k.anchor k.leadIn ≠ none → s.record k.id = none → s.clt.records.length = 8 →
      (∀ x ∈ s.clt.records, x.stage ≠ .released) →
      ∃ t, exec (.closeReceived f) s = .next t ∧ s.sameBut [.stu, .msu, .crl, .spc, .clt, .asa] t ∧
        t.spc.target = s.spc.target ∧ t.clt.records = s.clt.records ∧ t.clt.orphans = s.clt.orphans ∧
        ((s.clt.refused.filter fun q => q.id ≠ k.id).length < 4 →
          t.clt.refused = (s.clt.refused.filter fun q => q.id ≠ k.id) ++ [⟨k.id, 300000⟩]) ∧
        (∀ q rest, (s.clt.refused.filter fun q => q.id ≠ k.id) = q :: rest → rest.length = 3 →
          t.clt.refused = rest ++ [⟨k.id, 300000⟩])) ∧
  (∀ (s : State) (f : RxFrame) (r : Received) (c : CloseFields) (k : Closure) (x : ClosureRecord),
      s.onBus = true → (∀ e ∈ s.nbt, e.gone = false ∧ e.newlyStale = false) → s.closuresSound →
      checkFrame f = some r → r.kind = .close → closeOf r.payload = some c → c.inForm = some k → s.record k.id = some x →
      (newerGen k.gen x.gen = false →
        ∃ t, exec (.closeReceived f) s = .next t ∧ t.clt = s.clt ∧ t.spc.target = s.spc.target) ∧
      (newerGen k.gen x.gen = true → c.afterCurrent = true → (x.stage = .waitLead ∨ x.stage = .setting) →
        ∃ t, exec (.closeReceived f) s = .next t ∧ t.spc.target = s.spc.target ∧ t.clt.refused = s.clt.refused ∧
          (∀ id, id ≠ k.id → t.record id = s.record id) ∧
          t.record k.id = some
            { x with
              pendingMod := match x.pendingMod with
                | none => some k
                | some p => if newerGen k.gen p.gen then some k else some p }))

/-- R126, R128, R97, R111: a newer CLOSE, without AFTER_CURRENT or reaching a settled record or one in WAIT_CLEAR, that leaves
a LEAD record in its role replaces its fields, and the record's own requests on the signs are exactly those of its new
request set, also where it waited to clear; a pending modification that is not newer is discarded. R127: of an AT record
left at AT, one in WAIT_LEAD stays so with its wait set anew; another enters SETTING, keeps its crosses on the lanes that
stay local, and waits with the new lanes, and a new ROAD_CLOSED, for the lead; with no new lane, or FIRST, or the lead's
report at the new gen, it places its request set at once; that the report is looked at at once for the added lanes is the
model's reading (assumption 25). R126, R128: one that gives the station another role withdraws every request of the record
and starts the new role as a fresh installation, also in WAIT_CLEAR. One that leaves the station unconcerned keeps the old
fields other than gen and releases the record: AT becomes a tombstone, LEAD waits to clear, and one in WAIT_CLEAR stays
there with its wait. R125, R126: a pending modification with a gen newer than that of the CLOSE that modifies the record
stays, and is applied when the record is settled. -/
def Obligations.CloseModifiesLead : Prop :=
  (∀ (s : State) (f : RxFrame) (r : Received) (c : CloseFields) (k : Closure) (x : ClosureRecord) (role : Role),
      s.onBus = true → (∀ e ∈ s.nbt, e.gone = false ∧ e.newlyStale = false) → s.closuresSound →
      checkFrame f = some r → r.kind = .close → closeOf r.payload = some c → c.inForm = some k → (c.afterCurrent = true → x.stage ≠ .waitLead ∧ x.stage ≠ .setting) →
      s.record k.id = some x → x.stage ≠ .released → newerGen k.gen x.gen = true → (∀ p, x.pendingMod = some p → newerGen p.gen k.gen = false) →
      x.role = some role → roleOf s.position k.anchor k.leadIn = some role → role ≠ .atAnchor →
      ∃ t y, exec (.closeReceived f) s = .next t ∧ s.sameBut [.stu, .msu, .crl, .spc, .clt, .asa] t ∧ t.record k.id = some y ∧
        y.gen = k.gen ∧ y.anchor = k.anchor ∧ y.firstLane = k.firstLane ∧ y.width = k.width ∧ y.leadIn = k.leadIn ∧
        y.leadSpeed = k.leadSpeed ∧ y.role = some role ∧ y.localLanes = localLanesOf s.lanes k.firstLane k.width ∧
        y.expiry = (if k.minutes = 0 then none else some (k.minutes * 60000)) ∧
        (y.stage = .setting ∨ y.stage = .proven ∨ y.stage = .degraded) ∧ y.waitTime = none ∧ y.pendingMod = none ∧
        (∀ id, id ≠ k.id → t.record id = s.record id) ∧
        ∀ (a : Addr) (q : Request), q.source.ownOf k.id = true →
          (q ∈ (t.display a).row ↔ (a, q) ∈ y.requestSet s.lanes)) ∧
  (∀ (s : State) (f : RxFrame) (r : Received) (c : CloseFields) (k : Closure) (x : ClosureRecord),
      s.onBus = true → (∀ e ∈ s.nbt, e.gone = false ∧ e.newlyStale = false) → s.closuresSound →
      checkFrame f = some r → r.kind = .close → closeOf r.payload = some c → c.inForm = some k →
      (c.afterCurrent = true → x.stage ≠ .waitLead ∧ x.stage ≠ .setting) →
      s.record k.id = some x → x.stage ≠ .released → x.stage ≠ .waitClear → newerGen k.gen x.gen = true →
      (∀ p, x.pendingMod = some p → newerGen p.gen k.gen = false) → x.role = some .atAnchor → roleOf s.position k.anchor k.leadIn = some .atAnchor →
      let added := (localLanesOf s.lanes k.firstLane k.width).filter fun l =>
        !(s.display (laneAddr l)).row.any fun q => q.level == .closed && q.source.ownOf k.id
      let reported := s.stu.straps.first = true ∨ s.reports (-1) k.id k.gen .proven = true ∨
        s.reports (-1) k.id k.gen .degraded = true
      ∃ t y, exec (.closeReceived f) s = .next t ∧ s.sameBut [.stu, .msu, .crl, .spc, .clt, .asa] t ∧ t.record k.id = some y ∧
        y.gen = k.gen ∧ y.anchor = k.anchor ∧ y.firstLane = k.firstLane ∧ y.width = k.width ∧ y.leadIn = k.leadIn ∧
        y.leadSpeed = k.leadSpeed ∧ y.role = some .atAnchor ∧ y.localLanes = localLanesOf s.lanes k.firstLane k.width ∧
        y.expiry = (if k.minutes = 0 then none else some (k.minutes * 60000)) ∧
        y.pendingMod = none ∧ (∀ id, id ≠ k.id → t.record id = s.record id) ∧
        (x.stage = .waitLead → ¬ reported →
          y.stage = .waitLead ∧ y.waitTime = some 10000 ∧
          ∀ a q, q.source.ownOf k.id = true → (q ∈ (t.display a).row ↔ q ∈ (s.display a).row)) ∧
        (x.stage ≠ .waitLead → added ≠ [] → ¬ reported →
          y.stage = .setting ∧ y.waitTime = some 10000 ∧ y.awaiting = added ∧
          (∀ (l : Lane) (q : Request), q.source.ownOf k.id = true →
            (q ∈ (t.display (laneAddr l)).row ↔ q ∈ (s.display (laneAddr l)).row ∧ l ∈ y.localLanes)) ∧
          ∀ q : Request, q.source.ownOf k.id = true →
            (q ∈ (t.display legendAddr).row ↔ q ∈ (s.display legendAddr).row ∧ y.fullClosure = true)) ∧
        (reported ∨ (x.stage ≠ .waitLead ∧ added = []) →
          (y.stage = .setting ∨ y.stage = .proven ∨ y.stage = .degraded) ∧ y.waitTime = none ∧ y.awaiting = [] ∧
          ∀ z ∈ y.requestSet s.lanes, z.2 ∈ (t.display z.1).row)) ∧
  (∀ (s : State) (f : RxFrame) (r : Received) (c : CloseFields) (k : Closure) (x : ClosureRecord),
      s.onBus = true → (∀ e ∈ s.nbt, e.gone = false ∧ e.newlyStale = false) → s.closuresSound →
      checkFrame f = some r → r.kind = .close → closeOf r.payload = some c → c.inForm = some k →
      (c.afterCurrent = true → x.stage ≠ .waitLead ∧ x.stage ≠ .setting) →
      s.record k.id = some x → x.stage ≠ .released → newerGen k.gen x.gen = true → (∀ p, x.pendingMod = some p → newerGen p.gen k.gen = false) →
      ∃ t y, exec (.closeReceived f) s = .next t ∧ s.sameBut [.stu, .msu, .crl, .spc, .clt, .asa] t ∧ t.record k.id = some y ∧
        y.gen = k.gen ∧ y.pendingMod = none ∧ (∀ id, id ≠ k.id → t.record id = s.record id) ∧
        (∀ role, roleOf s.position k.anchor k.leadIn = some role → x.role ≠ some role →
          y.anchor = k.anchor ∧ y.firstLane = k.firstLane ∧ y.width = k.width ∧ y.leadIn = k.leadIn ∧
          y.leadSpeed = k.leadSpeed ∧ y.role = some role ∧ y.localLanes = localLanesOf s.lanes k.firstLane k.width ∧
          y.expiry = (if k.minutes = 0 then none else some (k.minutes * 60000)) ∧
          (role ≠ .atAnchor →
            (y.stage = .setting ∨ y.stage = .proven ∨ y.stage = .degraded) ∧ y.waitTime = none ∧
            ∀ (a : Addr) (q : Request), q.source.ownOf k.id = true →
              (q ∈ (t.display a).row ↔ (a, q) ∈ y.requestSet s.lanes)) ∧
          (role = .atAnchor → s.stu.straps.first = false → s.reports (-1) k.id k.gen .proven = false →
            s.reports (-1) k.id k.gen .degraded = false →
            y.stage = .waitLead ∧ y.waitTime = some 10000 ∧
            ∀ a, ∀ q ∈ (t.display a).row, q.source.ownOf k.id = false ∧ q.source.substOf k.id = false)) ∧
        (roleOf s.position k.anchor k.leadIn = none →
          (x.stage = .waitClear → y = { x with gen := k.gen, pendingMod := none }) ∧
          (x.stage ≠ .waitClear → x.role = some .atAnchor →
            y = { x with
              gen := k.gen, stage := .released, tombTime := some 300000, waitTime := none, awaiting := [],
              legendWaits := false, substitution := [], pendingMod := none } ∧
            ∀ a, ∀ q ∈ (t.display a).row, q.source.ownOf k.id = false ∧ q.source.substOf k.id = false) ∧
          (x.stage ≠ .waitClear → x.role ≠ some .atAnchor → x.role ≠ none →
            s.reports 1 k.id k.gen .released = false → s.lacksId 1 k.id = false →
            y = { x with gen := k.gen, stage := .waitClear, waitTime := some 10000, pendingMod := none } ∧
            ∀ a q, q.source.ownOf k.id = true → (q ∈ (t.display a).row ↔ q ∈ (s.display a).row)))) ∧
  (∀ (s : State) (f : RxFrame) (r : Received) (c : CloseFields) (k p : Closure) (x : ClosureRecord) (role : Role),
      s.onBus = true → (∀ e ∈ s.nbt, e.gone = false ∧ e.newlyStale = false) → s.closuresSound →
      checkFrame f = some r → r.kind = .close → closeOf r.payload = some c → c.inForm = some k →
      (c.afterCurrent = true → x.stage ≠ .waitLead ∧ x.stage ≠ .setting) →
      s.record k.id = some x → x.stage ≠ .released → newerGen k.gen x.gen = true →
      x.pendingMod = some p → newerGen p.gen k.gen = true → roleOf s.position k.anchor k.leadIn = some role →
      ∃ t y, exec (.closeReceived f) s = .next t ∧ s.sameBut [.stu, .msu, .crl, .spc, .clt, .asa] t ∧ t.record k.id = some y ∧
        (∀ id, id ≠ k.id → t.record id = s.record id) ∧
        ((y.gen = k.gen ∧ y.role = some role ∧ y.pendingMod = some p ∧ (y.stage = .waitLead ∨ y.stage = .setting)) ∨
          (y.gen = p.gen ∧ y.pendingMod = none)))

/-- R103, R121, R122, R96, R123: a RELEASE frame at the held gen or a newer one ends a live record: an AT record withdraws all
its requests and becomes a tombstone for 300,000 ms; a LEAD record waits to clear for 10,000 ms with its requests in
place, unless the station downstream has reported clear, when it becomes a tombstone at once. R103: a RELEASE frame of an
id that the table does not hold makes a bare tombstone, where the station would have had a part in the closure and a slot
is free, and takes the id off the refused list; one with id 0, and one older than the held record, changes nothing in the
table. That the bare tombstone's time to expiry is UNTIL_RELEASED is the model's choice (assumption 31). R103, R122, R102:
one that finds a tombstone makes it stand for 300,000 ms again with the frame's gen, if that is newer, and is ignored
otherwise; one that finds a record in WAIT_CLEAR carries a newer gen into it and has no other effect there; and one of an
unknown id in whose closure the station had no part, or for which no slot is free, leaves the records as they are and
takes the id off the refused list. -/
def Obligations.ReleaseFrameActs : Prop :=
  (∀ (s : State) (f : RxFrame) (r : Received) (c : ReleaseFields) (x : ClosureRecord),
      s.onBus = true → (∀ e ∈ s.nbt, e.gone = false ∧ e.newlyStale = false) → s.closuresSound →
      checkFrame f = some r → r.kind = .release → releaseOf r.payload = some c → c.id ≠ 0 → s.record c.id = some x →
      x.stage ≠ .released → x.stage ≠ .waitClear → (c.gen = x.gen ∨ newerGen c.gen x.gen = true) →
      ∃ t, exec (.releaseReceived f) s = .next t ∧ s.sameBut [.stu, .msu, .crl, .spc, .clt, .asa] t ∧
        (∀ id, id ≠ c.id → t.record id = s.record id) ∧ t.clt.refused = s.clt.refused ∧ t.clt.orphans = s.clt.orphans ∧
        let cleared := s.reports 1 c.id c.gen .released = true ∨ s.lacksId 1 c.id = true
        ((x.role = some .atAnchor ∨ (x.role ≠ none ∧ cleared)) →
          t.record c.id = some
            { x with
              gen := c.gen, stage := .released, tombTime := some 300000, waitTime := none, awaiting := [], legendWaits := false,
              substitution := [], pendingMod := none } ∧
          ∀ a, ∀ q ∈ (t.display a).row, q.source.ownOf c.id = false ∧ q.source.substOf c.id = false) ∧
        (x.role ≠ some .atAnchor → x.role ≠ none → ¬ cleared →
          t.record c.id = some { x with gen := c.gen, stage := .waitClear, waitTime := some 10000, pendingMod := none } ∧
          ∀ a q, q.source.ownOf c.id = true → (q ∈ (t.display a).row ↔ q ∈ (s.display a).row))) ∧
  (∀ (s : State) (f : RxFrame) (r : Received) (c : ReleaseFields),
      s.onBus = true → (∀ e ∈ s.nbt, e.gone = false ∧ e.newlyStale = false) → s.closuresSound →
      checkFrame f = some r → r.kind = .release → releaseOf r.payload = some c →
      (c.id ≠ 0 → s.record c.id = none → s.position ≤ c.anchor → c.anchor ≤ s.position + 3 → s.clt.records.length < 8 →
        ∃ t, exec (.releaseReceived f) s = .next t ∧ s.sameBut [.stu, .msu, .crl, .spc, .clt, .asa] t ∧
          t.clt.refused = s.clt.refused.filter (fun q => q.id ≠ c.id) ∧
          (∀ id, id ≠ c.id → t.record id = s.record id) ∧
          t.record c.id = some
            { id := c.id, gen := c.gen, anchor := c.anchor, firstLane := 1, width := 1, leadIn := 3, leadSpeed := .v80,
              role := none, localLanes := [], fullClosure := false, stage := .released, expiry := none,
              tombTime := some 300000, waitTime := none, awaiting := [], legendWaits := false, substitution := [],
              pendingMod := none }) ∧
      ((c.id = 0 ∨ ∃ x, s.record c.id = some x ∧ c.gen ≠ x.gen ∧ newerGen c.gen x.gen = false) →
        ∃ t, exec (.releaseReceived f) s = .next t ∧ s.sameBut [.stu, .msu, .crl, .spc, .clt, .asa] t ∧ t.clt = s.clt)) ∧
  (∀ (s : State) (f : RxFrame) (r : Received) (c : ReleaseFields),
      s.onBus = true → (∀ e ∈ s.nbt, e.gone = false ∧ e.newlyStale = false) → s.closuresSound →
      checkFrame f = some r → r.kind = .release → releaseOf r.payload = some c → c.id ≠ 0 →
      (∀ x, s.record c.id = some x → x.stage = .released ∨ x.stage = .waitClear →
        ∃ t, exec (.releaseReceived f) s = .next t ∧ s.sameBut [.stu, .msu, .crl, .spc, .clt, .asa] t ∧
          t.clt.refused = s.clt.refused ∧ t.clt.orphans = s.clt.orphans ∧ t.clt.records.length = s.clt.records.length ∧
          (∀ id, id ≠ c.id → t.record id = s.record id) ∧
          t.record c.id = some
            (if newerGen c.gen x.gen = true then
              { x with gen := c.gen, tombTime := if x.stage = .released then some 300000 else x.tombTime }
            else x) ∧
          ∀ a q, q.source.ownOf c.id = true → (q ∈ (t.display a).row ↔ q ∈ (s.display a).row)) ∧
      (s.record c.id = none → c.anchor < s.position ∨ s.position + 3 < c.anchor ∨ 8 ≤ s.clt.records.length →
        ∃ t, exec (.releaseReceived f) s = .next t ∧ s.sameBut [.stu, .msu, .crl, .spc, .clt, .asa] t ∧
          t.clt = { s.clt with refused := s.clt.refused.filter fun q => q.id ≠ c.id }))

/-- R104: an ORPHAN_CLEAR frame for this station takes an orphan lane out of the orphan set and its request off the lane's
CLOSED level; one for another station, or for a lane that is no orphan, has no effect. -/
def Obligations.OrphanClearRemovesOrphan : Prop :=
  ∀ (s : State) (f : RxFrame) (r : Received) (p n : Nat), s.onBus = true →
    (∀ e ∈ s.nbt, e.gone = false ∧ e.newlyStale = false) → checkFrame f = some r → r.kind = .orphanClear →
    orphanClearOf r.payload = some (p, n) →
    (∀ l, p = s.position → laneOf n = some l → l ∈ s.clt.orphans →
      ∃ t, exec (.orphanClearReceived f) s = .next t ∧ s.sameBut [.stu, .msu, .crl, .spc, .clt, .asa] t ∧
        t.clt = { s.clt with orphans := s.clt.orphans.filter fun x => x ≠ l } ∧ t.spc.target = s.spc.target ∧
        (∀ q ∈ (t.display (laneAddr l)).row, q.level = .closed → q.source ≠ .orphan l) ∧
        ∀ a q, q.source ≠ .orphan l → q.source ≠ .enclosed → (q ∈ (t.display a).row ↔ q ∈ (s.display a).row)) ∧
    ((p ≠ s.position ∨ ∀ l, laneOf n = some l → l ∉ s.clt.orphans) →
      exec (.orphanClearReceived f) s = .next (State.drive { s with crl := { s.crl with receiver := .ready, idleBits := 10 } }))

/-! ### Closure rollout and release -/

/-- R97, R124: the expiry of a live record is a release: AT becomes a tombstone, a LEAD role waits to clear; before its time
has run out nothing happens. R123: when the clear wait of a record has run out, it withdraws every request and becomes a
tombstone. That a command which is not due changes nothing is the model's choice (assumption 2). -/
def Obligations.ExpiryAndClearWaitRelease : Prop :=
  (∀ (s : State) (id : Nat) (x : ClosureRecord), s.onBus = true → s.closuresSound → s.record id = some x →
      x.stage ≠ .released → x.stage ≠ .waitClear →
      (x.expiry = some 0 → x.role = some .atAnchor →
        ∃ t y, exec (.closureExpiry id) s = .next t ∧ s.sameBut [.stu, .msu, .spc, .clt, .asa] t ∧ t.record id = some y ∧
          y.stage = .released ∧ y.tombTime = some 300000 ∧ y.gen = x.gen ∧ y.expiry = some 0 ∧
          (∀ j, j ≠ id → t.record j = s.record j) ∧
          ∀ a, ∀ q ∈ (t.display a).row, q.source.ownOf id = false ∧ q.source.substOf id = false) ∧
      (x.expiry = some 0 → x.role ≠ some .atAnchor → x.role ≠ none →
        s.reports 1 id x.gen .released = false → s.lacksId 1 id = false →
        ∃ t, exec (.closureExpiry id) s = .next t ∧ s.sameBut [.stu, .msu, .spc, .clt, .asa] t ∧
          t.record id = some { x with stage := .waitClear, waitTime := some 10000, pendingMod := none } ∧
          (∀ j, j ≠ id → t.record j = s.record j)) ∧
      (x.expiry ≠ some 0 → exec (.closureExpiry id) s = .next s)) ∧
  (∀ (s : State) (id : Nat) (x : ClosureRecord), s.onBus = true → s.closuresSound → s.record id = some x →
      x.stage = .waitClear → x.waitTime = some 0 →
      ∃ t, exec (.clearWaitExpiry id) s = .next t ∧ s.sameBut [.stu, .msu, .spc, .clt, .asa] t ∧
        t.record id = some
          { x with
            stage := .released, tombTime := some 300000, waitTime := none, awaiting := [], legendWaits := false,
            substitution := [], pendingMod := none } ∧
        (∀ a, ∀ q ∈ (t.display a).row, q.source.ownOf id = false ∧ q.source.substOf id = false) ∧
        (∀ j, j ≠ id → t.record j = s.record j))

/-- R96, R110: a tombstone whose time has run out is removed, which is not told to SPC: T and the stage values stand. R102: a
refused id whose lifetime has run out leaves the refused list, and nothing else changes. That a command which is not due
changes nothing is the model's choice (assumption 2). -/
def Obligations.TombstoneAndRefusedExpire : Prop :=
  (∀ (s : State) (id : Nat) (x : ClosureRecord), s.onBus = true → s.record id = some x → x.stage = .released →
      x.tombTime = some 0 →
      ∃ t, exec (.tombstoneExpiry id) s = .next t ∧ s.sameBut [.stu, .msu, .spc, .clt, .asa] t ∧
        t.clt = { s.clt with records := s.clt.records.filter fun r => r.id ≠ id } ∧ t.spc.target = s.spc.target ∧
        t.spc.stages = s.spc.stages) ∧
  (∀ (s : State) (id : Nat), s.onBus = true →
      ((∃ q ∈ s.clt.refused, q.id = id ∧ q.lifetime = 0) →
        exec (.refusedLifetimeExpiry id) s = .next
          { s with clt := { s.clt with refused := s.clt.refused.filter fun q => q.id ≠ id } }) ∧
      ((∀ q ∈ s.clt.refused, q.id = id → 0 < q.lifetime) → exec (.refusedLifetimeExpiry id) s = .next s))

/-- R117, R127, R108, R120: when the lead wait of an AT record in WAIT_LEAD, or with lanes awaiting lead, has run out, the
record goes on to SETTING and places its red crosses whether or not its lead has reported; a stage that proof gives at
once follows. -/
def Obligations.LeadWaitExpirySets : Prop :=
  ∀ (s : State) (id : Nat) (x : ClosureRecord), s.onBus = true → s.closuresSound → s.record id = some x →
    x.role = some .atAnchor → (x.stage = .waitLead ∨ (x.stage = .setting ∧ x.awaiting ≠ [])) → x.waitTime = some 0 → x.pendingMod = none →
    ∃ t y, exec (.leadWaitExpiry id) s = .next t ∧ s.sameBut [.stu, .msu, .spc, .clt, .asa] t ∧ t.record id = some y ∧
      (y.stage = .setting ∨ y.stage = .proven ∨ y.stage = .degraded) ∧
      y = { x with stage := y.stage, waitTime := none, awaiting := [], legendWaits := false } ∧
      (∀ l ∈ x.localLanes, ⟨.closed, .closure id x.anchor, .redX⟩ ∈ (t.display (laneAddr l)).row) ∧
      (x.fullClosure = true → ⟨.roadClosed, .closure id x.anchor, .roadClosed⟩ ∈ (t.display legendAddr).row) ∧
      (∀ j, j ≠ id → t.record j = s.record j)

/-- R119, R120: the stage that proof gives: PROVEN when every counted module is satisfied, the stage that was while any is
pending, else DEGRADED. The classes are those of the modules on which the record holds a request, each at the highest rank
requested on it; the ABSENT legend module is not counted. While the link is HELD every counted module is pending; while it
is OWNED one counts as failed when it is FAILED, ABSENT or READY with the LIMITED mark, as satisfied when READY with a
proven aspect of at least the requested rank. -/
def Obligations.ProofGivesStage : Prop :=
  (∀ (cs : List ProofClass) (st : Stage),
    ((∀ c ∈ cs, c = .satisfied) → stageAfterProof cs st = .proven) ∧
    (.pending ∈ cs → stageAfterProof cs st = st) ∧
    (.pending ∉ cs → (∃ c ∈ cs, c ≠ .satisfied) → stageAfterProof cs st = .degraded)) ∧
  (∀ (s : State) (id : Nat) (c : ProofClass),
    c ∈ s.proofClasses id ↔
      c ≠ .notCounted ∧ ∃ a ∈ s.moduleAddrs, ∃ q ∈ s.requestsOf id a,
        (∀ x ∈ s.requestsOf id a, x.aspect.rank ≤ q.aspect.rank) ∧ c = s.proofClass a q.aspect.rank) ∧
  ∀ (s : State) (a : Addr) (rank : Nat),
    (s.proofClass a rank = .notCounted ↔ a = legendAddr ∧ (s.mod a).state = .absent) ∧
    ((a = legendAddr → (s.mod a).state ≠ .absent) →
      (s.slc.link = .held → s.proofClass a rank = .pending) ∧
      (s.slc.link = .owned →
        (s.proofClass a rank = .failed ↔
          (s.mod a).state = .failed ∨ (s.mod a).state = .absent ∨ ((s.mod a).state = .ready ∧ (s.mod a).limited = true)) ∧
        (s.proofClass a rank = .satisfied ↔
          (s.mod a).state = .ready ∧ (s.mod a).limited = false ∧ ∃ x, (s.mod a).proven = some x ∧ rank ≤ x.rank)))

/-! ### Aspect arbitration -/

/-- R141, R142: after an event the base winner of a lane in use is the aspect of a request of its highest non-empty level,
ENCLOSED left out; at DIVERT it is the request of the lowest anchor, and of the lowest id for one anchor. -/
def Obligations.HighestLevelWins : Prop :=
  ∀ (s : State) (l : Lane), s.rowsSorted → l.val < s.lanes →
    (∃ q ∈ (s.display (laneAddr l)).row, q.source ≠ .enclosed) →
    ∃ w ∈ (s.display (laneAddr l)).row, w.source ≠ .enclosed ∧
      (s.settle.display (laneAddr l)).baseWinner = some w.aspect ∧
      ∀ q ∈ (s.display (laneAddr l)).row, q.source ≠ .enclosed →
        w.level.order ≤ q.level.order ∧
        (w.level = .divert → q.level = .divert →
          w.source.low < q.source.low ∨ (w.source.low = q.source.low ∧ w.source.closureId ≤ q.source.closureId))

/-- R143: the arrow post-pass of an event: an arrow that points off the carriageway or into a lane whose base winner is RED_X
is flipped when the other arrow is free, and otherwise its lane is RED_X and holds an ENCLOSED request; no other lane
holds one. -/
def Obligations.ArrowPostPass : Prop :=
  ∀ s : State, s.lanes ≤ 6 →
    let t := s.settle
    let base := fun (k : Nat) => (laneOf (k + 1)).bind fun l => (t.display (laneAddr l)).baseWinner
    let leftBlocked := fun (l : Lane) => l.val = 0 ∨ base (l.val - 1) = some .redX
    let rightBlocked := fun (l : Lane) => l.val + 1 = s.lanes ∨ base (l.val + 1) = some .redX
    ∀ l : Lane, l.val < s.lanes →
      let w := (t.display (laneAddr l)).winner
      let row := (t.display (laneAddr l)).row
      (∀ a, base l.val = some a → a ≠ .arrowL → a ≠ .arrowR → w = a ∧ ∀ q ∈ row, q.level = .closed → q.source ≠ .enclosed) ∧
      (base l.val = some .arrowL →
        (¬ leftBlocked l → w = .arrowL) ∧ (leftBlocked l → ¬ rightBlocked l → w = .arrowR) ∧
        (leftBlocked l → rightBlocked l → w = .redX ∧ ⟨.closed, .enclosed, .redX⟩ ∈ row) ∧
        (¬ (leftBlocked l ∧ rightBlocked l) → ∀ q ∈ row, q.level = .closed → q.source ≠ .enclosed)) ∧
      (base l.val = some .arrowR →
        (¬ rightBlocked l → w = .arrowR) ∧ (rightBlocked l → ¬ leftBlocked l → w = .arrowL) ∧
        (rightBlocked l → leftBlocked l → w = .redX ∧ ⟨.closed, .enclosed, .redX⟩ ∈ row) ∧
        (¬ (leftBlocked l ∧ rightBlocked l) → ∀ q ∈ row, q.level = .closed → q.source ≠ .enclosed))

/-- R145: the displayable form of a winner by the repertoire of a present module: the winner where it can be shown; for a
speed the greatest lower speed, or BLANK, marked LIMITED; BLANK for END without the mark; OFF for FLASH and BLANK for the
others, marked. An ABSENT module's is its winner. R146 to R148: an event that changes a module's winner, or its
displayable form or that form's LIMITED mark, leaves the ordered aspect of a present module that is not FAILED at the
form, and where that differs from what was ordered, an UNSENT entry with the form waits in the queue; FAILED modules keep
what was ordered, and ABSENT ones take the form at once. -/
def Obligations.EventFormsEntries : Prop :=
  (∀ (m : Module) (w : Aspect),
      (m.state = .absent → m.form w = (w, false)) ∧
      (m.state ≠ .absent →
        (canShow m.repertoire w = true → m.form w = (w, false)) ∧
        (canShow m.repertoire w = false →
          (w = .endSign → m.form w = (.blank, false)) ∧ (w = .flash → m.form w = (.off, true)) ∧
          (w.speed = none → w ≠ .endSign → w ≠ .flash → m.form w = (.blank, true)) ∧
          ∀ v, w.speed = some v → (m.form w).2 = true ∧
            ((∃ u a, u.num < v.num ∧ Limit.aspect u = some a ∧ canShow m.repertoire a = true ∧ (m.form w).1 = a ∧
                ∀ x b, x.num < v.num → Limit.aspect x = some b → canShow m.repertoire b = true → x.num ≤ u.num) ∨
              ((m.form w).1 = .blank ∧ ∀ x b, x.num < v.num → Limit.aspect x = some b → canShow m.repertoire b = false))))) ∧
  (∀ (s : State) (a : Addr), s.queueSound → a ∈ s.moduleAddrs →
      ((s.settle.display a).winner ≠ (s.display a).winner ∨ (s.settle.display a).form ≠ (s.display a).form ∨
        (s.settle.display a).limited ≠ (s.display a).limited) →
      ((s.mod a).state = .absent → (s.settle.display a).ordered = (s.settle.display a).form) ∧
      ((s.mod a).state = .failed → (s.settle.display a).ordered = (s.display a).ordered) ∧
      ((s.mod a).state = .ready ∨ (s.mod a).state = .changing →
        (s.settle.display a).ordered = (s.settle.display a).form ∧
        ((s.display a).ordered ≠ (s.settle.display a).form →
          ∃ g ∈ s.settle.asa.queue, ∃ e ∈ g.entries,
            e.addr = a ∧ e.aspect = (s.settle.display a).form ∧ e.limited = (s.settle.display a).limited ∧ e.sent = false)))

/-! ### The sign link -/

/-- R159, R158, R173, R171, R172: at a transaction boundary with the link OWNED a retry goes first, then the next PROOF of a
proof round; a pending hold is granted when neither is left and no group BEING_SENT has a SET left to send. -/
def Obligations.BoundaryServesRetryRoundHold : Prop :=
  ∀ s : State, s.running = true → s.slc.link = .owned → s.slc.transaction = none →
    (∀ t, (s.slc.retry = some t ∨
          (s.slc.retry = none ∧ ∃ a rest, s.slc.round = some (a :: rest) ∧ t = ⟨a, .proof, .proofRound, false⟩)) →
      ∃ u, exec .transactionStart s = .next u ∧ s.sameBut [.asa, .slc] u ∧
        u.slc = { s.slc with modules := u.slc.modules, transaction := some t, retry := none } ∧
        ∀ a, u.mod a = if a = t.addr then { s.mod a with refresh := some 0 } else s.mod a) ∧
    (s.slc.retry = none → s.slc.round = none → s.slc.holdPending = true →
      (∀ g ∈ s.asa.queue, g.beingSent = true → ∀ e ∈ g.entries, e.sent = true) →
      ∃ u, exec .transactionStart s = .next u ∧ s.sameBut [.stu, .msu, .spc, .clt, .asa, .slc] u ∧
        u.slc = { s.slc with modules := u.slc.modules, link := .held, holdAck := true, holdPending := false } ∧
        (∀ a, u.mod a = { s.mod a with pollDue := false, refreshDue := false }) ∧
        (s.onBus = true → u.spc.posted = u.spc.target ∧ u.spc.signsDown = s.spc.signsDown))

/-- R149, R162, R165, R159: in RUN the SETs of a group go out in ascending order of address: the group BEING_SENT is gone on
with, a pending hold notwithstanding, and an urgent head group is taken whatever its modules' states, unless a hold is
pending; a normal head group with a CHANGING module is not taken. R159, R149, R162, R163, R169, R170, R167: with no retry,
proof round, hold or group BEING_SENT before them, the items of the boundary go in this order: in RUN an urgent head
group, then a failure blank owed, in JOIN and RUN the poll that fell due first (the lower address on a tie), in RUN a
normal head group none of whose modules is CHANGING, by its lowest address, then an IDENT retry due, in JOIN and RUN a
REFRESH due; with none of them due the line stays idle. Which of several modules of one item goes first, where R159 does
not say, is a free choice (assumption 9). -/
def Obligations.BoundarySendsGroup : Prop :=
  (∀ (s : State) (g : Group) (rest : List Group), s.stu.station = .run → s.slc.link = .owned → s.slc.transaction = none →
      s.slc.retry = none → s.slc.round = none → s.queueSound → s.asa.queue = g :: rest →
      (∀ pre e es, g.entries = pre ++ e :: es → (∀ x ∈ pre, x.sent = true) → e.sent = false →
        (∀ x ∈ pre ++ es, x.addr ≠ e.addr) → (g.beingSent = true ∨ (g.kind = .urgent ∧ s.slc.holdPending = false)) →
        ∃ u, exec .transactionStart s = .next u ∧ s.sameBut [.asa, .slc] u ∧
          u.asa = { s.asa with
            queue := { g with beingSent := true, entries := pre ++ { e with sent := true } :: es } :: rest } ∧
          u.slc = { s.slc with
            modules := u.slc.modules
            transaction := some ⟨e.addr, .set e.aspect g.tag, .groupSet e.limited, false⟩ } ∧
          (∀ x ∈ es, e.addr < x.addr) ∧
          ∀ a, u.mod a = if a = e.addr then { s.mod a with refresh := some 0 } else s.mod a) ∧
      (g.kind = .normal → g.beingSent = false → s.slc.holdPending = false →
        (∃ e ∈ g.entries, (s.mod e.addr).state = .changing) →
        ∃ u, exec .transactionStart s = .next u ∧ u.asa.queue = s.asa.queue ∧
          ∀ t, u.slc.transaction = some t → t.command.isSet = false)) ∧
  (∀ s : State, s.onBus = true → s.slc.link = .owned → s.slc.transaction = none → s.slc.retry = none → s.slc.round = none →
      s.slc.holdPending = false → s.queueSound → (∀ g ∈ s.asa.queue, g.beingSent = false) →
      (s.stu.station = .run → ∀ g, s.asa.queue.head? = some g → g.kind = .normal) →
      let inRun := s.stu.station = .run
      let blanks := s.moduleAddrs.filter fun a => inRun ∧ (s.mod a).blankOwed = true
      let polls := s.moduleAddrs.filter fun a => (s.mod a).pollDue = true ∧ (s.mod a).state = .changing
      let heads := s.asa.queue.head?.filter fun g => inRun ∧ ∀ e ∈ g.entries, (s.mod e.addr).state ≠ .changing
      let idents := s.moduleAddrs.filter fun a => inRun ∧ (s.mod a).identDue = true
      let refreshes := s.moduleAddrs.filter fun a => (s.mod a).refreshDue = true
      let starts := fun (u : State) (t : Transaction) (m : Module) =>
        u.slc = { s.slc with modules := s.slc.modules.set t.addr { m with refresh := some 0 }, transaction := some t }
      (blanks ≠ [] → ∃ u, exec .transactionStart s = .next u ∧ s.sameBut [.slc, .choices] u ∧
        ∃ a ∈ blanks, starts u ⟨a, .blank, .failureBlank, false⟩ (s.mod a)) ∧
      (blanks = [] → polls ≠ [] → ∃ u, exec .transactionStart s = .next u ∧ s.sameBut [.slc] u ∧
        ∃ a ∈ polls, starts u ⟨a, .proof, .poll (s.mod a).pollIndex, false⟩
            { s.mod a with nextPoll := some (s.mod a).pollIndex, pollDue := false } ∧
          ∀ b ∈ polls, (s.mod b).overdue < (s.mod a).overdue ∨ ((s.mod b).overdue = (s.mod a).overdue ∧ a ≤ b)) ∧
      (blanks = [] → polls = [] → ∀ g, heads = some g → ∃ u, exec .transactionStart s = .next u ∧ s.sameBut [.asa, .slc] u ∧
        ∃ e ∈ g.entries, starts u ⟨e.addr, .set e.aspect g.tag, .groupSet e.limited, false⟩ (s.mod e.addr) ∧
          (∀ x ∈ g.entries, e.addr ≤ x.addr) ∧
          u.asa = { s.asa with
            queue := { g with beingSent := true, entries := { e with sent := true } :: g.entries.drop 1 } :: s.asa.queue.drop 1 }) ∧
      (blanks = [] → polls = [] → heads = none → idents ≠ [] →
        ∃ u, exec .transactionStart s = .next u ∧ s.sameBut [.slc, .choices] u ∧
          ∃ a ∈ idents, starts u ⟨a, .ident, .identRetry, false⟩ { s.mod a with identDue := false }) ∧
      (blanks = [] → polls = [] → heads = none → idents = [] → refreshes ≠ [] →
        ∃ u, exec .transactionStart s = .next u ∧ s.sameBut [.slc, .choices] u ∧
          ∃ a ∈ refreshes, starts u ⟨a, .refresh, .refresh, false⟩ { s.mod a with refreshDue := false }) ∧
      (blanks = [] → polls = [] → heads = none → idents = [] → refreshes = [] → exec .transactionStart s = .next s))

/-- R157, R158, R169, R150: a missing reply is repeated once at the next boundary; when the retry of a REFRESH, or of the poll
of a CHANGING module, is missing too, the module is FAILED with a fresh IDENT retry timer, its UNSENT entry is removed,
BLANK or OFF is ordered for it and a failure blank is owed; the other modules stay. -/
def Obligations.MissingReplyRetriedThenFails : Prop :=
  ∀ (s : State) (t : Transaction), s.slc.transaction = some t →
    (t.isRetry = false → t.purpose ≠ .failureBlank →
      ∃ u, exec .replyTimeout s = .next u ∧ s.sameBut [.asa, .slc] u ∧
        u.slc = { s.slc with transaction := none, retry := some { t with isRetry := true } } ∧
        ∀ a, u.display a = s.display a) ∧
    (t.isRetry = true →
      ((t.purpose = .refresh ∧ (s.mod t.addr).state ≠ .failed) ∨ ((∃ i, t.purpose = .poll i) ∧ (s.mod t.addr).state = .changing)) →
      ∃ u, exec .replyTimeout s = .next u ∧ s.sameBut [.stu, .msu, .spc, .clt, .asa, .slc] u ∧
        u.mod t.addr =
          { s.mod t.addr with
            state := .failed, proven := none, health := none, sinceSetEnd := none, nextPoll := none, pollDue := false,
            identTimer := some 60000, answered := false, identDue := false, blankOwed := true } ∧
        (∀ a, a ≠ t.addr → u.mod a = s.mod a) ∧ u.slc.transaction = none ∧
        (u.display t.addr).ordered = darkAspect t.addr ∧
        (∀ g ∈ u.asa.queue, ∀ e ∈ g.entries, e.addr = t.addr → e.sent = true) ∧
        ∀ l ∈ s.lanesInUse, laneAddr l = t.addr → s.running = true → u.stu.faultLit = true)

/-- R162, R169, R191: a SET that is accepted makes its module CHANGING with the entry's aspect, tag and mark, the SET's end
now and poll 0 next; a SET that is refused makes it FAILED; one whose reply is missing twice does so too, the sent aspect,
tag and mark being recorded. That a recovery's SET that fails owes a blank, orders BLANK or OFF and starts the retry timer
afresh is the model's reading (assumption 14). -/
def Obligations.SetCompletes : Prop :=
  ∀ (s : State) (a : Addr) (x : Aspect) (tag : Tag) (lim r : Bool),
    s.slc.transaction = some ⟨a, .set x tag, .groupSet lim, r⟩ →
    (∃ u, exec (.setComplete (withChecksum [BitVec.ofNat 8 (a.val + 1), 0x01#8])) s = .next u ∧
      s.sameBut [.stu, .msu, .spc, .clt, .asa, .slc] u ∧ u.slc.transaction = none ∧ (∀ b, b ≠ a → u.mod b = s.mod b) ∧
      u.mod a =
        { s.mod a with
          state := .changing, sent := some x, sentTag := some tag, limited := lim, sinceSetEnd := some 0, nextPoll := some 0,
          pollDue := false, identTimer := none, identDue := false }) ∧
    (∃ u, exec (.setComplete (withChecksum [BitVec.ofNat 8 (a.val + 1), 0x02#8])) s = .next u ∧
      s.sameBut [.stu, .msu, .spc, .clt, .asa, .slc] u ∧ 
      u.slc.transaction = none ∧ (∀ b, b ≠ a → u.mod b = s.mod b) ∧
      (u.mod a).state = .failed ∧ (u.mod a).sent = (s.mod a).sent ∧ (u.mod a).identTimer = some 60000 ∧
      (u.mod a).blankOwed = true ∧ (u.display a).ordered = darkAspect a) ∧
    (r = true → ∃ u, exec .replyTimeout s = .next u ∧ s.sameBut [.stu, .msu, .spc, .clt, .asa, .slc] u ∧ (u.mod a).state = .failed ∧ (u.mod a).sent = some x ∧
      (u.mod a).sentTag = some tag ∧ (u.mod a).limited = lim ∧ (u.mod a).blankOwed = true)

/-- R164, R163, R170, R191: the reply to the poll of a CHANGING module: STEADY with the sent aspect and tag and good health
makes it READY with the aspect proven; another aspect or tag, health FAIL, or TRANSITION on the deadline poll makes it
FAILED; TRANSITION on an earlier poll goes on to the next one. That the retry of a poll keeps its index, past the deadline
too, is the model's choice (assumption 33). R173: the reply of a module that is not FAILED to its PROOF of a proof round
sets its entry: STEADY makes it READY with the lit aspect sent and proven, and LIMITED the mark of its displayable form
where that form is lit; TRANSITION makes it CHANGING with poll 0 to come; health FAIL, a refusal or a reply missing twice
makes it FAILED. A FAILED module stays as it is. The round goes on with its next module; after the last, the Aspect
Arbiter forms the resync group. R152, R148: the resync group has one UNSENT entry, with the displayable form and its mark,
for each module that is READY or CHANGING with a lit aspect other than its displayable form, in place of any other that
waited for it; it is urgent where one of these forms is more restrictive than what is lit. The other modules keep their
entries, and no ordered aspect changes. That a group which merges with the queue full has taken its tag all the same is
the model's choice (assumption 11). So is the order of a group's entries, by address (34). R151, R170, R147: when a FAILED
module, with BLANK or OFF ordered, answers an IDENT retry with the required kind, an entry for its displayable form waits,
even a dark one; it is urgent where the form is restrictive, and the form is then the module's ordered aspect; the Closure
Table's stages, which proof has settled, stay. -/
def Obligations.PollReplySettles : Prop :=
  (∀ (s : State) (a : Addr) (i : Nat) (r : Bool) (x y : Aspect) (tag tag2 : Tag),
      s.slc.transaction = some ⟨a, .proof, .poll i, r⟩ → (s.mod a).state = .changing →
      (s.mod a).sent = some x → (s.mod a).sentTag = some tag →
      let reply := fun (lit : Aspect) (state health : Byte) (g : Tag) =>
        withChecksum [BitVec.ofNat 8 (a.val + 1), 0x01#8, BitVec.ofNat 8 lit.code, state, health, g]
      (∀ h : Byte, h = 0x00#8 ∨ h = 0x01#8 →
        ∃ u, exec (.proofComplete (reply x 0x00#8 h tag)) s = .next u ∧ s.sameBut [.stu, .msu, .spc, .clt, .asa, .slc] u ∧
          u.slc.transaction = none ∧ (∀ b, b ≠ a → u.mod b = s.mod b) ∧
          u.mod a =
            { s.mod a with
              state := .ready, proven := some x, health := some (if h = 0x00#8 then .ok else .degraded),
              sinceSetEnd := none, nextPoll := none, pollDue := false, answered := false }) ∧
      ((y ≠ x ∨ tag2 ≠ tag) →
        ∃ u, exec (.proofComplete (reply y 0x00#8 0x00#8 tag2)) s = .next u ∧ s.sameBut [.stu, .msu, .spc, .clt, .asa, .slc] u ∧ (u.mod a).state = .failed ∧
          (u.mod a).proven = none ∧ (u.mod a).blankOwed = true) ∧
      (∃ u, exec (.proofComplete (reply y 0x00#8 0x02#8 tag2)) s = .next u ∧ s.sameBut [.stu, .msu, .spc, .clt, .asa, .slc] u ∧ (u.mod a).state = .failed) ∧
      (∀ h : Byte, h = 0x00#8 ∨ h = 0x01#8 → i < 5 →
        ∃ u, exec (.proofComplete (reply y 0x01#8 h tag2)) s = .next u ∧ s.sameBut [.stu, .msu, .spc, .clt, .asa, .slc] u ∧
        u.mod a = { s.mod a with nextPoll := some (max ((s.mod a).nextPoll.getD 0) (i + 1)) }) ∧
      (∀ h : Byte, h = 0x00#8 ∨ h = 0x01#8 → 5 ≤ i →
        ∃ u, exec (.proofComplete (reply y 0x01#8 h tag2)) s = .next u ∧ s.sameBut [.stu, .msu, .spc, .clt, .asa, .slc] u ∧ (u.mod a).state = .failed)) ∧
  (∀ (s : State) (a : Addr) (r : Bool) (x : Aspect) (tag : Tag) (rest : List Addr),
      s.slc.transaction = some ⟨a, .proof, .proofRound, r⟩ → s.slc.round = some (a :: rest) →
      let reply := fun (state health : Byte) =>
        withChecksum [BitVec.ofNat 8 (a.val + 1), 0x01#8, BitVec.ofNat 8 x.code, state, health, tag]
      let frame := fun (u : State) => s.sameBut [.stu, .msu, .spc, .clt, .asa, .slc] u ∧ u.slc.transaction = none ∧
        u.slc.round = (if rest = [] then none else some rest) ∧ ∀ b, b ≠ a → u.mod b = s.mod b
      let steady := fun (h : Health) =>
        { s.mod a with
          state := .ready, sent := some x, sentTag := some tag, proven := some x, health := some h, sinceSetEnd := none,
          nextPoll := none, pollDue := false, answered := false
          limited := if (s.display a).form = x then (s.display a).limited else (s.mod a).limited }
      ((s.mod a).state ≠ .failed →
        (∃ u, exec (.proofComplete (reply 0x00#8 0x00#8)) s = .next u ∧ frame u ∧ u.mod a = steady .ok) ∧
        (∃ u, exec (.proofComplete (reply 0x00#8 0x01#8)) s = .next u ∧ frame u ∧ u.mod a = steady .degraded) ∧
        (∀ h : Byte, h = 0x00#8 ∨ h = 0x01#8 → ∃ u, exec (.proofComplete (reply 0x01#8 h)) s = .next u ∧ frame u ∧
          u.mod a =
            { s.mod a with
              state := .changing, sent := some x, sentTag := some tag, sinceSetEnd := some 0, nextPoll := some 0, pollDue := false }) ∧
        (∃ u, exec (.proofComplete (reply 0x00#8 0x02#8)) s = .next u ∧ frame u ∧
          (u.mod a).state = .failed ∧ (u.mod a).blankOwed = true ∧ (u.mod a).identTimer = some 60000) ∧
        (∃ u, exec (.proofComplete (withChecksum [BitVec.ofNat 8 (a.val + 1), 0x02#8])) s = .next u ∧ frame u ∧
          (u.mod a).state = .failed ∧ (u.mod a).blankOwed = true) ∧
        (r = true → ∃ u, exec .replyTimeout s = .next u ∧ frame u ∧
          (u.mod a).state = .failed ∧ (u.mod a).blankOwed = true)) ∧
      ((s.mod a).state = .failed →
        ∃ u, exec (.proofComplete (reply 0x00#8 0x00#8)) s = .next u ∧ frame u ∧ u.mod a = s.mod a) ∧
      (rest = [] → (s.mod a).state ≠ .failed → (s.mod a).answered = false →
        exec (.proofComplete (reply 0x00#8 0x00#8)) s = .next
          (State.afterTxn (State.resync
            { s.setMod a (steady .ok) with
              slc := { (s.setMod a (steady .ok)).slc with transaction := none, round := none } })))) ∧
  (∀ s : State, s.queueSound →
      let unsent := fun (u : State) (a : Addr) => (u.asa.queue.flatMap Group.entries).filter fun e => e.addr = a ∧ e.sent = false
      let differ := s.moduleAddrs.filter fun a => ((s.mod a).state = .ready ∨ (s.mod a).state = .changing) ∧
        (s.mod a).sent ≠ none ∧ (s.mod a).sent ≠ some (s.display a).form
      let urgent := differ.any fun a => ((s.mod a).sent.map Aspect.rank).any fun k => decide (k < (s.display a).form.rank)
      s.sameBut [.asa] s.resync ∧ s.resync.asa.modules = s.asa.modules ∧
      (∀ a ∈ differ, unsent s.resync a = [⟨a, (s.display a).form, (s.display a).limited, false⟩]) ∧
      (∀ a, a ∉ differ → unsent s.resync a = unsent s a) ∧
      s.resync.asa.nextTag = (if differ = [] then s.asa.nextTag else s.asa.nextTag + 1) ∧
      (s.asa.queue.length < 8 → ∀ g ∈ s.resync.asa.queue, (∃ e ∈ g.entries, e.addr ∈ differ ∧ e.sent = false) →
        g = ⟨if urgent then .urgent else .normal, s.asa.nextTag, false,
          differ.map fun a => ⟨a, (s.display a).form, (s.display a).limited, false⟩⟩)) ∧
  (∀ (s : State) (a : Addr) (r : Bool) (k rh rl bu re : Byte), s.onBus = true →
      s.slc.transaction = some ⟨a, .ident, .identRetry, r⟩ → moduleKindOf k = some (kindRequired a) → a ∈ s.moduleAddrs →
      (s.mod a).state = .failed → (s.display a).ordered = darkAspect a → s.queueSound → s.asa.queue.length ≤ 5 →
      s.closuresSound → (∀ x ∈ s.clt.records, x.pendingMod = none ∧
        (x.stage.proofRuns = true → x.awaiting = [] → stageAfterProof (s.proofClasses x.id) x.stage = x.stage)) →
      ∃ u, exec (.identComplete (withChecksum [BitVec.ofNat 8 (a.val + 1), 0x01#8, k, rh, rl, bu, re])) s = .next u ∧
        s.sameBut [.stu, .msu, .spc, .clt, .asa, .slc] u ∧ u.clt.refused = s.clt.refused ∧ u.clt.orphans = s.clt.orphans ∧
        (∀ id, u.record id = s.record id) ∧
        ((u.asa.queue.flatMap Group.entries).filter fun e => e.addr = a ∧ e.sent = false) =
          [⟨a, (u.display a).form, (u.display a).limited, false⟩] ∧
        (u.display a).ordered = (u.display a).form ∧
        ((u.display a).form, (u.display a).limited) = formOf (u.mod a).repertoire (u.display a).winner ∧
        ∀ g ∈ u.asa.queue, (∃ e ∈ g.entries, e.addr = a ∧ e.sent = false) →
          (g.kind = .urgent ↔ 0 < (u.display a).form.rank))

/-- R167, R169, R161: a REFRESH that is accepted changes no module; one that is refused makes a module that was not FAILED so.
A failure blank is done with, whatever came back, the dark aspect being sent. Discovery's BLANK, accepted, makes the
module READY and dark; refused, FAILED with no failure blank owed; and discovery goes on with the next module. -/
def Obligations.RefreshAndBlankComplete : Prop :=
  ∀ (s : State) (a : Addr) (r : Bool) (bytes : List Byte),
    (s.slc.transaction = some ⟨a, .refresh, .refresh, r⟩ →
      (∃ u, exec (.refreshComplete (withChecksum [BitVec.ofNat 8 (a.val + 1), 0x01#8])) s = .next u ∧
        s.sameBut [.stu, .msu, .spc, .clt, .asa, .slc] u ∧ u.slc = { s.slc with transaction := none }) ∧
      ((s.mod a).state ≠ .failed →
        ∃ u, exec (.refreshComplete (withChecksum [BitVec.ofNat 8 (a.val + 1), 0x02#8])) s = .next u ∧ s.sameBut [.stu, .msu, .spc, .clt, .asa, .slc] u ∧ 
          (u.mod a).state = .failed ∧ (u.mod a).blankOwed = true ∧ ∀ b, b ≠ a → u.mod b = s.mod b)) ∧
    (s.slc.transaction = some ⟨a, .blank, .failureBlank, r⟩ →
      ∃ u, exec (.blankComplete bytes) s = .next u ∧ s.sameBut [.stu, .msu, .spc, .clt, .asa, .slc] u ∧
        u.slc.transaction = none ∧ (∀ b, b ≠ a → u.mod b = s.mod b) ∧
        u.mod a = { s.mod a with blankOwed := false, sent := some (darkAspect a), sentTag := none, limited := false }) ∧
    (∀ d b rest, s.slc.transaction = some ⟨a, .blank, .discovery, r⟩ → s.stu.station = .discover →
      s.slc.discovery = some d → d.identing = [] → d.acting = a :: b :: rest →
      (∃ u, exec (.blankComplete (withChecksum [BitVec.ofNat 8 (a.val + 1), 0x01#8])) s = .next u ∧
        s.sameBut [.stu, .asa, .slc] u ∧ u.stu.station = .discover ∧
        u.mod a =
          { s.mod a with
            state := .ready, sent := some (darkAspect a), sentTag := none, proven := some (darkAspect a), health := none,
            limited := false } ∧
        (∀ c, c ≠ a → u.mod c = s.mod c) ∧
        u.slc.discovery = some { d with acting := b :: rest, firstReply := none, lastReply := none, proofDue := true }) ∧
      (∃ u, exec (.blankComplete (withChecksum [BitVec.ofNat 8 (a.val + 1), 0x02#8])) s = .next u ∧
        s.sameBut [.stu, .asa, .slc] u ∧
        (u.mod a).state = .failed ∧ (u.mod a).identTimer = some 60000 ∧ (u.mod a).blankOwed = false ∧
        u.slc.discovery = some { d with acting := b :: rest, firstReply := none, lastReply := none, proofDue := true }))

/-- R160, R170, R191: the reply to discovery's IDENT of an address, when more are to come: of the kind the address requires,
the module is found with its capability in form; of another kind, it stays ABSENT and the kind is recorded, with FAULT for
a lane. The reply to the IDENT retry of a FAILED module, of the required kind, makes its recovery ANSWERED; another kind
sets the timer again. That a found module keeps the state ABSENT until its proof or BLANK is the model's reading
(assumption 6). So is that a reply of the required kind ends the report of a wrong one (35). -/
def Obligations.IdentReplyRecorded : Prop :=
  ∀ (s : State) (a : Addr) (r : Bool) (k k2 rh rl bu re : Byte),
    moduleKindOf k = some (kindRequired a) → moduleKindOf k2 ≠ some (kindRequired a) →
    let reply := fun (kind : Byte) => withChecksum [BitVec.ofNat 8 (a.val + 1), 0x01#8, kind, rh, rl, bu, re]
    let capability := fun (m : Module) =>
      { m with
        kind := some (kindRequired a), repertoire := repertoireInForm (kindRequired a) (BitVec.ofNat 16 (rh.toNat * 256 + rl.toNat))
        blankUnits := some (max 1 (min bu.toNat 50)), rampExponent := some (max 4 (min re.toNat 10)), wrongKind := none }
    (∀ d b rest, s.slc.transaction = some ⟨a, .ident, .discovery, r⟩ → s.stu.station = .discover →
      s.slc.discovery = some d → d.identing = a :: b :: rest →
      (∃ u, exec (.identComplete (reply k)) s = .next u ∧ s.sameBut [.stu, .asa, .slc] u ∧
        u.mod a = { capability (s.mod a) with discovered := .found } ∧ (∀ c, c ≠ a → u.mod c = s.mod c) ∧
        u.slc.discovery = some ⟨b :: rest, [], none, none, true⟩) ∧
      (∃ u, exec (.identComplete (reply k2)) s = .next u ∧ s.sameBut [.stu, .asa, .slc] u ∧
        u.mod a = { s.mod a with discovered := .notFound, wrongKind := some k2, refresh := none } ∧
        u.slc.discovery = some ⟨b :: rest, [], none, none, true⟩ ∧
        (∀ l ∈ s.lanesInUse, laneAddr l = a → (s.mod a).state = .absent → u.stu.faultLit = true))) ∧
    (s.slc.transaction = some ⟨a, .ident, .identRetry, r⟩ →
      (∃ u, exec (.identComplete (reply k)) s = .next u ∧ s.sameBut [.stu, .msu, .spc, .clt, .asa, .slc] u ∧
        u.mod a = { capability (s.mod a) with answered := true, identTimer := none } ∧ ∀ c, c ≠ a → u.mod c = s.mod c) ∧
      (∃ u, exec (.identComplete (reply k2)) s = .next u ∧ s.sameBut [.stu, .msu, .spc, .clt, .asa, .slc] u ∧ 
        u.mod a = { s.mod a with identTimer := some 60000, wrongKind := some k2 } ∧ ∀ c, c ≠ a → u.mod c = s.mod c))

/-- R163, R167, R170: a poll falls due at SET end + transition time + 50 j ms, as the poll whose time has come, the deadline
poll at the latest; a REFRESH when the refresh timer stands at 5,000 ms; an IDENT when the retry timer of a FAILED module
that has not answered has run out. Before that nothing happens. R161: at a keep restart a module that answers TRANSITION
is sent PROOF again after 50 ms, and is FAILED, with no failure blank owed, when no STEADY reply has come within its
transition time + 250 ms of the first reply; discovery then goes on with the next module. The model's choices: the 50 ms
run from the last TRANSITION reply (assumption 30), the limit is taken as a command of its own (25). That a command which
is not due changes nothing is the model's choice (assumption 2). -/
def Obligations.LinkWorkFallsDue : Prop :=
  (∀ (s : State) (n : Nat) (a : Addr), addrOf n = some a → s.running = true → s.slc.link = .owned → s.slc.round = none →
      s.slc.transaction = none → s.slc.retry = none →
      (∀ x j, (s.mod a).state = .changing → (s.mod a).sinceSetEnd = some x → (s.mod a).nextPoll = some j →
        ((s.mod a).transitionTime + 50 * j ≤ x →
          exec (.proofPollDue n) s = .next
            (s.setMod a
              { s.mod a with
                nextPoll := some (max j (min ((x - (s.mod a).transitionTime) / 50) 5)), pollDue := true })) ∧
        (x < (s.mod a).transitionTime + 50 * j → exec (.proofPollDue n) s = .next s)) ∧
      ((s.mod a).state ≠ .absent →
        ((s.mod a).refresh = some 5000 → exec (.refreshDue n) s = .next (s.setMod a { s.mod a with refreshDue := true })) ∧
        ((s.mod a).refresh ≠ some 5000 → exec (.refreshDue n) s = .next s)) ∧
      ((s.mod a).state = .failed → (s.mod a).answered = false →
        ((s.mod a).identTimer = some 0 → exec (.identRetryDue n) s = .next (s.setMod a { s.mod a with identDue := true })) ∧
        ((s.mod a).identTimer ≠ some 0 → exec (.identRetryDue n) s = .next s))) ∧
  (∀ (s : State) (n : Nat) (a b : Addr) (rest : List Addr) (d : Discovery), addrOf n = some a → s.stu.station = .discover →
      s.slc.link = .owned → s.slc.discovery = some d → d.identing = [] → d.acting = a :: b :: rest →
      (∀ x, d.lastReply = some x → 50 ≤ x → s.slc.transaction = none → s.slc.retry = none →
        exec (.discoveryProofResendDue n) s = .next
          { s with slc := { s.slc with discovery := some { d with proofDue := true } } }) ∧
      (∀ x, d.firstReply = some x → (s.mod a).transitionTime + 250 ≤ x →
        ∃ u, exec (.discoveryProofTimeout n) s = .next u ∧ s.sameBut [.stu, .slc] u ∧ u.stu.station = .discover ∧
          u.mod a =
            { s.mod a with
              state := .failed, proven := none, health := none, sinceSetEnd := none, nextPoll := none, pollDue := false,
              identTimer := some 60000, answered := false, identDue := false, blankOwed := false } ∧
          (∀ c, c ≠ a → u.mod c = s.mod c) ∧
          u.slc.discovery = some { d with acting := b :: rest, firstReply := none, lastReply := none, proofDue := true } ∧
          (∀ l ∈ s.lanesInUse, laneAddr l = a → u.stu.faultLit = true)))

/-- R171, R174, R180: HOLDREQ asserted makes a hold pending in DISCOVER, JOIN and RUN with the link OWNED, asserts HOLDACK at
once in STOPPED, where that the link is HELD with it is the model's reading (assumption 17), and waits for the release in
RESET. R171, R173, R174, R185: HOLDREQ dropped withdraws a hold that is still pending; with the link HELD it gives the
link back: in JOIN and RUN a proof round of every module that is not ABSENT begins, or is over at once when every module
is ABSENT, in DISCOVER discovery starts from its first IDENT with the module table at its reset values, but for the FAULT
condition of a module not found, which R185 keeps until it is found (assumption 6), and in STOPPED, where HOLDACK follows
HOLDREQ (R180), the part does nothing more; that the link is OWNED then is the model's reading (assumption 17). -/
def Obligations.HoldreqTakesAndGivesLink : Prop :=
  (∀ s : State, s.slc.holdReq = false →
      (s.running = true → s.slc.link = .owned →
        exec .holdreqAsserted s = .next { s with slc := { s.slc with holdReq := true, holdPending := true } }) ∧
      (s.stu.station = .stopped →
        exec .holdreqAsserted s = .next { s with slc := { s.slc with holdReq := true, link := .held, holdAck := true } }) ∧
      (s.stu.station = .inReset → exec .holdreqAsserted s = .next { s with slc := { s.slc with holdReq := true } })) ∧
  (∀ s : State, s.slc.holdReq = true →
      (s.slc.link = .owned →
        exec .holdreqDropped s = .next { s with slc := { s.slc with holdReq := false, holdPending := false } }) ∧
      (s.slc.link = .held → s.onBus = true → (∃ a ∈ s.moduleAddrs, (s.mod a).state ≠ .absent) →
        ∃ u, exec .holdreqDropped s = .next u ∧ s.sameBut [.stu, .msu, .spc, .clt, .asa, .slc] u ∧
          u.slc =
            { s.slc with
              holdReq := false, holdPending := false, link := .owned, holdAck := false
              round := some (s.moduleAddrs.filter fun a => (s.mod a).state ≠ .absent) }) ∧
      (s.slc.link = .held → s.onBus = true → (∀ a ∈ s.moduleAddrs, (s.mod a).state = .absent) →
        ∃ u, exec .holdreqDropped s = .next u ∧ s.sameBut [.stu, .msu, .spc, .clt, .asa, .slc] u ∧
          u.stu.station = s.stu.station ∧
          u.slc = { s.slc with holdReq := false, holdPending := false, link := .owned, holdAck := false }) ∧
      (s.slc.link = .held → s.stu.station = .stopped →
        exec .holdreqDropped s = .next (State.drive
          { s with slc := { s.slc with holdReq := false, holdPending := false, link := .owned, holdAck := false } })) ∧
      (s.slc.link = .held → s.stu.station = .discover →
        ∃ u d, exec .holdreqDropped s = .next u ∧ s.sameBut [.stu, .slc] u ∧
          u.slc =
            { s.slc with
              holdReq := false, holdPending := false, link := .owned, holdAck := false, discovery := some d
              modules := Per8.build fun a =>
                { Module.reset with discovered := if (s.mod a).discovered = .notFound then .notFound else .unknown } } ∧
          d.identing = s.moduleAddrs ∧ d.acting = [] ∧ d.proofDue = true))

/-! ### Start-up and the maintenance port -/

/-- R181, R182, R20, R38, R49, R70, R154: at a cold restart the BLANK accepted by the last found module ends discovery: the
station enters JOIN for 5 beats, the beat timer starts at (37 position) mod 1000, an ANNOUNCE is owed, window 0 opens on
every lane in use with start seen, ISOLATED_DOWN is set unless TERMINAL is, and T stands. That it does so with a hold
pending too is the model's choice (assumption 36). R161: at a keep restart the reply of a found module to discovery's
PROOF, when more modules are to come: STEADY makes it READY with the lit aspect sent and proven; TRANSITION starts, or
goes on with, the time limit of its first reply and asks again later; health FAIL, a refusal or a reply missing twice
makes it FAILED with no failure blank owed. The lit aspect of the last reply is kept for the orphans (assumption 30).
R181, R93, R154, R132, R36: at a keep restart the STEADY reply of the last found module ends discovery: T is the lowest
speed proven lit on a READY lane module, or NONE; the lanes found lit RED_X are the orphan set, each with its red cross
request, and their window 0 is CLOSED; a module whose winner is still dark has its lit aspect ordered, another READY one
its displayable form, a FAILED one BLANK or OFF. A pending hold does not change this, by the model's choice (assumption
36). -/
def Obligations.DiscoveryEndsInJoin : Prop :=
  (∀ (s : State) (a : Addr) (r : Bool) (d : Discovery), s.slc.transaction = some ⟨a, .blank, .discovery, r⟩ →
      s.stu.station = .discover → s.stu.restart = .cold → s.slc.discovery = some d → d.identing = [] → d.acting = [a] →
      ∃ u, exec (.blankComplete (withChecksum [BitVec.ofNat 8 (a.val + 1), 0x01#8])) s = .next u ∧
        u.stu.station = .join ∧ u.stu.joinTimer = some 5000 ∧ u.stu.straps = s.stu.straps ∧ u.stu.runLit = false ∧
        u.crl = { s.crl with beatTimer := some (s.position * 37 % 1000), announceOwed := true } ∧
        u.lpi = s.lpi ∧ u.nbt = s.nbt ∧ u.mpt = s.mpt ∧
        u.slc.discovery = none ∧ u.slc.transaction = none ∧ (u.mod a).state = .ready ∧ (u.mod a).proven = some (darkAspect a) ∧
        u.msu.windowTimer = some 15000 ∧ u.msu.nextSeq = s.msu.nextSeq + 1 ∧
        (∀ l : Lane, l.val < s.lanes → ∃ w, (u.lane l).window = some w ∧ w.seq = s.msu.nextSeq ∧ w.startSeen = true ∧
          w.count = 0 ∧ w.occMs = 0 ∧ w.creditedTo = s.lpi.ms) ∧
        (s.clt.records = [] → u.spc.target = s.spc.target ∧ (u.spc.isolatedDown = true ↔ s.stu.straps.terminal = false) ∧
          ∀ l : Lane, l.val < s.lanes → ∀ x, ⟨.speed, .spc, x⟩ ∈ (u.display (laneAddr l)).row ↔ s.spc.target.aspect = some x)) ∧
  (∀ (s : State) (a b : Addr) (rest : List Addr) (r : Bool) (x : Aspect) (tag : Tag) (d : Discovery),
      s.slc.transaction = some ⟨a, .proof, .discovery, r⟩ → s.stu.station = .discover →
      s.slc.discovery = some d → d.identing = [] → d.acting = a :: b :: rest →
      let reply := fun (state health : Byte) =>
        withChecksum [BitVec.ofNat 8 (a.val + 1), 0x01#8, BitVec.ofNat 8 x.code, state, health, tag]
      let steady := fun (h : Health) =>
        { s.mod a with
          state := .ready, sent := some x, sentTag := some tag, proven := some x, health := some h, sinceSetEnd := none,
          nextPoll := none, pollDue := false, answered := false, discoveryLit := some x }
      let failed := fun (m : Module) =>
        { m with
          state := .failed, proven := none, health := none, sinceSetEnd := none, nextPoll := none, pollDue := false,
          identTimer := some 60000, answered := false, identDue := false, blankOwed := false }
      let frame := fun (u : State) => s.sameBut [.stu, .asa, .slc] u ∧ u.stu.station = .discover ∧
        u.slc.transaction = none ∧ ∀ c, c ≠ a → u.mod c = s.mod c
      let next : Discovery := { d with acting := b :: rest, firstReply := none, lastReply := none, proofDue := true }
      (∃ u, exec (.proofComplete (reply 0x00#8 0x00#8)) s = .next u ∧ frame u ∧ u.mod a = steady .ok ∧ u.slc.discovery = some next) ∧
      (∃ u, exec (.proofComplete (reply 0x00#8 0x01#8)) s = .next u ∧ frame u ∧ u.mod a = steady .degraded ∧
        u.slc.discovery = some next) ∧
      (∀ h : Byte, h = 0x00#8 ∨ h = 0x01#8 →
        ∃ u, exec (.proofComplete (reply 0x01#8 h)) s = .next u ∧ frame u ∧ u.mod a = { s.mod a with discoveryLit := some x } ∧
        u.slc.discovery = some
          { d with firstReply := some (d.firstReply.getD 0), lastReply := some 0, proofDue := false }) ∧
      (∃ u, exec (.proofComplete (reply 0x00#8 0x02#8)) s = .next u ∧ frame u ∧
        u.mod a = failed { s.mod a with discoveryLit := some x } ∧ u.slc.discovery = some next) ∧
      (∃ u, exec (.proofComplete (withChecksum [BitVec.ofNat 8 (a.val + 1), 0x02#8])) s = .next u ∧ frame u ∧
        u.mod a = failed (s.mod a) ∧ u.slc.discovery = some next) ∧
      (r = true → ∃ u, exec .replyTimeout s = .next u ∧ frame u ∧ u.mod a = failed (s.mod a) ∧ u.slc.discovery = some next)) ∧
  (∀ (s : State) (a : Addr) (r : Bool) (x : Aspect) (tag : Tag) (d : Discovery),
      s.slc.transaction = some ⟨a, .proof, .discovery, r⟩ → s.stu.station = .discover → s.stu.restart = .keep →
      s.slc.link = .owned → s.slc.discovery = some d → d.identing = [] → d.acting = [a] → a ∈ s.moduleAddrs →
      s.asa = Asa.reset → s.clt = Clt.reset → s.spc.ceilings = [] → s.spc.queueFlag = false →
      ∃ u, exec (.proofComplete
          (withChecksum [BitVec.ofNat 8 (a.val + 1), 0x01#8, BitVec.ofNat 8 x.code, 0x00#8, 0x00#8, tag])) s = .next u ∧
        s.sameBut [.stu, .msu, .crl, .spc, .clt, .asa, .slc] u ∧
        u.stu.station = .join ∧ u.stu.joinTimer = some 5000 ∧ u.stu.restart = .keep ∧
        u.crl = { s.crl with beatTimer := some (s.position * 37 % 1000), announceOwed := true } ∧
        u.slc.discovery = none ∧ u.slc.transaction = none ∧ (∀ c, c ≠ a → u.mod c = s.mod c) ∧
        u.mod a =
          { s.mod a with
            state := .ready, sent := some x, sentTag := some tag, proven := some x, health := some .ok, sinceSetEnd := none,
            nextPoll := none, pollDue := false, answered := false, discoveryLit := some x } ∧
        (∀ l ∈ s.lanesInUse, ∀ y v, (u.mod (laneAddr l)).state = .ready → (u.mod (laneAddr l)).proven = some y →
          y.speed = some v → u.spc.target.num ≤ v.num) ∧
        (u.spc.target = .unlimited ∨ ∃ l ∈ s.lanesInUse, ∃ y, (u.mod (laneAddr l)).state = .ready ∧
          (u.mod (laneAddr l)).proven = some y ∧ y.speed = some u.spc.target) ∧
        u.clt = { Clt.reset with orphans := s.lanesInUse.filter fun l => (u.mod (laneAddr l)).discoveryLit = some .redX } ∧
        (∀ l ∈ u.clt.orphans, (⟨.closed, .orphan l, .redX⟩ : Request) ∈ (u.display (laneAddr l)).row ∧
          (u.display (laneAddr l)).winner = .redX) ∧
        (∀ l ∈ s.lanesInUse, ∃ w, (u.lane l).window = some w ∧ w.seq = s.msu.nextSeq ∧ w.startSeen = true ∧
          (w.closedSeen = true ↔ l ∈ u.clt.orphans)) ∧
        ∀ b ∈ s.moduleAddrs,
          ((u.mod b).state = .failed → (u.display b).ordered = darkAspect b) ∧
          ((u.mod b).state = .ready →
            (u.display b).ordered =
              if (u.display b).winner = darkAspect b then (u.mod b).proven.getD (darkAspect b) else (u.display b).form))

/-- R183, R184, R146, R133, R134: at the end of JOIN the station is in RUN with RUN lit; an orphan lane leaves the orphan set
exactly where a live AT record's local lanes hold it; such a record then stands in SETTING or past it, waits for no lead
and has its red crosses placed; and the ordered aspect of every present module that is not FAILED is its displayable form.
That every such record absorbs, two over one orphan lane too, is the model's reading (assumption 25). -/
def Obligations.JoinEndEntersRun : Prop :=
  ∀ s : State, s.stu.station = .join → s.stu.joinTimer = some 0 →
    ∃ u, exec .joinEnd s = .next u ∧ s.sameBut [.stu, .msu, .spc, .clt, .asa] u ∧
      u.stu = { s.stu with station := .run, joinTimer := none, runLit := true, faultLit := u.stu.faultLit } ∧
      (∀ l ∈ u.clt.orphans, l ∈ s.clt.orphans) ∧ (s.clt.records = [] → u.clt = s.clt) ∧
      (∀ l ∈ s.clt.orphans, (∀ x ∈ s.clt.records, x.stage ≠ .released → x.role = some .atAnchor → l ∉ x.localLanes) →
        l ∈ u.clt.orphans) ∧
      (s.closuresSound → s.anchorsNeverClear → ∀ x ∈ s.clt.records, x.stage ≠ .released → x.role = some .atAnchor →
        (∀ l ∈ x.localLanes, l ∉ u.clt.orphans) ∧
        ((∃ l ∈ x.localLanes, l ∈ s.clt.orphans) → x.pendingMod = none →
          (∀ l ∈ x.localLanes, (⟨.closed, .closure x.id x.anchor, .redX⟩ : Request) ∈ (u.display (laneAddr l)).row) ∧
          ∃ y, u.record x.id = some y ∧ (y.stage = .setting ∨ y.stage = .proven ∨ y.stage = .degraded) ∧
            y.waitTime = none ∧ y.awaiting = [])) ∧
      ∀ a ∈ s.moduleAddrs, ((s.mod a).state = .ready ∨ (s.mod a).state = .changing) →
        (u.display a).ordered = (u.display a).form

/-- R186, R187, R188, R192: the maintenance port outside RESET takes a first byte and then its complement: a known code is
answered with a copy of the snapshot's records taken then; a wrong complement or an unknown code is refused; a gap after
the first byte is refused as LENGTH; the end of a reply or a refusal makes the port IDLE again. The phase in which a
refusal byte is sent is the model's (assumption 15). R187, R192: the reply is the snapshot's code, its records and a check
byte with which all its bytes sum to 0; a record is its type, 01h and its fields of four bytes, an EMPTY one its type, 00h
and FFh throughout, and a table's places beyond its rows are EMPTY, so a reply of each snapshot has one length in every
state. The copy carries, field by field as R192 lists them, the station and ceiling records, the loop, lane, ring and
carriageway records, the neighbour records, the closure, refused and orphan records, and the module, group and link
records. The model's choices in it: an entry of age 10 left out (assumption 5), the places and number of some fields (15),
the order of the records, EMPTY ones last (20), the order of a group's entries (34), how long a wrong kind is told (35),
the coding of a negative offset (assumption 10), EMPTY loops and modules above n (28), the clash timer and attempt sent
when idle (29), minutes of 0 (31), and eight ring records (32). R192: the codes of the enumerations, and a request as one
field. -/
def Obligations.PortAnswersRequests : Prop :=
  (∀ (s : State) (c b : Byte), s.stu.station ≠ .inReset →
      (s.mpt.phase = .idle →
        exec (.requestByte b) s = .next { s with mpt := { phase := .receiving, received := [b], request := none } }) ∧
      (s.mpt.phase = .receiving → s.mpt.received = [c] →
        (b ≠ ~~~c → exec (.requestByte b) s = .next
          { s with mpt := { phase := .refusing .check, received := [], request := none } }) ∧
        (b = ~~~c → (∀ k : Snapshot, k.code ≠ c) → exec (.requestByte b) s = .next
          { s with mpt := { phase := .refusing .unknown, received := [], request := none } }) ∧
        (∀ k : Snapshot, b = ~~~c → k.code = c →
          exec (.requestByte b) s = .next
              { s with mpt := { phase := .replying, received := [], request := some (k, s.replyBytes k) } } ∧
            (s.replyBytes k).head? = some c ∧ byteSum (s.replyBytes k) = 0#8) ∧
        exec .requestGapTimeout s = .next
          { s with mpt := { phase := .refusing .length, received := [], request := none } }) ∧
      ((s.mpt.phase = .replying ∨ ∃ r, s.mpt.phase = .refusing r) →
        exec (.requestByte b) s = .next s ∧
        exec .replyEnd s = .next { s with mpt := { phase := .idle, received := [], request := none } })) ∧
  (∀ s : State,
      (∀ (ty : Byte) (count : Nat) (fs : List Nat),
        recordBytes ty count (some fs) = ty :: 0x01#8 :: fs.flatMap (fun n =>
          [BitVec.ofNat 8 (n / 16777216), BitVec.ofNat 8 (n / 65536), BitVec.ofNat 8 (n / 256), BitVec.ofNat 8 n]) ∧
        recordBytes ty count none = ty :: 0x00#8 :: List.replicate (4 * count) 0xFF#8) ∧
      (∀ (ty : Byte) (count places : Nat) (rows : List (List Nat)),
        tableBytes ty count places rows = (List.range places).flatMap fun i => recordBytes ty count rows[i]?) ∧
      (∀ k : Snapshot, s.replyBytes k = withChecksum (k.code :: s.snapshotRecords k) ∧ byteSum (s.replyBytes k) = 0#8) ∧
      (s.replyBytes .station).length = 252 ∧ (s.replyBytes .measurement).length = 2524 ∧
      (s.replyBytes .neighbours).length = 2570 ∧ (s.replyBytes .closures).length = 896 ∧ (s.replyBytes .signs).length = 3520 ∧
      s.snapshotRecords .station =
        recordBytes 0x10#8 36 (some
          ([s.stu.station.code, s.stu.restart.code.toNat, s.stu.straps.position.toNat, s.stu.straps.laneCount.toNat,
            s.stu.straps.spacing.toNat, flagField s.stu.straps.first, flagField s.stu.straps.terminal, s.stu.validity.code,
            flagField s.stu.runLit, flagField s.stu.faultLit, flagField s.faultStopped, flagField s.faultAbsent,
            flagField s.faultFailed, flagField s.faultLoop, flagField s.crl.clash, s.crl.cycle.toNat, s.crl.version.toNat,
            flagField s.crl.clash, s.crl.clashTimer, s.crl.phase.code, s.crl.attempt, s.spc.target.code, s.spc.posted.code,
            flagField s.spc.queueFlag, s.spc.clearStreak, s.spc.raiseStreak, s.spc.held, flagField s.spc.isolatedDown,
            flagField s.spc.signsDown] ++
            match s.spc.stages with
            | none => List.replicate 7 0xFFFFFFFF
            | some v => [v.l1.code, v.d.getD 0xFFFFFFFF, v.lq.code, v.lc.code, v.lop.code, v.c.code, v.c2.code])) ++
        tableBytes 0x11#8 6 4 (s.spc.ceilings.map fun c =>
          [c.id, c.first, c.last, c.limit.code, flagField c.incident, (c.expiry + 59999) / 60000]) ∧
      s.snapshotRecords .measurement =
        (allLanes.flatMap fun l => [Loop.a, .b].flatMap fun p =>
          recordBytes 0x20#8 10 (if l.val < s.lanes then some
            [l.val + 1, (if p = .a then 0 else 1), (if (s.loop l p).level = .clear then 0 else 1), (s.loop l p).fault.code,
              ((s.loop l p).kind.map FaultKind.code).getD 0xFFFFFFFF, (s.loop l p).occupiedMs,
              (s.loop l p).partnerWhileOccupied, (s.loop l p).partnerWhileClear, (s.loop l p).shortOccupancies,
              flagField (s.loop l p).cleanWindow] else none)) ++
        (allLanes.flatMap fun l =>
          recordBytes 0x21#8 23 (if l.val < s.lanes then some
            ([l.val + 1, (s.mode l).code, (s.lane l).pairing.code, (s.lane l).pairedCount] ++
              (match (s.lane l).window with
                | none => List.replicate 12 0xFFFFFFFF
                | some w =>
                  [w.seq.toNat, w.count, w.speedCount, w.speedSum, w.occMs, w.creditedTo.toNat, flagField w.closedSeen,
                    flagField w.startSeen, flagField w.overflowSeen, flagField w.faultSeen, flagField w.recoverySeen,
                    flagField w.singleSeen]) ++
              (match (s.lane l).fast with
                | none => [0, 0xFFFFFFFF, 0xFFFFFFFF]
                | some f => [1, speedField f.speed, f.occ]) ++
              (match (s.lane l).slow with
                | none => [0, 0xFFFFFFFF, 0xFFFFFFFF, 0xFFFFFFFF]
                | some f => [1, speedField f.speed, f.occ, f.flow])) else none) ++
          tableBytes 0x22#8 7 8 (if l.val < s.lanes then (s.lane l).ring.map (fun w =>
            [w.seq.toNat, w.count, w.speedCount, w.speedSum, w.occMs, w.occ, w.mark.code]) else [])) ++
        recordBytes 0x23#8 3 (some (match s.msu.carriage with
          | none => [0, 0xFFFFFFFF, 0xFFFFFFFF]
          | some c => [1, speedField c.speed, c.occ])) ∧
      s.snapshotRecords .neighbours =
        tableBytes 0x30#8 53 12 ((s.nbt.filter fun e => e.age < 10).map fun e =>
          [e.position, (e.cycle.map (·.toNat)).getD 0xFFFFFFFF, e.age, (e.restart.map (·.code.toNat)).getD 0xFFFFFFFF,
            flagField e.joining, flagField e.queue, flagField e.measInvalid, flagField e.isolatedDown, flagField e.signsDown,
            flagField e.clash, flagField e.tableFull, e.target.code, e.posted.code, e.laneCount] ++
          ((List.range 6).flatMap fun i =>
            [(e.lanes[i]?.map (·.aspect.code)).getD 0xFFFFFFFF, (e.lanes[i]?.map (·.status.code)).getD 0xFFFFFFFF]) ++
          [e.version.toNat, flagField e.summary.isNone] ++
          ((List.range 8).flatMap fun i =>
            [((e.summary.getD [])[i]?.map (·.id)).getD 0xFFFFFFFF, ((e.summary.getD [])[i]?.map (·.gen.toNat)).getD 0xFFFFFFFF,
              ((e.summary.getD [])[i]?.map (·.stage.code)).getD 0xFFFFFFFF]) ++
          [if s.position ≤ e.position then e.position - s.position
            else (Config.negativeOffset (s.position - e.position)).toNat]) ∧
      s.snapshotRecords .closures =
        tableBytes 0x40#8 26 8 (s.clt.records.map fun r =>
          [r.id, r.gen.toNat, r.anchor, r.firstLane, r.width, r.leadIn, r.leadSpeed.code,
            (r.role.map Role.code).getD 0xFFFFFFFF, laneMask r.localLanes, flagField r.fullClosure, r.stage.code,
            r.expiry.getD 0xFFFFFFFE, r.tombTime.getD 0xFFFFFFFF, flagField r.pendingMod.isSome,
            flagField (!r.substitution.isEmpty), r.waitTime.getD 0xFFFFFFFF, laneMask r.awaiting,
            laneMask (r.substitution.map Prod.fst)] ++
            match r.pendingMod with
            | none => List.replicate 8 0xFFFFFFFF
            | some c => [c.id, c.gen.toNat, c.anchor, c.firstLane, c.width, c.leadIn, c.leadSpeed.code, c.minutes]) ++
        tableBytes 0x41#8 2 4 (s.clt.refused.map fun r => [r.id, r.lifetime]) ++
        recordBytes 0x42#8 1 (some [laneMask s.clt.orphans]) ∧
      s.snapshotRecords .signs =
        (allAddrs.flatMap fun a => recordBytes 0x50#8 73 (if a ∈ s.moduleAddrs then some
          ((if a = lanternAddr then List.replicate 50 0xFFFFFFFF
            else (if a = legendAddr then [Level.roadClosed, .laneClosed, .incident, .queue, .blank]
                else [Level.closed, .divert, .speed, .endSign, .default]).flatMap fun lv =>
              (List.range 10).map fun i =>
                ((((s.display a).row.filter fun q => q.level = lv).map Request.field)[i]?).getD 0xFFFFFFFF) ++
            [((s.display a).baseWinner.map Aspect.code).getD 0xFFFFFFFF, (s.display a).winner.code, (s.display a).form.code,
              flagField (s.display a).limited, (s.display a).ordered.code,
              (s.mod a).state.code, ((s.mod a).kind.map ModuleKind.code).getD 0xFFFFFFFF,
              ((s.mod a).kind.map fun _ => (s.mod a).repertoire.toNat).getD 0xFFFFFFFF, (s.mod a).blankUnits.getD 0xFFFFFFFF,
              (s.mod a).rampExponent.getD 0xFFFFFFFF, ((s.mod a).wrongKind.map (·.toNat)).getD 0xFFFFFFFF,
              ((s.mod a).kind.map fun _ => (s.mod a).transitionTime).getD 0xFFFFFFFF,
              ((s.mod a).sent.map Aspect.code).getD 0xFFFFFFFF, ((s.mod a).sentTag.map (·.toNat)).getD 0xFFFFFFFF,
              flagField (s.mod a).limited, ((s.mod a).proven.map Aspect.code).getD 0xFFFFFFFF,
              ((s.mod a).health.map Health.code).getD 0xFFFFFFFF, (s.mod a).sinceSetEnd.getD 0xFFFFFFFF,
              (s.mod a).nextPoll.getD 0xFFFFFFFF, (s.mod a).refresh.getD 0xFFFFFFFF, (s.mod a).identTimer.getD 0xFFFFFFFF,
              flagField (s.mod a).answered, flagField (s.mod a).blankOwed]) else none)) ++
        tableBytes 0x51#8 35 8 (s.asa.queue.map fun g =>
          [g.kind.code, g.tag.toNat, flagField g.beingSent] ++ (List.range 8).flatMap fun i =>
            match g.entries[i]? with
            | some e => [e.addr.val + 1, e.aspect.code, flagField e.limited, flagField e.sent]
            | none => List.replicate 4 0xFFFFFFFF) ++
        recordBytes 0x52#8 7 (some
          ([s.slc.link.code, flagField s.slc.holdReq, flagField s.slc.holdAck, flagField s.slc.holdPending] ++
            match s.slc.transaction with
            | none => List.replicate 3 0xFFFFFFFF
            | some t => [t.addr.val + 1, t.command.code, flagField t.isRetry]))) ∧
  ([Snapshot.station, .measurement, .neighbours, .closures, .signs].map Snapshot.code = [1, 2, 3, 4, 5] ∧
    [StationState.inReset, .discover, .join, .run, .stopped].map StationState.code = [0, 1, 2, 3, 4] ∧
    [StrapValidity.valid, .badPosition, .badLaneCount, .both].map StrapValidity.code = [0, 1, 2, 3] ∧
    [AccessPhase.quiet, .waitIdle, .sending, .backoff].map AccessPhase.code = [0, 1, 2, 3] ∧
    [FaultState.sound, .faulty, .recovering].map FaultState.code = [0, 1, 2] ∧
    [FaultKind.stuckOn, .stuckOff, .chatter].map FaultKind.code = [0, 1, 2] ∧
    [LaneMode.paired, .singleA, .singleB, .none].map LaneMode.code = [0, 1, 2, 3] ∧
    [PairState.empty, .aOn, .abOn, .bOn, .resync].map PairState.code = [0, 1, 2, 3, 4] ∧
    [Mark.valid, .countOnly, .recovery, .loopFault, .overflow, .start, .closed].map Mark.code = [0, 1, 2, 3, 4, 5, 6] ∧
    [Role.atAnchor, .lead1, .lead2, .lead3].map Role.code = [0, 1, 2, 3] ∧
    [Stage.waitLead, .setting, .proven, .degraded, .waitClear, .released].map Stage.code = [0, 1, 2, 3, 4, 5] ∧
    [LaneStatus.proven, .changing, .failed, .limited, .atFailed, .orphan].map LaneStatus.code = [0, 1, 2, 3, 4, 5] ∧
    [ModuleState.absent, .ready, .changing, .failed].map ModuleState.code = [0, 1, 2, 3] ∧
    [ModuleKind.lane, .lantern, .legend].map ModuleKind.code = [1, 2, 3] ∧
    [Health.ok, .degraded, .fail].map Health.code = [0, 1, 2] ∧
    [LinkState.owned, .held].map LinkState.code = [0, 1] ∧ [GroupKind.urgent, .normal].map GroupKind.code = [0, 1] ∧
    [RestartKind.cold, .keep].map RestartKind.code = [0, 1] ∧ flagField true = 1 ∧ flagField false = 0 ∧
    speedField .empty = 0xFFFFFFFE ∧ (∀ v, speedField (.kmh v) = v) ∧
    (∀ ls : List Lane, ∀ l : Lane, (laneMask ls).testBit l.val = decide (l ∈ ls)) ∧
    ∀ q : Request, q.field =
      (match q.source with
        | .default => 0
        | .spc => 1
        | .closure _ _ => 2
        | .substitution _ _ => 3
        | .orphan _ => 4
        | .enclosed => 5) * 268435456 + q.aspect.code * 16777216 +
      (match q.source with
        | .closure id anchor => id * 65536 + anchor
        | .substitution id anchor => id * 65536 + anchor
        | .orphan l => 2 ^ l.val
        | _ => 0))

/-! ### What every step keeps -/

/-- R184, R185, R91, R92: every step keeps the RUN and FAULT outputs, the posted limit and SIGNS_DOWN in accord with the
state. R171 to R174: every step keeps the hold safe: HOLDACK is asserted exactly while the link is HELD, which it is only
while HOLDREQ is asserted, and no transaction stands on a link that is HELD. -/
def Obligations.StepKeepsOutputsAndHold : Prop :=
  (∀ s t : State, s.outputsFollow → step s = .next t → t.outputsFollow) ∧
  (∀ s t : State, s.holdSafe → step s = .next t → t.holdSafe)

/-- R4, R29, R102, R149, R46, R21, R22, R28, R40 to R43: every step keeps the bounds of the queues and lists, of the counts of
windows and records, and the shape of medium access. R95, R79, R80, R56: every step keeps at most 8 closure records with
one for an id, at most 4 ceiling records with one for an id, and the neighbour entries within 6 gantries with one for a
position. -/
def Obligations.StepKeepsBoundsAndTables : Prop :=
  (∀ s t : State, step s = .next t →
      (s.bounded → t.bounded) ∧ (s.windowsSound → t.windowsSound) ∧ (s.windowsSound → s.ringsSound → t.ringsSound) ∧
      (s.crl.accessSound → t.crl.accessSound)) ∧
  (∀ s t : State, step s = .next t →
      (s.closuresSound → t.closuresSound) ∧ (s.ceilingsSound → t.ceilingsSound) ∧ (s.neighboursSound → t.neighboursSound))

/-- R85, R181: every step keeps T within the closure ceiling and the operator ceiling, and at 40 while the station's own QUEUE
flag is SET; and discovery, whose end sets T, over from the entry to JOIN on. -/
def Obligations.StepKeepsTargetWithin : Prop := ∀ s t : State, s.targetWithin → step s = .next t → t.targetWithin

/-- R143, R144: every step keeps the lanterns with the legend, and no lane with an arrow that points off the carriageway or
into a lane whose base winner is RED_X. -/
def Obligations.StepKeepsArrowsSafe : Prop :=
  ∀ s t : State, step s = .next t → (s.lanternFollows → t.lanternFollows) ∧ (s.arrowsSafe → t.arrowsSafe)

/-- R140, R121, R181: every step keeps a reason behind every request at a CLOSED level: an AT record in SETTING, PROVEN or
DEGRADED, a substitution, an orphan, or an ENCLOSED lane; and with it no AT record in WAIT_CLEAR, and discovery, whose end
seeds the orphans, over from the entry to JOIN on. -/
def Obligations.StepKeepsCrossesReasoned : Prop := ∀ s t : State, s.crossesSafe → step s = .next t → t.crossesSafe

/-- R148, R149, R162, R139: every step keeps the change queue in order, with at most one UNSENT entry for a module, the
entries of a group in ascending order of address (that they are kept in it is the model's choice, assumption 34) and the
urgent groups ahead of the normal ones that wait, and every request row in the order of its levels. -/
def Obligations.StepKeepsQueueSound : Prop :=
  ∀ s t : State, step s = .next t → (s.queueSound → t.queueSound) ∧ (s.rowsSorted → t.rowsSorted)

/-- The part after reset has every property that a step keeps. -/
def Obligations.ResetIsSafe : Prop :=
  State.reset.outputsFollow ∧ State.reset.holdSafe ∧ State.reset.bounded ∧ State.reset.windowsSound ∧ State.reset.ringsSound ∧
  State.reset.crl.accessSound ∧ State.reset.closuresSound ∧ State.reset.ceilingsSound ∧ State.reset.neighboursSound ∧
  State.reset.targetWithin ∧ State.reset.lanternFollows ∧ State.reset.arrowsSafe ∧ State.reset.crossesSafe ∧
  State.reset.queueSound ∧ State.reset.rowsSorted

end Statements
end

