-- ==== Sys2Proof/Laws/State.lean ====
section
/-! SUPPORT. Small lemmas about the tables of lanes and addresses and about the state's updates: one per field per
update, so that no proof unfolds a record update. -/

namespace Sys2Proof

/-! ### Tables -/

@[simp] theorem Per6.get_build {α : Type} (f : Lane → α) (l : Lane) : (Per6.build f).get l = f l := by
  fin_cases l <;> rfl

@[simp] theorem Per8.get_build {α : Type} (f : Addr → α) (a : Addr) : (Per8.build f).get a = f a := by
  fin_cases a <;> rfl

@[simp] theorem Per6.get_all {α : Type} (x : α) (l : Lane) : (Per6.all x).get l = x := by
  fin_cases l <;> rfl

@[simp] theorem Per8.get_all {α : Type} (x : α) (a : Addr) : (Per8.all x).get a = x := by
  fin_cases a <;> rfl

@[simp] theorem Per6.get_set_same {α : Type} (t : Per6 α) (l : Lane) (x : α) : (t.set l x).get l = x := by
  fin_cases l <;> rfl

@[simp] theorem Per8.get_set_same {α : Type} (t : Per8 α) (a : Addr) (x : α) : (t.set a x).get a = x := by
  fin_cases a <;> rfl

theorem Per6.get_set_other {α : Type} (t : Per6 α) {l k : Lane} (x : α) (h : k ≠ l) : (t.set l x).get k = t.get k := by
  fin_cases l <;> fin_cases k <;> first | rfl | exact absurd rfl h

theorem Per8.get_set_other {α : Type} (t : Per8 α) {a b : Addr} (x : α) (h : b ≠ a) : (t.set a x).get b = t.get b := by
  fin_cases a <;> fin_cases b <;> first | rfl | exact absurd rfl h

/-- Reading a lane's table after a write. -/
theorem Per6.get_set {α : Type} (t : Per6 α) (l k : Lane) (x : α) :
    (t.set l x).get k = if k = l then x else t.get k := by
  by_cases h : k = l
  · subst h; simp
  · simp [h, Per6.get_set_other t x h]

/-- Reading an address table after a write. -/
theorem Per8.get_set {α : Type} (t : Per8 α) (a b : Addr) (x : α) :
    (t.set a x).get b = if b = a then x else t.get b := by
  by_cases h : b = a
  · subst h; simp
  · simp [h, Per8.get_set_other t x h]

@[simp] theorem Pair.get_set_same {α : Type} (t : Pair α) (p : Loop) (x : α) : (t.set p x).get p = x := by
  cases p <;> rfl

theorem Pair.get_set_other {α : Type} (t : Pair α) {p q : Loop} (x : α) (h : q ≠ p) : (t.set p x).get q = t.get q := by
  cases p <;> cases q <;> first | rfl | exact absurd rfl h

theorem Loop.partner_ne (p : Loop) : p.partner ≠ p := by cases p <;> decide

namespace Machine

/-! ### Updates of one lane, loop, display or module -/

section
variable (s : State) (l : Lane) (p : Loop) (a : Addr) (x : LoopState) (m : LaneState) (d : Display) (e : Module)
  (q : List Instr)

@[simp] theorem setLoop_stu : (s.setLoop l p x).stu = s.stu := rfl
@[simp] theorem setLoop_ms : (s.setLoop l p x).lpi.ms = s.lpi.ms := rfl
@[simp] theorem setLoop_queue : (s.setLoop l p x).lpi.queue = s.lpi.queue := rfl
@[simp] theorem setLoop_msu : (s.setLoop l p x).msu = s.msu := rfl
@[simp] theorem setLoop_crl : (s.setLoop l p x).crl = s.crl := rfl
@[simp] theorem setLoop_nbt : (s.setLoop l p x).nbt = s.nbt := rfl
@[simp] theorem setLoop_spc : (s.setLoop l p x).spc = s.spc := rfl
@[simp] theorem setLoop_clt : (s.setLoop l p x).clt = s.clt := rfl
@[simp] theorem setLoop_asa : (s.setLoop l p x).asa = s.asa := rfl
@[simp] theorem setLoop_slc : (s.setLoop l p x).slc = s.slc := rfl
@[simp] theorem setLoop_mpt : (s.setLoop l p x).mpt = s.mpt := rfl
@[simp] theorem setLoop_pending : (s.setLoop l p x).pending = s.pending := rfl
@[simp] theorem setLoop_choices : (s.setLoop l p x).choices = s.choices := rfl

@[simp] theorem setLane_stu : (s.setLane l m).stu = s.stu := rfl
@[simp] theorem setLane_lpi : (s.setLane l m).lpi = s.lpi := rfl
@[simp] theorem setLane_windowTimer : (s.setLane l m).msu.windowTimer = s.msu.windowTimer := rfl
@[simp] theorem setLane_nextSeq : (s.setLane l m).msu.nextSeq = s.msu.nextSeq := rfl
@[simp] theorem setLane_carriage : (s.setLane l m).msu.carriage = s.msu.carriage := rfl
@[simp] theorem setLane_crl : (s.setLane l m).crl = s.crl := rfl
@[simp] theorem setLane_nbt : (s.setLane l m).nbt = s.nbt := rfl
@[simp] theorem setLane_spc : (s.setLane l m).spc = s.spc := rfl
@[simp] theorem setLane_clt : (s.setLane l m).clt = s.clt := rfl
@[simp] theorem setLane_asa : (s.setLane l m).asa = s.asa := rfl
@[simp] theorem setLane_slc : (s.setLane l m).slc = s.slc := rfl
@[simp] theorem setLane_mpt : (s.setLane l m).mpt = s.mpt := rfl
@[simp] theorem setLane_pending : (s.setLane l m).pending = s.pending := rfl
@[simp] theorem setLane_choices : (s.setLane l m).choices = s.choices := rfl

@[simp] theorem setDisplay_stu : (s.setDisplay a d).stu = s.stu := rfl
@[simp] theorem setDisplay_lpi : (s.setDisplay a d).lpi = s.lpi := rfl
@[simp] theorem setDisplay_msu : (s.setDisplay a d).msu = s.msu := rfl
@[simp] theorem setDisplay_crl : (s.setDisplay a d).crl = s.crl := rfl
@[simp] theorem setDisplay_nbt : (s.setDisplay a d).nbt = s.nbt := rfl
@[simp] theorem setDisplay_spc : (s.setDisplay a d).spc = s.spc := rfl
@[simp] theorem setDisplay_clt : (s.setDisplay a d).clt = s.clt := rfl
@[simp] theorem setDisplay_queue : (s.setDisplay a d).asa.queue = s.asa.queue := rfl
@[simp] theorem setDisplay_nextTag : (s.setDisplay a d).asa.nextTag = s.asa.nextTag := rfl
@[simp] theorem setDisplay_slc : (s.setDisplay a d).slc = s.slc := rfl
@[simp] theorem setDisplay_mpt : (s.setDisplay a d).mpt = s.mpt := rfl
@[simp] theorem setDisplay_pending : (s.setDisplay a d).pending = s.pending := rfl
@[simp] theorem setDisplay_choices : (s.setDisplay a d).choices = s.choices := rfl

@[simp] theorem setMod_stu : (s.setMod a e).stu = s.stu := rfl
@[simp] theorem setMod_lpi : (s.setMod a e).lpi = s.lpi := rfl
@[simp] theorem setMod_msu : (s.setMod a e).msu = s.msu := rfl
@[simp] theorem setMod_crl : (s.setMod a e).crl = s.crl := rfl
@[simp] theorem setMod_nbt : (s.setMod a e).nbt = s.nbt := rfl
@[simp] theorem setMod_spc : (s.setMod a e).spc = s.spc := rfl
@[simp] theorem setMod_clt : (s.setMod a e).clt = s.clt := rfl
@[simp] theorem setMod_asa : (s.setMod a e).asa = s.asa := rfl
@[simp] theorem setMod_link : (s.setMod a e).slc.link = s.slc.link := rfl
@[simp] theorem setMod_holdReq : (s.setMod a e).slc.holdReq = s.slc.holdReq := rfl
@[simp] theorem setMod_holdAck : (s.setMod a e).slc.holdAck = s.slc.holdAck := rfl
@[simp] theorem setMod_holdPending : (s.setMod a e).slc.holdPending = s.slc.holdPending := rfl
@[simp] theorem setMod_transaction : (s.setMod a e).slc.transaction = s.slc.transaction := rfl
@[simp] theorem setMod_retry : (s.setMod a e).slc.retry = s.slc.retry := rfl
@[simp] theorem setMod_discovery : (s.setMod a e).slc.discovery = s.slc.discovery := rfl
@[simp] theorem setMod_round : (s.setMod a e).slc.round = s.slc.round := rfl
@[simp] theorem setMod_mpt : (s.setMod a e).mpt = s.mpt := rfl
@[simp] theorem setMod_pending : (s.setMod a e).pending = s.pending := rfl
@[simp] theorem setMod_choices : (s.setMod a e).choices = s.choices := rfl

@[simp] theorem loop_setLoop_same : (s.setLoop l p x).loop l p = x := by simp [State.loop, State.setLoop]
@[simp] theorem lane_setLoop : (s.setLoop l p x).lane = s.lane := rfl
@[simp] theorem lane_setLane_same : (s.setLane l m).lane l = m := by simp [State.lane, State.setLane]
@[simp] theorem loop_setLane : (s.setLane l m).loop = s.loop := rfl
@[simp] theorem display_setDisplay_same : (s.setDisplay a d).display a = d := by simp [State.display, State.setDisplay]
@[simp] theorem mod_setDisplay : (s.setDisplay a d).mod = s.mod := rfl
@[simp] theorem mod_setMod_same : (s.setMod a e).mod a = e := by simp [State.mod, State.setMod]
@[simp] theorem display_setMod : (s.setMod a e).display = s.display := rfl

theorem lane_setLane (k : Lane) : (s.setLane l m).lane k = if k = l then m else s.lane k := Per6.get_set ..

theorem display_setDisplay (b : Addr) : (s.setDisplay a d).display b = if b = a then d else s.display b :=
  Per8.get_set ..

theorem mod_setMod (b : Addr) : (s.setMod a e).mod b = if b = a then e else s.mod b := Per8.get_set ..

theorem loop_setLoop_other {k : Lane} (h : k ≠ l) (r : Loop) : (s.setLoop l p x).loop k r = s.loop k r := by
  simp [State.loop, State.setLoop, Per6.get_set, h]

theorem loop_setLoop_partner {r : Loop} (h : r ≠ p) : (s.setLoop l p x).loop l r = s.loop l r := by
  simp [State.loop, State.setLoop, Pair.get_set_other _ x h]

@[simp] theorem withPending_stu : (s.withPending q).stu = s.stu := rfl
@[simp] theorem withPending_lpi : (s.withPending q).lpi = s.lpi := rfl
@[simp] theorem withPending_msu : (s.withPending q).msu = s.msu := rfl
@[simp] theorem withPending_crl : (s.withPending q).crl = s.crl := rfl
@[simp] theorem withPending_nbt : (s.withPending q).nbt = s.nbt := rfl
@[simp] theorem withPending_spc : (s.withPending q).spc = s.spc := rfl
@[simp] theorem withPending_clt : (s.withPending q).clt = s.clt := rfl
@[simp] theorem withPending_asa : (s.withPending q).asa = s.asa := rfl
@[simp] theorem withPending_slc : (s.withPending q).slc = s.slc := rfl
@[simp] theorem withPending_mpt : (s.withPending q).mpt = s.mpt := rfl
@[simp] theorem withPending_choices : (s.withPending q).choices = s.choices := rfl
@[simp] theorem withPending_pending : (s.withPending q).pending = q := rfl

end

/-! ### The outputs -/

section
variable (s : State)

@[simp] theorem drive_lpi : s.drive.lpi = s.lpi := rfl
@[simp] theorem drive_msu : s.drive.msu = s.msu := rfl
@[simp] theorem drive_crl : s.drive.crl = s.crl := rfl
@[simp] theorem drive_nbt : s.drive.nbt = s.nbt := rfl
@[simp] theorem drive_clt : s.drive.clt = s.clt := rfl
@[simp] theorem drive_asa : s.drive.asa = s.asa := rfl
@[simp] theorem drive_slc : s.drive.slc = s.slc := rfl
@[simp] theorem drive_mpt : s.drive.mpt = s.mpt := rfl
@[simp] theorem drive_pending : s.drive.pending = s.pending := rfl
@[simp] theorem drive_choices : s.drive.choices = s.choices := rfl
@[simp] theorem drive_station : s.drive.stu.station = s.stu.station := rfl
@[simp] theorem drive_straps : s.drive.stu.straps = s.stu.straps := rfl
@[simp] theorem drive_restart : s.drive.stu.restart = s.stu.restart := rfl
@[simp] theorem drive_validity : s.drive.stu.validity = s.stu.validity := rfl
@[simp] theorem drive_joinTimer : s.drive.stu.joinTimer = s.stu.joinTimer := rfl
@[simp] theorem drive_runLit : s.drive.stu.runLit = s.runLevel := rfl
@[simp] theorem drive_faultLit : s.drive.stu.faultLit = s.faultLevel := rfl

@[simp] theorem drive_target : s.drive.spc.target = s.spc.target := by unfold State.drive; dsimp only; split <;> rfl
@[simp] theorem drive_ceilings : s.drive.spc.ceilings = s.spc.ceilings := by unfold State.drive; dsimp only; split <;> rfl
@[simp] theorem drive_raiseStreak : s.drive.spc.raiseStreak = s.spc.raiseStreak := by
  unfold State.drive; dsimp only; split <;> rfl
@[simp] theorem drive_held : s.drive.spc.held = s.spc.held := by unfold State.drive; dsimp only; split <;> rfl
@[simp] theorem drive_queueFlag : s.drive.spc.queueFlag = s.spc.queueFlag := by
  unfold State.drive; dsimp only; split <;> rfl
@[simp] theorem drive_clearStreak : s.drive.spc.clearStreak = s.spc.clearStreak := by
  unfold State.drive; dsimp only; split <;> rfl
@[simp] theorem drive_stages : s.drive.spc.stages = s.spc.stages := by unfold State.drive; dsimp only; split <;> rfl
@[simp] theorem drive_isolatedDown : s.drive.spc.isolatedDown = s.spc.isolatedDown := by
  unfold State.drive; dsimp only; split <;> rfl

/-- What `drive` leaves: RUN and FAULT at the levels the state calls for. -/
@[simp] theorem drive_levels : s.drive.runLevel = s.runLevel ∧ s.drive.faultLevel = s.faultLevel := ⟨rfl, rfl⟩

end

end Machine
end Sys2Proof
end

