-- ==== Sys2Proof/Laws/Frames.lean ====
section
/-! SUPPORT. What the shared operations leave unchanged, block by block: the Aspect Arbiter's events touch ASA and MSU
alone, the Speed Computer's touch SPC as well, the Closure Table's touch CLT as well, a notice of the Neighbour Table no
more than these. -/

namespace Sys2Proof.Machine

/-! ### The frames -/

/-- `t` differs from `s` in ASA and MSU at most. -/
structure SameButAsa (s t : State) : Prop where
  stu : t.stu = s.stu
  lpi : t.lpi = s.lpi
  crl : t.crl = s.crl
  nbt : t.nbt = s.nbt
  spc : t.spc = s.spc
  clt : t.clt = s.clt
  slc : t.slc = s.slc
  mpt : t.mpt = s.mpt
  pending : t.pending = s.pending
  choices : t.choices = s.choices

/-- `t` differs from `s` in SPC, ASA and MSU at most. -/
structure SameButSpeed (s t : State) : Prop where
  stu : t.stu = s.stu
  lpi : t.lpi = s.lpi
  crl : t.crl = s.crl
  nbt : t.nbt = s.nbt
  clt : t.clt = s.clt
  slc : t.slc = s.slc
  mpt : t.mpt = s.mpt
  pending : t.pending = s.pending
  choices : t.choices = s.choices

/-- `t` differs from `s` in CLT, SPC, ASA and MSU at most. -/
structure SameButClosures (s t : State) : Prop where
  stu : t.stu = s.stu
  lpi : t.lpi = s.lpi
  crl : t.crl = s.crl
  nbt : t.nbt = s.nbt
  slc : t.slc = s.slc
  mpt : t.mpt = s.mpt
  pending : t.pending = s.pending
  choices : t.choices = s.choices

theorem SameButAsa.refl (s : State) : SameButAsa s s := ⟨rfl, rfl, rfl, rfl, rfl, rfl, rfl, rfl, rfl, rfl⟩

theorem SameButAsa.trans {s t u : State} (h : SameButAsa s t) (g : SameButAsa t u) : SameButAsa s u :=
  ⟨g.stu.trans h.stu, g.lpi.trans h.lpi, g.crl.trans h.crl, g.nbt.trans h.nbt, g.spc.trans h.spc, g.clt.trans h.clt,
    g.slc.trans h.slc, g.mpt.trans h.mpt, g.pending.trans h.pending, g.choices.trans h.choices⟩

theorem SameButAsa.speed {s t : State} (h : SameButAsa s t) : SameButSpeed s t :=
  ⟨h.stu, h.lpi, h.crl, h.nbt, h.clt, h.slc, h.mpt, h.pending, h.choices⟩

theorem SameButSpeed.refl (s : State) : SameButSpeed s s := (SameButAsa.refl s).speed

theorem SameButSpeed.trans {s t u : State} (h : SameButSpeed s t) (g : SameButSpeed t u) : SameButSpeed s u :=
  ⟨g.stu.trans h.stu, g.lpi.trans h.lpi, g.crl.trans h.crl, g.nbt.trans h.nbt, g.clt.trans h.clt,
    g.slc.trans h.slc, g.mpt.trans h.mpt, g.pending.trans h.pending, g.choices.trans h.choices⟩

theorem SameButSpeed.closures {s t : State} (h : SameButSpeed s t) : SameButClosures s t :=
  ⟨h.stu, h.lpi, h.crl, h.nbt, h.slc, h.mpt, h.pending, h.choices⟩

theorem SameButClosures.refl (s : State) : SameButClosures s s := (SameButSpeed.refl s).closures

theorem SameButClosures.trans {s t u : State} (h : SameButClosures s t) (g : SameButClosures t u) :
    SameButClosures s u :=
  ⟨g.stu.trans h.stu, g.lpi.trans h.lpi, g.crl.trans h.crl, g.nbt.trans h.nbt,
    g.slc.trans h.slc, g.mpt.trans h.mpt, g.pending.trans h.pending, g.choices.trans h.choices⟩

/-- A fold whose steps keep a frame keeps it. -/
theorem foldl_keeps {α β : Type} (R : β → β → Prop) (refl : ∀ s, R s s) (trans : ∀ s t u, R s t → R t u → R s u)
    (f : β → α → β) (step : ∀ s x, R s (f s x)) (xs : List α) (s : β) : R s (xs.foldl f s) := by
  induction xs generalizing s with
  | nil => exact refl s
  | cons x xs ih => exact trans _ _ _ (step s x) (ih _)

theorem foldl_sameButAsa {α : Type} (f : State → α → State) (h : ∀ s x, SameButAsa s (f s x)) (xs : List α) (s : State) :
    SameButAsa s (xs.foldl f s) :=
  foldl_keeps SameButAsa .refl (fun _ _ _ => .trans) f h xs s

/-! ### The Aspect Arbiter -/

section
variable (s : State)

theorem setDisplay_same (a : Addr) (d : Display) : SameButAsa s (s.setDisplay a d) :=
  ⟨rfl, rfl, rfl, rfl, rfl, rfl, rfl, rfl, rfl, rfl⟩

theorem place_same (a : Addr) (r : Request) : SameButAsa s (s.place a r) := setDisplay_same ..

theorem withdraw_same (a : Addr) (lv : Level) (src : Source) : SameButAsa s (s.withdraw a lv src) := setDisplay_same ..

theorem keepRequests_same (f : Addr → Request → Bool) : SameButAsa s (s.keepRequests f) :=
  ⟨rfl, rfl, rfl, rfl, rfl, rfl, rfl, rfl, rfl, rfl⟩

theorem settleTable_same : SameButAsa s s.settleTable := ⟨rfl, rfl, rfl, rfl, rfl, rfl, rfl, rfl, rfl, rfl⟩

theorem placeGroup_same (k : GroupKind) (es : List ChangeEntry) : SameButAsa s (s.placeGroup k es) := by
  unfold State.placeGroup
  split
  · exact .refl s
  · exact ⟨rfl, rfl, rfl, rfl, rfl, rfl, rfl, rfl, rfl, rfl⟩

theorem orderEntries_same (es : List ChangeEntry) : SameButAsa s (s.orderEntries es) :=
  foldl_sameButAsa _ (fun _ _ => setDisplay_same ..) es s

theorem placeEntries_same (es : List ChangeEntry) : SameButAsa s (s.placeEntries es) := by
  have h : ∀ q, SameButAsa s { s with asa := q } := fun _ => ⟨rfl, rfl, rfl, rfl, rfl, rfl, rfl, rfl, rfl, rfl⟩
  exact (((h _).trans (placeGroup_same ..)).trans (placeGroup_same ..)).trans (orderEntries_same ..)

theorem orderAbsent_same (as : List Addr) : SameButAsa s (s.orderAbsent as) :=
  foldl_sameButAsa _ (fun s a => by
    show SameButAsa s (if (s.mod a).state = .absent then _ else s)
    split
    · exact setDisplay_same ..
    · exact .refl s) as s

theorem formEntries_same (as : List Addr) : SameButAsa s (s.formEntries as) :=
  (orderAbsent_same s as).trans (placeEntries_same ..)

/-- R138: an event of the Aspect Arbiter changes ASA and, in MSU, the closed seen flags, and nothing else. -/
theorem settle_same : SameButAsa s s.settle := (settleTable_same s).trans (formEntries_same ..)

theorem resync_same : SameButAsa s s.resync := by
  have h : ∀ q, SameButAsa s { s with asa := q } := fun _ => ⟨rfl, rfl, rfl, rfl, rfl, rfl, rfl, rfl, rfl, rfl⟩
  exact (h _).trans (placeGroup_same ..)

theorem enterRunAsa_same : SameButAsa s s.enterRunAsa := formEntries_same ..

theorem moduleRecoveredAsa_same (a : Addr) : SameButAsa s (s.moduleRecoveredAsa a) := formEntries_same ..

theorem moduleAnsweredAsa_same (a : Addr) : SameButAsa s (s.moduleAnsweredAsa a) :=
  (settleTable_same s).trans (placeEntries_same ..)

theorem takeOrdered_same : SameButAsa s s.takeOrdered := ⟨rfl, rfl, rfl, rfl, rfl, rfl, rfl, rfl, rfl, rfl⟩

theorem placeAll_same (rs : List (Addr × Request)) : SameButAsa s (s.placeAll rs) :=
  foldl_sameButAsa _ (fun _ _ => place_same ..) rs s

theorem withdrawOwn_same (id : Nat) : SameButAsa s (s.withdrawOwn id) := keepRequests_same ..

theorem withdrawSubst_same (id : Nat) : SameButAsa s (s.withdrawSubst id) := keepRequests_same ..

theorem withdrawRecord_same (id : Nat) : SameButAsa s (s.withdrawRecord id) :=
  (withdrawOwn_same s id).trans (withdrawSubst_same ..)

theorem withdrawSurplus_same (r : ClosureRecord) : SameButAsa s (s.withdrawSurplus r) := keepRequests_same ..

/-! ### The Speed Computer -/

theorem setSpc_same (a : Addr) (lv : Level) (x : Option Aspect) : SameButAsa s (s.setSpc a lv x) := by
  cases x
  · exact withdraw_same ..
  · exact place_same ..

theorem setEnd_same : SameButAsa s s.setEnd := foldl_sameButAsa _ (fun _ _ => setSpc_same ..) _ s

theorem setSpeed_same : SameButAsa s s.setSpeed := foldl_sameButAsa _ (fun _ _ => setSpc_same ..) _ s

theorem setLegends_same : SameButAsa s s.setLegends := (setSpc_same ..).trans (setSpc_same ..)

/-- R90: the review of the Speed Computer's requests changes ASA and the closed seen flags alone. -/
theorem reviewRequests_same : SameButAsa s s.reviewRequests :=
  (((setSpeed_same s).trans (setEnd_same _)).trans (setLegends_same _)).trans (settle_same _)

theorem reviewEnd_same : SameButAsa s s.reviewEnd := (setEnd_same s).trans (settle_same _)

/-- R71: an event recomputation changes SPC, ASA and the closed seen flags alone, and leaves SPC as its stages say. -/
theorem recompute_same : SameButSpeed s s.recompute := by
  have h : ∀ q, SameButSpeed s { s with spc := q } := fun _ => ⟨rfl, rfl, rfl, rfl, rfl, rfl, rfl, rfl, rfl⟩
  exact (h _).trans (reviewRequests_same _).speed

/-- R85: SPC after an event recomputation. -/
theorem recompute_spc :
    s.recompute.spc =
      { s.spc.applyEvent s.stageValues.c2 with stages := some s.stageValues, isolatedDown := s.isolatedDownNow } :=
  (reviewRequests_same _).spc

/-- R86: SPC after a window-end recomputation. -/
theorem recomputeWindow_spc :
    s.recomputeWindow.spc =
      { s.evaluateQueue.spc.applyWindow s.evaluateQueue.stageValues.c2 s.evaluateQueue.msu.carriage.isSome with
        stages := some s.evaluateQueue.stageValues, isolatedDown := s.evaluateQueue.isolatedDownNow } :=
  (reviewRequests_same _).spc

theorem recomputeWindow_same : SameButSpeed s s.recomputeWindow := by
  have h : ∀ q, SameButSpeed s { s with spc := q } := fun _ => ⟨rfl, rfl, rfl, rfl, rfl, rfl, rfl, rfl, rfl⟩
  exact (h _).trans (reviewRequests_same _).speed

theorem startSpeed_same : SameButSpeed s s.startSpeed := by
  have h : ∀ q, SameButSpeed s { s with spc := q } := fun _ => ⟨rfl, rfl, rfl, rfl, rfl, rfl, rfl, rfl, rfl⟩
  exact (h _).trans (reviewRequests_same _).speed

theorem noticeSpeed_same (p : Nat) (n : Notices) : SameButSpeed s (s.noticeSpeed p n) := by
  unfold State.noticeSpeed
  split
  · split
    · exact recompute_same s
    · exact .refl s
  · split
    · exact (reviewEnd_same s).speed
    · exact .refl s

theorem takeCeiling_same (f : CeilingFields) : SameButSpeed s (s.takeCeiling f) := by
  unfold State.takeCeiling
  split
  · exact .refl s
  · split
    · exact .refl s
    · have h : ∀ q, SameButSpeed s { s with spc := q } := fun _ => ⟨rfl, rfl, rfl, rfl, rfl, rfl, rfl, rfl, rfl⟩
      exact (h _).trans (recompute_same _)

end

/-! ### The Closure Table -/

/-- The work `v` differs from `w` in CLT, SPC, ASA and MSU at most. -/
def WorkSame (w v : Work) : Prop := SameButClosures w.s v.s

theorem WorkSame.refl (w : Work) : WorkSame w w := SameButClosures.refl _

theorem WorkSame.trans {w v u : Work} (h : WorkSame w v) (g : WorkSame v u) : WorkSame w u := SameButClosures.trans h g

theorem clt_same (s : State) (q : Clt) : SameButClosures s { s with clt := q } :=
  ⟨rfl, rfl, rfl, rfl, rfl, rfl, rfl, rfl⟩

section
variable (w : Work) (r : ClosureRecord) (id : Nat)

theorem put_same : WorkSame w (w.put r) := clt_same ..

theorem telling_same (b : Bool) : WorkSame w (w.telling b) := SameButClosures.refl _

theorem work_same {w : Work} {t : State} (h : SameButAsa w.s t) : WorkSame w { w with s := t } := h.speed.closures

theorem prove_same : WorkSame w (w.prove id) := by
  unfold Work.prove
  split
  · exact .refl w
  · split
    · exact (put_same ..).trans (telling_same ..)
    · exact .refl w

theorem substitute_same : WorkSame w (w.substitute id) := by
  unfold Work.substitute
  split
  · exact .refl w
  · dsimp only
    split
    · exact .refl w
    · exact ((work_same ((withdrawSubst_same ..).trans (placeAll_same ..))).trans (put_same ..)).trans (prove_same ..)

theorem leadGo_same : WorkSame w (w.leadGo r) :=
  (((work_same (placeAll_same ..)).trans (put_same ..)).trans (telling_same ..)).trans (prove_same ..)

theorem checkLead_same : WorkSame w (w.checkLead id) := by
  unfold Work.checkLead
  split
  · exact .refl w
  · split
    · exact leadGo_same ..
    · exact .refl w

theorem bury_same : WorkSame w (w.bury r) :=
  ((work_same (withdrawRecord_same ..)).trans (put_same ..)).trans (telling_same ..)

theorem checkClear_same : WorkSame w (w.checkClear id) := by
  unfold Work.checkClear
  split
  · exact .refl w
  · split
    · exact bury_same ..
    · exact .refl w

theorem release_same : WorkSame w (w.release r) := by
  unfold Work.release
  split
  · exact put_same ..
  · split
    · exact bury_same ..
    · exact ((put_same ..).trans (telling_same ..)).trans (checkClear_same ..)

theorem startRole_same : WorkSame w (w.startRole r) := by
  unfold Work.startRole
  split
  · exact ((put_same ..).trans (telling_same ..)).trans (checkLead_same ..)
  · exact ((((work_same (placeAll_same ..)).trans (put_same ..)).trans (telling_same ..)).trans
      (substitute_same ..)).trans (prove_same ..)

theorem modifyLead_same : WorkSame w (w.modifyLead r) :=
  ((((work_same ((withdrawOwn_same ..).trans (placeAll_same ..))).trans (put_same ..)).trans (telling_same ..)).trans
    (substitute_same ..)).trans (prove_same ..)

theorem modifyAnchor_same : WorkSame w (w.modifyAnchor r) := by
  have h : WorkSame w (({ w with s := w.s.withdrawSurplus r } : Work).telling (r.stage != .setting)) :=
    (work_same (withdrawSurplus_same ..)).trans (telling_same ..)
  unfold Work.modifyAnchor
  split
  · exact (put_same ..).trans (checkLead_same ..)
  · dsimp only
    split
    · exact h.trans (leadGo_same ..)
    · exact h.trans ((put_same ..).trans (checkLead_same ..))

theorem applyMod_same (c : Closure) : WorkSame w (w.applyMod r c) := by
  unfold Work.applyMod
  split
  · exact release_same ..
  · dsimp only
    split
    · split
      · exact (telling_same ..).trans (modifyAnchor_same ..)
      · exact (telling_same ..).trans (modifyLead_same ..)
    · exact (telling_same w (r.leadSpeed != c.leadSpeed)).trans
        ((work_same (withdrawRecord_same _ r.id)).trans (startRole_same ..))

theorem drain_same : WorkSame w (w.drain id) := by
  unfold Work.drain
  split
  · exact .refl w
  · split
    · exact .refl w
    · split
      · exact applyMod_same ..
      · exact .refl w

theorem modify_same (c : Closure) (b : Bool) : WorkSame w (w.modify r c b) := by
  unfold Work.modify
  split
  · exact put_same ..
  · exact (applyMod_same ..).trans (drain_same ..)

theorem install_same (c : Closure) : WorkSame w (w.install c) := by
  unfold Work.install
  split
  · exact .refl w
  · split
    · exact clt_same ..
    · rename_i rs _
      exact WorkSame.trans
        (v := { w with s := ({ w.s with clt := { w.s.clt with records := rs } } : State).unrefuse c.id }) (clt_same ..)
        ((startRole_same ..).trans (drain_same ..))

theorem offer_same (c : Closure) (b : Bool) : WorkSame w (w.offer c b) := by
  unfold Work.offer
  split
  · exact install_same ..
  · split
    · split
      · exact modify_same ..
      · exact install_same ..
    · exact .refl w

theorem releaseHeld_same (g : Gen) : WorkSame w (w.releaseHeld r g) := by
  unfold Work.releaseHeld
  split
  · split
    · exact release_same ..
    · exact .refl w
  · split
    · exact put_same ..
    · exact .refl w

theorem takeRelease_work_same (f : ReleaseFields) : WorkSame w (w.takeRelease f) := by
  unfold Work.takeRelease
  split
  · exact .refl w
  · split
    · exact releaseHeld_same ..
    · dsimp only
      split
      · exact WorkSame.trans (v := { w with s := w.s.unrefuse f.id }) (clt_same ..) (put_same ..)
      · exact clt_same ..

theorem adoptRelease_same (c : Closure) : WorkSame w (w.adoptRelease c) := by
  unfold Work.adoptRelease
  split
  · exact releaseHeld_same ..
  · dsimp only
    split
    · exact clt_same ..
    · split
      · exact WorkSame.trans (v := { w with s := w.s.unrefuse c.id }) (clt_same ..) (put_same ..)
      · exact clt_same ..

theorem adopt_same (e : ClosureEntry) : WorkSame w (w.adopt e) := by
  unfold Work.adopt
  split
  · exact .refl w
  · split
    · exact adoptRelease_same ..
    · exact offer_same ..

theorem adoptAll_same (es : List ClosureEntry) : WorkSame w (w.adoptAll es) :=
  foldl_keeps WorkSame .refl (fun _ _ _ => .trans) _ (fun w e => adopt_same w e) es w

theorem review_same (k : Int) : WorkSame w (if k = -1 then w.checkLead id else if k = 1 then w.checkClear id else w) := by
  split
  · exact checkLead_same ..
  · split
    · exact checkClear_same ..
    · exact .refl _

theorem notice_same (k : Int) : WorkSame w (w.notice k id) := by
  unfold Work.notice
  have h : WorkSame w (if k = 1 ∨ k = 2 then w.substitute id else w) := by
    split
    · exact substitute_same ..
    · exact .refl w
  exact (h.trans (review_same ..)).trans (drain_same ..)

end

/-- R111, R110: an event of the Closure Table changes CLT, SPC, ASA and the closed seen flags alone. -/
theorem closureEvent_same (s : State) (f : Work → Work) (h : ∀ w, WorkSame w (f w)) :
    SameButClosures s (s.closureEvent f) := by
  unfold State.closureEvent
  have hw : SameButClosures s (f ⟨s, false⟩).s := h ⟨s, false⟩
  dsimp only
  split
  · exact (hw.trans (settle_same _).speed.closures).trans (recompute_same _).closures
  · exact hw.trans (settle_same _).speed.closures

theorem noticeClosure_same (s : State) (p : Nat) (n : Notices) (es : List ClosureEntry) :
    SameButClosures s (s.noticeClosure p n es) := by
  unfold State.noticeClosure
  split
  · exact closureEvent_same s _ fun w => (adoptAll_same w es).trans
      (foldl_keeps WorkSame .refl (fun _ _ _ => .trans) _ (fun w id => notice_same w id _) _ _)
  · exact .refl s

theorem reviewProof_same (s : State) : SameButClosures s s.reviewProof :=
  closureEvent_same s _ fun w =>
    foldl_keeps WorkSame .refl (fun _ _ _ => .trans) _ (fun w id => (prove_same w id).trans (drain_same _ id)) _ w

theorem takeClose_same (s : State) (f : CloseFields) : SameButClosures s (s.takeClose f) := by
  unfold State.takeClose
  split
  · exact .refl s
  · exact closureEvent_same s _ fun w => offer_same w _ _

theorem takeRelease_same (s : State) (f : ReleaseFields) : SameButClosures s (s.takeRelease f) :=
  closureEvent_same s _ fun w => takeRelease_work_same w f

theorem dropOrphan_same (s : State) (l : Lane) : SameButClosures s (s.dropOrphan l) :=
  (clt_same s _).trans (withdraw_same ..).speed.closures

theorem takeOrphanClear_same (s : State) (p l : Nat) : SameButClosures s (s.takeOrphanClear p l) := by
  unfold State.takeOrphanClear
  split
  · split
    · split
      · exact closureEvent_same s _ fun w => dropOrphan_same w.s _
      · exact .refl s
    · exact .refl s
  · exact .refl s

theorem absorb_same (os : List Lane) (w : Work) (id : Nat) : WorkSame w (w.absorb os id) := by
  unfold Work.absorb
  split
  · exact .refl w
  · dsimp only
    split
    · have h : ∀ (ls : List Lane), WorkSame w { w with s := ls.foldl State.dropOrphan w.s } := fun ls =>
        foldl_keeps SameButClosures .refl (fun _ _ _ => .trans) _ (fun s l => dropOrphan_same s l) ls w.s
      exact ((h _).trans (leadGo_same ..)).trans (drain_same ..)
    · exact .refl w

/-- R133: the orphan event changes CLT, SPC, ASA and the closed seen flags alone. -/
theorem orphanEvent_same (s : State) : SameButClosures s s.orphanEvent :=
  closureEvent_same s _ fun w =>
    foldl_keeps WorkSame .refl (fun _ _ _ => .trans) _ (fun w id => absorb_same _ w id) _ w

/-- R132: the seeding of the orphan set changes CLT, SPC, ASA and the closed seen flags alone. -/
theorem seedOrphans_same (s : State) : SameButClosures s s.seedOrphans :=
  (clt_same s _).trans (closureEvent_same _ _ fun _ => work_same (placeAll_same ..))

/-- R67, R68: a notice changes CLT, SPC, ASA and the closed seen flags alone. -/
theorem tell_same (s : State) (p : Nat) (n : Notices) (es : List ClosureEntry) : SameButClosures s (s.tell p n es) :=
  (noticeSpeed_same s p n).closures.trans (noticeClosure_same ..)

/-- R62: with nothing left to tell of the last beat's ages, settling them changes nothing. -/
theorem settleAges_calm {s : State} (h : ∀ e ∈ s.nbt, e.gone = false ∧ e.newlyStale = false) : s.settleAges = s := by
  have key : ∀ (es : List Neighbour) (u : State), (∀ e ∈ es, e.gone = false ∧ e.newlyStale = false) →
      es.foldl State.settleAge u = u := by
    intro es
    induction es with
    | nil => exact fun _ _ => rfl
    | cons e rest ih =>
      intro u he
      obtain ⟨hg, hs⟩ := he e (List.mem_cons_self ..)
      simp only [List.foldl_cons, State.settleAge, hg, hs, Bool.false_eq_true, if_false]
      exact ih u fun x hx => he x (List.mem_cons_of_mem _ hx)
  exact key s.nbt s h

/-! ### Discovery's start (R160, R174) -/

/-- R174: a module's entry as discovery starts: its values at reset, all but what tells whether it was found. -/
theorem rediscover_reset (m : Module) : { m.rediscover with discovered := .unknown } = Module.reset := rfl

@[simp] theorem rediscover_state (m : Module) : m.rediscover.state = .absent := rfl

@[simp] theorem rediscover_idem (m : Module) : m.rediscover.rediscover = m.rediscover := by
  unfold Module.rediscover; dsimp only; split <;> simp_all

@[simp] theorem startDiscovery_mod (s : State) (a : Addr) : s.startDiscovery.mod a = (s.mod a).rediscover := by
  simp [State.startDiscovery, State.mod]

/-- R160: the start of discovery changes SLC alone. -/
theorem startDiscovery_same (s : State) : { s.startDiscovery with slc := s.slc } = s := rfl

/-! ### The sign link's times (R163, R172, R177) -/

/-- R177: the time since SET end runs on, whatever stops the refresh timer. -/
@[simp] theorem tick_sinceSetEnd (m : Module) (b : Bool) : (m.tick b).sinceSetEnd = m.sinceSetEnd.map (· + 1) := rfl

@[simp] theorem tick_refresh_stopped (m : Module) : (m.tick true).refresh = m.refresh := rfl

@[simp] theorem tick_state (m : Module) (b : Bool) : (m.tick b).state = m.state := rfl

/-- R172, R173: no poll falls due while the link is HELD, nor for a module whose reply a proof round still awaits. -/
theorem pollFalls_owned {s : State} {a : Addr} (h : s.pollFalls a = true) : s.slc.link = .owned ∧ s.inRound a = false := by
  simp only [State.pollFalls, Bool.and_eq_true, beq_iff_eq, Bool.not_eq_true'] at h
  exact ⟨h.1.1.1.1.2, h.1.1.1.2⟩

end Sys2Proof.Machine
end

