-- ==== Sys2Proof/Tests/Slice0.lean ====
section
/-! SUPPORT. Tests: the manual's worked examples on single operations, one ill-formed command for each check of `WellFormed`,
and for every statement with hypotheses a concrete state and operands that meet them, clause by clause. -/

namespace Sys2Proof.Tests

open Sys2Proof Sys2Proof.Machine

-- One test after the other: evaluated side by side, they take more threads than the check's memory allows.
set_option Elab.async false

/-! ### WellFormed refuses -/

/-- Lanes 1 to 6. -/
theorem test_wf_refuses_lanes :
    (Instr.edgeRecognised 0 .a).wellFormed = false ∧ (Instr.edgeRecognised 7 .b).wellFormed = false ∧
    (Instr.stuckOn 0 .a).wellFormed = false ∧ (Instr.stuckOn 7 .b).wellFormed = false := by decide

/-- Positions 1 to 999. -/
theorem test_wf_refuses_positions :
    (Instr.entryStale 0).wellFormed = false ∧ (Instr.entryStale 1000).wellFormed = false ∧
    (Instr.entryRemoved 0).wellFormed = false ∧ (Instr.entryRemoved 1000).wellFormed = false := by decide

/-- Ceiling ids 1 to 15, closure ids 1 to 255. -/
theorem test_wf_refuses_ids :
    (Instr.ceilingExpiry 0).wellFormed = false ∧ (Instr.ceilingExpiry 16).wellFormed = false ∧
    (Instr.closureExpiry 0).wellFormed = false ∧ (Instr.closureExpiry 256).wellFormed = false ∧
    (Instr.tombstoneExpiry 0).wellFormed = false ∧ (Instr.tombstoneExpiry 256).wellFormed = false ∧
    (Instr.refusedLifetimeExpiry 0).wellFormed = false ∧ (Instr.refusedLifetimeExpiry 256).wellFormed = false ∧
    (Instr.leadWaitExpiry 0).wellFormed = false ∧ (Instr.leadWaitExpiry 256).wellFormed = false ∧
    (Instr.clearWaitExpiry 0).wellFormed = false ∧ (Instr.clearWaitExpiry 256).wellFormed = false := by decide

/-- Addresses 1 to 8. -/
theorem test_wf_refuses_addresses :
    (Instr.proofPollDue 0).wellFormed = false ∧ (Instr.proofPollDue 9).wellFormed = false ∧
    (Instr.refreshDue 0).wellFormed = false ∧ (Instr.refreshDue 9).wellFormed = false ∧
    (Instr.identRetryDue 0).wellFormed = false ∧ (Instr.identRetryDue 9).wellFormed = false ∧
    (Instr.discoveryProofTimeout 0).wellFormed = false ∧ (Instr.discoveryProofTimeout 9).wellFormed = false ∧
    (Instr.discoveryProofResendDue 0).wellFormed = false ∧ (Instr.discoveryProofResendDue 9).wellFormed = false := by decide

/-- Frames that do not open with the sync, or whose kind byte is another row's; a sync as activity that is no frame. -/
theorem test_wf_refuses_frames :
    (Instr.stateReceived ⟨[0x00#8, 0x01#8], false⟩).wellFormed = false ∧
    (Instr.stateReceived ⟨[0xA5#8, 0x02#8], false⟩).wellFormed = false ∧
    (Instr.announceReceived ⟨[0xA5#8, 0x01#8], false⟩).wellFormed = false ∧
    (Instr.closeReceived ⟨[0xA5#8, 0x01#8], false⟩).wellFormed = false ∧
    (Instr.releaseReceived ⟨[0xA5#8, 0x01#8], false⟩).wellFormed = false ∧
    (Instr.ceilingReceived ⟨[0xA5#8, 0x01#8], false⟩).wellFormed = false ∧
    (Instr.orphanClearReceived ⟨[0xA5#8, 0x01#8], false⟩).wellFormed = false ∧
    (Instr.lineActivityNotAFrame 0xA5#8).wellFormed = false := by decide

/-! ### The manual's worked examples -/

/-- R190: the CRC over the bytes 31h to 39h is 29B1h. -/
theorem test_crc : crc16 [0x31#8, 0x32#8, 0x33#8, 0x34#8, 0x35#8, 0x36#8, 0x37#8, 0x38#8, 0x39#8] = 0x29B1#16 := by
  decide +kernel

/-- Example "three vehicles on one lane": the first vehicle has a speed of 70. -/
theorem test_vehicle_speed : vehicleSpeed 30 ⟨some 1000#16, some 1154#16, false⟩ = some 70 := by decide +kernel

/-- The same example: A OCCUPY in B_ON is irregular and counts the second vehicle without speed. -/
theorem test_irregular_edge :
    pairStep 30 .bOn (some ⟨some 2100#16, some 2260#16, false⟩) ⟨1, .a, .occupy, 2510#16⟩ =
      ⟨.abOn, some ⟨none, none, true⟩, some none, false⟩ := by decide +kernel

/-- Example "a collision and a second meeting": 213 waits 11 slots after attempt 1 and 16 after attempt 2. -/
theorem test_backoff_slots : backoffSlots 213 1 = 11 ∧ backoffSlots 213 2 = 16 := by decide

/-- Example "one window of lane 1": the interval open since 44,700 is credited with 300 ms at 45,000. -/
theorem test_window_credit :
    spanLength 44700#16 45000#16 = 300 ∧ spanLength 45000#16 44990#16 = 0 := by decide +kernel

/-- Example "the rings of station 212": lane 1's slow values. -/
theorem test_slow_values :
    slowOf [⟨501, 25, 24, 1800, 2700, 180, .valid⟩, ⟨502, 24, 23, 1725, 2640, 176, .valid⟩,
      ⟨503, 24, 23, 1776, 2760, 184, .valid⟩, ⟨504, 26, 25, 1900, 2820, 188, .valid⟩,
      ⟨505, 24, 23, 1702, 2580, 172, .valid⟩, ⟨506, 25, 24, 1824, 2730, 182, .valid⟩,
      ⟨507, 24, 23, 1748, 2640, 176, .valid⟩, ⟨508, 25, 25, 1775, 2730, 182, .valid⟩] = some ⟨.kmh 75, 180, 5910⟩ := by
  decide +kernel

/-- Example "station 212 lowers its limit": speed 69 and occupancy 180 demand 60. -/
theorem test_local_demand : localDemand .v80 (some ⟨.kmh 69, 180⟩) = .v60 := by decide

/-- R84's table: 40 and 213 at one step give 60, 214 at two steps 80; 80 at two steps gives NONE. -/
theorem test_step_ceiling :
    stepCeiling .v40 1 = .v60 ∧ stepCeiling .v40 2 = .v80 ∧ stepCeiling .v80 2 = .unlimited := by decide

/-- Example "the raise": the third window end in a row, the fourth of 60, raises T to 80. -/
theorem test_raise :
    (({ Spc.reset with target := .v60, raiseStreak := 2, held := 3 } : Spc).applyWindow .v80 true).target = .v80 ∧
    (({ Spc.reset with target := .v60, raiseStreak := 1, held := 3 } : Spc).applyWindow .v80 true).target = .v60 := by decide

/-- Example "a full ceiling table": id 12 takes the place of id 11, which expires soonest. -/
theorem test_full_ceiling_table :
    (installCeiling ⟨12, 205, 215, .v50, false, 1800000⟩
      [⟨3, 1, 999, .v80, false, 2400000⟩, ⟨7, 1, 999, .v60, true, 720000⟩, ⟨9, 1, 999, .v100, false, 36000000⟩,
        ⟨11, 205, 215, .v60, false, 60000⟩]).map Ceiling.id = [3, 7, 9, 12] := by decide

/-- R98's examples: 30 gives 40, 70 gives 60, 100 and NONE give 80. -/
theorem test_lead_speed :
    leadSpeedInForm 30 = .v40 ∧ leadSpeedInForm 70 = .v60 ∧ leadSpeedInForm 100 = .v80 ∧ leadSpeedInForm 0 = .v80 := by decide

/-- R109's examples: on six lanes, lanes 2 to 4; on four lanes, lane 2, lanes 1 and 2, lanes 3 and 4. -/
theorem test_arrows :
    (localLanesOf 6 2 3).map (arrowOn 6 (localLanesOf 6 2 3)) = [.arrowL, .arrowL, .arrowR] ∧
    (localLanesOf 4 2 1).map (arrowOn 4 (localLanesOf 4 2 1)) = [.arrowL] ∧
    (localLanesOf 4 1 2).map (arrowOn 4 (localLanesOf 4 1 2)) = [.arrowR, .arrowR] ∧
    (localLanesOf 4 3 2).map (arrowOn 4 (localLanesOf 4 3 2)) = [.arrowL, .arrowL] := by decide

/-- Example "two closures at station 310": lane 3's ARROW_L is blocked both ways. -/
theorem test_enclosed :
    postPass 3 ⟨.speed50, .redX, .arrowL, .blank, .blank, .blank⟩ 2 = .redX ∧
    enclosedLane 3 ⟨.speed50, .redX, .arrowL, .blank, .blank, .blank⟩ 2 = true ∧
    postPass 3 ⟨.speed50, .speed50, .arrowL, .blank, .blank, .blank⟩ 2 = .arrowL := by decide

/-- R145's example: SPEED_40, SPEED_60, SPEED_80 and both arrows. -/
theorem test_displayable_forms :
    formOf 0x019A#16 .speed50 = (.speed40, true) ∧ formOf 0x019A#16 .speed100 = (.speed80, true) ∧
    formOf 0x019A#16 .redX = (.blank, true) ∧ formOf 0x019A#16 .endSign = (.blank, false) := by decide

/-! ### States and frames for the witnesses -/

/-- Station 212 with three lanes, in a station state. -/
def station (st : StationState) : State :=
  { State.reset with stu := { Stu.reset with station := st, straps := ⟨212#10, 3#3, 1#2, false, false⟩ } }

/-- A state with a transaction in progress. -/
def withTxn (s : State) (t : Transaction) : State := { s with slc := { s.slc with transaction := some t } }

/-- A state of discovery. -/
def withDiscovery (s : State) (d : Discovery) : State := { s with slc := { s.slc with discovery := some d } }

/-- A state with corridor-link values. -/
def withCrl (s : State) (c : Crl) : State := { s with crl := c }

/-- A station whose window timer has run out. -/
def windowDue : State := { station .run with msu := { Msu.reset with windowTimer := some 0 } }

/-- A whole frame of a kind. -/
def frameOf (k : FrameKind) (sender : Nat) (payload : List Byte) : RxFrame := ⟨frameBytes k sender 1#12 payload, false⟩

/-- What `checkFrame` finds in it. -/
def receivedOf (k : FrameKind) (sender : Nat) (payload : List Byte) : Received := ⟨k, sender, 1#12, payload⟩

/-- A short STATE frame of a station with two dark lanes. -/
def shortState (sender : Nat) : StateFrame :=
  { sender, cycle := 1#12, joining := false, queue := false, measInvalid := true, isolatedDown := true, signsDown := false,
    clash := false, tableFull := false, target := .v60, posted := .v60, laneCount := 2, version := 0#8, speedCode := 0xFF#8,
    occCode := 0xFFFF#16, lanes := [⟨.blank, .proven⟩, ⟨.redX, .atFailed⟩], entries := none }

/-- The entry for a position, a given number of beats old. -/
def entryOf (position age : Nat) : Neighbour := { entryFrom none (shortState position) with age, staleDue := age == 4 }

/-- A CLOSE payload: id, gen, anchor, lane 1, width 1, lead-in 3, lead speed 60, 30 minutes, flags. -/
def closeBytes (id gen : Byte) (anchor : Nat) (flags : Byte) : List Byte :=
  [id, gen] ++ bytes16 anchor ++ [0x01#8, 0x01#8, 0x03#8, 60#8] ++ bytes16 30 ++ [flags]

/-- The closure that it carries. -/
def closureOf (id gen : Byte) (anchor : Nat) : Closure :=
  ⟨id.toNat, gen, anchor, 1, 1, 3, .v60, 30⟩

/-- The record of that closure at station 212, at a stage. -/
def recordOf (id gen : Byte) (anchor : Nat) (st : Stage) : ClosureRecord :=
  { freshRecord 3 (closureOf id gen anchor) (roleOf 212 anchor 3) with stage := st }

/-- Station 212 in RUN with closure records. -/
def withRecords (rs : List ClosureRecord) : State := { station .run with clt := { Clt.reset with records := rs } }

/-- A CEILING payload: id, positions 205 to 215, limit, flags 0, 30 minutes. -/
def ceilingBytes (id limit : Byte) : List Byte := [id] ++ bytes16 205 ++ bytes16 215 ++ [limit, 0x00#8] ++ bytes16 30

/-! ### Witnesses: start-up and loops -/

/-- A released station with valid straps at the ends of their ranges, and with each kind of invalid strap. -/
theorem witness_ReleaseEntersDiscoverOrStopped :
    (State.reset.stu.station = .inReset ∧ State.reset.msu = Msu.reset ∧
      State.reset.slc = { Slc.reset with holdReq := State.reset.slc.holdReq } ∧
      (∀ st ∈ [(⟨1#10, 2#3, 0#2, true, false⟩ : Straps), ⟨999#10, 6#3, 3#2, false, true⟩],
        1 ≤ st.position.toNat ∧ st.position.toNat ≤ 999 ∧ 2 ≤ st.laneCount.toNat ∧ st.laneCount.toNat ≤ 6)) ∧
    (∀ st ∈ [(⟨0#10, 2#3, 0#2, true, false⟩ : Straps), ⟨1000#10, 6#3, 3#2, false, true⟩, ⟨999#10, 7#3, 3#2, false, true⟩],
      ¬ (1 ≤ st.position.toNat ∧ st.position.toNat ≤ 999 ∧ 2 ≤ st.laneCount.toNat ∧ st.laneCount.toNat ≤ 6)) := by
  decide +kernel

/-- Station states in which loops run and in which they do not; a loop in use and one that is not. -/
theorem witness_MillisecondRunsLoopsAndTimers :
    (station .stopped).running = false ∧ (station .discover).running = true ∧ (station .run).lanes = 3 ∧
    (2 : Lane).val < (station .run).lanes ∧ (station .run).lanes ≤ (3 : Lane).val := by decide +kernel

/-- A loop of lane 3 whose candidate is five samples old, CLEAR and OCCUPIED. -/
def ripeLoop (lv : LoopLevel) (partner : LoopState) : State :=
  ({ station .run with lpi := { Lpi.reset with ms := 9#16 } }.setLoop 2 .a
    { LoopState.reset with level := lv, candidate := some 5#16 }).setLoop 2 .b partner

theorem witness_EdgeRecognisedJoinsQueue :
    (LoopState.reset.candidate = none ∧ LoopLevel.occupied ≠ LoopState.reset.level) ∧
    (laneOf 3 = some 2 ∧ (ripeLoop .clear LoopState.reset).running = true ∧ (2 : Lane).val < (station .run).lanes ∧
      ((ripeLoop .clear LoopState.reset).loop 2 .a).level = .clear ∧
      ((ripeLoop .clear LoopState.reset).loop 2 .a).candidate = some 5#16 ∧
      4 ≤ ((ripeLoop .clear LoopState.reset).lpi.ms - 5#16).toNat ∧
      (ripeLoop .clear LoopState.reset).lpi.queue.length < 64 ∧
      ((ripeLoop .clear LoopState.reset).loop 2 (Loop.partner .a)).partnerWhileOccupied < 4 ∧
      ((ripeLoop .clear LoopState.reset).loop 2 (Loop.partner .a)).partnerWhileClear < 29) ∧
    (((ripeLoop .occupied LoopState.reset).loop 2 .a).level = .occupied ∧
      ((ripeLoop .occupied LoopState.reset).loop 2 .a).candidate = some 5#16 ∧
      ((ripeLoop .occupied LoopState.reset).loop 2 .a).shortOccupancies < 20) := by decide +kernel

/-- A full queue. -/
def fullQueue (s : State) : State := { s with lpi := { s.lpi with queue := List.replicate 64 ⟨0, .a, .occupy, 0#16⟩ } }

/-- An edge at the head of the queue of a lane in a pairing state. -/
def edgeAtHead (p : PairState) (e : Edge) (iv : Option Interval) (v : Option Vehicle) : State :=
  { (station .run).setLane e.lane
      { LaneState.reset with
        pairing := p, interval := iv, vehicle := v, window := some (openAccum 0#12 0#16 false false .sound .sound) }
    with lpi := { Lpi.reset with queue := [e] } }

theorem witness_LostEdgeForcesResync :
    (laneOf 3 = some 2 ∧ (fullQueue (ripeLoop .occupied LoopState.reset)).running = true ∧
      ((fullQueue (ripeLoop .occupied LoopState.reset)).loop 2 .a).level = .occupied ∧
      ((fullQueue (ripeLoop .occupied LoopState.reset)).loop 2 .a).candidate = some 5#16 ∧
      4 ≤ ((fullQueue (ripeLoop .occupied LoopState.reset)).lpi.ms - 5#16).toNat ∧
      (fullQueue (ripeLoop .occupied LoopState.reset)).lpi.queue.length = 64 ∧
      ((fullQueue (ripeLoop .occupied LoopState.reset)).loop 2 .a).shortOccupancies < 20) ∧
    ((edgeAtHead .resync ⟨2, .a, .clear, 7#16⟩ none none).running = true ∧
      (edgeAtHead .resync ⟨2, .a, .clear, 7#16⟩ none none).lpi.queue = [⟨2, .a, .clear, 7#16⟩] ∧
      ((edgeAtHead .resync ⟨2, .a, .clear, 7#16⟩ none none).lane 2).pairing = .resync) := by decide +kernel

/-- A loop stuck on. -/
def stuckLoop (f : FaultState) : State :=
  (station .run).setLoop 0 .b
    { LoopState.reset with level := .occupied, occupiedMs := 300000, partnerWhileOccupied := 5, fault := f }

theorem witness_FaultConditionMakesLoopFaulty :
    (let s := ripeLoop .clear { LoopState.reset with partnerWhileClear := 29 };
      laneOf 3 = some 2 ∧ s.running = true ∧ (2 : Lane).val < s.lanes ∧ (s.loop 2 .a).level = .clear ∧
      (s.loop 2 .a).candidate = some 5#16 ∧ 4 ≤ (s.lpi.ms - 5#16).toNat ∧ (s.loop 2 (Loop.partner .a)).level = .clear ∧
      (s.loop 2 (Loop.partner .a)).partnerWhileClear = 29 ∧ (s.loop 2 (Loop.partner .a)).fault ≠ .faulty) ∧
    (laneOf 1 = some 0 ∧ (stuckLoop .faulty).running = true ∧ (0 : Lane).val < (stuckLoop .faulty).lanes ∧
      ((stuckLoop .faulty).loop 0 .b).level = .occupied ∧ 300000 ≤ ((stuckLoop .faulty).loop 0 .b).occupiedMs ∧
      5 ≤ ((stuckLoop .faulty).loop 0 .b).partnerWhileOccupied ∧ ((stuckLoop .faulty).loop 0 .b).fault = .faulty ∧
      ((stuckLoop .recovering).loop 0 .b).fault ≠ .faulty) := by decide +kernel

theorem witness_RegularPassageCountsVehicle :
    (let s := edgeAtHead .empty ⟨2, .a, .occupy, 7#16⟩ none none;
      s.running = true ∧ s.lpi.queue = [⟨2, .a, .occupy, 7#16⟩] ∧ s.mode 2 = .paired ∧ (s.lane 2).pairing = .empty ∧
      (s.lane 2).interval = none) ∧
    (let s := edgeAtHead .aOn ⟨2, .b, .occupy, 7#16⟩ none (some ⟨some 3#16, none, false⟩);
      s.mode 2 = .paired ∧ (s.lane 2).pairing = .aOn ∧ (s.lane 2).vehicle = some ⟨some 3#16, none, false⟩) ∧
    (let s := edgeAtHead .abOn ⟨2, .a, .clear, 7#16⟩ (some ⟨.a, 3#16, false⟩) none;
      s.mode 2 = .paired ∧ (s.lane 2).pairing = .abOn ∧ (s.lane 2).interval = some ⟨.a, 3#16, false⟩ ∧
      (s.lane 2).window = some (openAccum 0#12 0#16 false false .sound .sound)) ∧
    (let s := edgeAtHead .bOn ⟨2, .b, .clear, 4004#16⟩ none (some ⟨some 3#16, some 4003#16, false⟩);
      s.running = true ∧ s.lpi.queue = [⟨2, .b, .clear, 4004#16⟩] ∧ (s.lane 2).pairing = .bOn ∧
      (s.lane 2).vehicle = some ⟨some 3#16, some 4003#16, false⟩ ∧ s.mode 2 = .paired ∧
      (openAccum 0#12 0#16 false false .sound .sound).count < 4095 ∧ (s.lane 2).interval = none ∧
      (s.lane 2).pairedCount ≤ 254) := by decide +kernel

/-! ### Witnesses: windows -/

/-- A window end that is due serves all the statements about window ends. -/
theorem witness_windowEnd :
    windowDue.onBus = true ∧ windowDue.msu.windowTimer = some 0 ∧ windowDue.spc.clearStreak ≤ 1 ∧
    (0 : Lane).val < windowDue.lanes ∧
    ((windowDue.setLane 0 { LaneState.reset with window := some (openAccum 0#12 0#16 true false .sound .sound) }).lane
      0).window = some (openAccum 0#12 0#16 true false .sound .sound) := by decide +kernel

/-- FAULTY, RECOVERING and SOUND loops with a clean window, on a lane with 3 regular completions. -/
theorem witness_WindowEndEvaluatesLoops :
    let s := (windowDue.setLoop 0 .a { LoopState.reset with fault := .faulty, kind := some .chatter }).setLane 0
      { LaneState.reset with pairedCount := 3 }
    s.onBus = true ∧ s.msu.windowTimer = some 0 ∧ (s.loop 0 .a).fault = .faulty ∧ (s.loop 0 .a).cleanWindow = true ∧
    3 ≤ (s.lane 0).pairedCount ∧ (s.loop 0 .b).fault = .sound ∧
    ¬ ((s.loop 1 .a).cleanWindow = true ∧ 3 ≤ (s.lane 1).pairedCount) ∧
    ((s.setLoop 1 .a { LoopState.reset with fault := .recovering }).loop 1 .a).fault = .recovering := by decide +kernel

/-- A lane with two queued vehicles' values: every case of the QUEUE table and of the comparison of C2 with T occurs. -/
theorem witness_WindowEndAppliesCandidate :
    let slow : Fast := ⟨.kmh 34, 250⟩
    let still : Fast := ⟨.kmh 44, 100⟩
    let free : Fast := ⟨.kmh 80, 100⟩
    queueFlagAfter [] true 1 = (true, 1) ∧ queueFlagAfter [slow, free] false 0 = (true, 0) ∧
    queueFlagAfter [still, free, free] false 0 = (false, 0) ∧ queueFlagAfter [still, still, free] true 1 = (true, 0) ∧
    queueFlagAfter [free, free, free] true 0 = (true, 1) ∧ queueFlagAfter [free, free, free] true 1 = (false, 0) ∧
    (Spc.reset.applyWindow .v50 true).target = .v50 ∧ (Spc.reset.applyWindow .v60 true).target = .v60 := by decide +kernel

/-! ### Witnesses: the corridor bus -/

/-- A station in RUN at a beat. -/
def atBeat (c : Crl) : State := withCrl (station .run) { c with beatTimer := some 0 }

theorem witness_BeatComposesFrameAndAges :
    (atBeat Crl.reset).onBus = true ∧ (atBeat Crl.reset).crl.beatTimer = some 0 ∧ (atBeat Crl.reset).crl.clash = false ∧
    (atBeat Crl.reset).crl.phase ≠ .sending ∧ (∀ e ∈ (atBeat Crl.reset).nbt, e.gone = false ∧ e.newlyStale = false) ∧
    (atBeat Crl.reset).crl.announceOwed = false ∧ (atBeat { Crl.reset with announceOwed := true }).crl.announceOwed = true := by
  decide +kernel

/-- Station 212 with a neighbour at 213 of an age. -/
def withNeighbour (age : Nat) : State := { station .run with nbt := [entryOf 213 age] }

theorem witness_AgedEntriesTold :
    ((withNeighbour 4).onBus = true ∧ (∃ e ∈ (withNeighbour 4).nbt, e.position = 213 ∧ e.newlyStale = true)) ∧
    ((withNeighbour 10).onBus = true ∧ (∃ e ∈ (withNeighbour 10).nbt, e.position = 213 ∧ 10 ≤ e.age)) ∧
    0 < (withNeighbour 4).offset 213 := by decide +kernel

theorem witness_OwnPositionSetsClash :
    ((station .run).onBus = true ∧ (station .run).crl.phase ≠ .sending ∧
      (∀ e ∈ (station .run).nbt, e.gone = false ∧ e.newlyStale = false) ∧
      checkFrame (frameOf .state 212 (shortState 212).payload) = some (receivedOf .state 212 (shortState 212).payload) ∧
      stateFrameOf (receivedOf .state 212 (shortState 212).payload) ≠ none ∧
      checkFrame (frameOf .announce 212 [0x01#8]) = some (receivedOf .announce 212 [0x01#8]) ∧
      announceOf [0x01#8] ≠ none) ∧
    (withCrl (station .run) { Crl.reset with clash := true, clashTimer := 30 }).crl.clash = true ∧
    30 ≤ (withCrl (station .run) { Crl.reset with clash := true, clashTimer := 30 }).crl.clashTimer ∧
    (withCrl (station .run) { Crl.reset with clash := true, clashTimer := 29 }).crl.clashTimer < 30 := by decide +kernel

/-- A corridor link with an ANNOUNCE pending in a phase at an attempt. -/
def linkIn (ph : AccessPhase) (attempt : Nat) (next : Option TxFrame) : State :=
  withCrl (station .run)
    { Crl.reset with phase := ph, pendingFrame := some ⟨.announce 212 0#12 .cold, true⟩, attempt := attempt, nextFrame := next }

theorem witness_MediumAccessPhases :
    ((linkIn .waitIdle 0 none).onBus = true ∧ (linkIn .waitIdle 0 none).crl.phase = .waitIdle ∧
      (linkIn .waitIdle 0 none).crl.pendingFrame ≠ none ∧ 32 ≤ (linkIn .waitIdle 0 none).crl.idleBits + 32 ∧
      (linkIn .waitIdle 0 none).crl.idleBits + 31 < 32) ∧
    ((linkIn .sending 1 none).crl.phase = .sending ∧
      (linkIn .sending 1 none).crl.pendingFrame = some ⟨.announce 212 0#12 .cold, true⟩ ∧
      (linkIn .sending 1 none).crl.nextFrame = none ∧
      (linkIn .sending 1 (some ⟨.announce 212 1#12 .cold, true⟩)).crl.nextFrame = some ⟨.announce 212 1#12 .cold, true⟩) ∧
    ((linkIn .backoff 5 none).crl.phase = .backoff ∧ (linkIn .backoff 5 none).crl.attempt < 6 ∧
      6 ≤ (linkIn .backoff 6 none).crl.attempt) := by decide +kernel

theorem witness_BadActivityDiscarded :
    (station .run).onBus = true ∧ (station .run).crl.phase ≠ .sending ∧
    (∀ e ∈ (station .run).nbt, e.gone = false ∧ e.newlyStale = false) ∧ (0x00#8 : Byte) ≠ 0xA5#8 ∧
    checkFrame ⟨[0xA5#8, 0x01#8], false⟩ = none ∧
    checkFrame { frameOf .announce 213 [0x00#8] with framingError := true } = none := by decide +kernel

theorem witness_FrameBytesAccepted :
    (List.replicate 200 (0#8 : Byte)).length ≤ 200 ∧ FrameKind.fromStation .state = true ∧ 1 ≤ 999 ∧
    FrameKind.fromStation .close = false ∧ 1000 ≤ 1015 := by decide +kernel

theorem witness_StateFrameRoundTrip :
    2 ≤ (shortState 1).laneCount ∧ (shortState 1).laneCount ≤ 6 ∧ (shortState 1).lanes.length = (shortState 1).laneCount ∧
    (∀ e ∈ (shortState 1).lanes, e.aspect.code ≤ 9) ∧ (shortState 1).entries = none ∧
    (let e := (recordOf 255#8 7#8 212 .setting).entry;
      e.id ≤ 255 ∧ e.anchor ≤ 65535 ∧ e.firstLane ≤ 15 ∧ e.width ≤ 15 ∧ e.leadIn ≤ 255 ∧ e.minutes ≤ 1440 ∧
        e.leadSpeed ≠ .v100 ∧ e.leadSpeed ≠ .unlimited) := by decide +kernel

theorem witness_StateFrameUpdatesEntry :
    ((station .run).onBus = true ∧ (station .run).crl.phase ≠ .sending ∧
      (∀ e ∈ (station .run).nbt, e.gone = false ∧ e.newlyStale = false) ∧
      checkFrame (frameOf .state 218 (shortState 218).payload) = some (receivedOf .state 218 (shortState 218).payload) ∧
      stateFrameOf (receivedOf .state 218 (shortState 218).payload) = some (shortState 218) ∧
      (shortState 218).sender ≠ (station .run).position ∧ (station .run).inRange 218 = true ∧
      (station .run).entryFor 218 = none) ∧
    ((station .run).inRange 219 = false ∧ (withNeighbour 0).entryFor 213 = some (entryOf 213 0) ∧
      (entryOf 213 0).cycle = some 1#12 ∧ newerCycle (shortState 213).cycle 1#12 = false ∧
      newerCycle 2048#12 1#12 = true ∧ newerCycle 2049#12 1#12 = false) := by decide +kernel

theorem witness_AnnounceOwesFullFrame :
    checkFrame (frameOf .announce 206 [0x00#8]) = some (receivedOf .announce 206 [0x00#8]) ∧
    announceOf [0x00#8] = some .cold ∧ (206 : Nat) ≠ (station .run).position ∧ (station .run).inRange 206 = true ∧
    (station .run).inRange 205 = false := by decide +kernel

/-! ### Witnesses: speed setting -/

/-- A recomputation lowers T at a station with a queue two positions on, and has a step partner. -/
theorem witness_EventRecomputationLowers :
    (withNeighbour 0).stu.straps.terminal = false ∧ (withNeighbour 0).stepPartner = some (1, entryOf 213 0) ∧
    (station .run).stepPartner = none ∧ (withNeighbour 0).stageValues.c2 = .v60 ∧
    ({ withNeighbour 0 with spc := { Spc.reset with target := .v80, queueFlag := true } } : State).stageValues.c2.num <
      Limit.num .v80 := by decide +kernel

/-- The link OWNED with a lane proving SPEED_50, and HELD. -/
theorem witness_SpeedRequestsFollowTarget :
    let s := (station .run).setMod 0 { Module.reset with state := .ready, proven := some .speed50 }
    s.onBus = true ∧ s.slc.link = .owned ∧ (0 : Lane) ∈ s.lanesInUse ∧ (s.mod (laneAddr 0)).state = .ready ∧
    (s.mod (laneAddr 0)).proven = some .speed50 ∧ Aspect.speed .speed50 = some .v50 ∧
    ({ s with slc := { s.slc with link := .held } } : State).slc.link = .held := by decide +kernel

/-- A station with ceiling records of some ids. -/
def withCeilings (ids : List Nat) : State :=
  { station .run with spc := { Spc.reset with ceilings := ids.map fun i => ⟨i, 1, 999, .v80, false, i - 1⟩ } }

theorem witness_CeilingFrameAndExpiry :
    ((withCeilings [1, 2, 3, 15]).onBus = true ∧ (withCeilings [1, 2, 3, 15]).crl.phase ≠ .sending ∧
      (withCeilings [1, 2, 3, 15]).ceilingsSound ∧ (withCeilings [1, 2, 3]).ceilingsSound ∧
      (∀ id ∈ [(1#8 : Byte), 15#8, 0#8, 16#8], checkFrame (frameOf .ceiling 1000 (ceilingBytes id 50#8)) =
        some (receivedOf .ceiling 1000 (ceilingBytes id 50#8))) ∧
      ceilingOf (ceilingBytes 15#8 50#8) = some ⟨15, 205, 215, 50, false, 30⟩ ∧
      ceilingOf (ceilingBytes 0#8 50#8) = some ⟨0, 205, 215, 50, false, 30⟩ ∧
      ceilingOf (ceilingBytes 4#8 0#8) = some ⟨4, 205, 215, 0, false, 30⟩) ∧
    (∃ c ∈ (withCeilings [1, 2]).spc.ceilings, c.id = 1 ∧ c.expiry = 0) ∧
    (∀ c ∈ (withCeilings [1, 2]).spc.ceilings, c.id = 2 → 0 < c.expiry) := by
  unfold State.ceilingsSound; decide +kernel

/-! ### Witnesses: closures -/

theorem witness_CloseFieldsInForm :
    (⟨0, 0#8, 212, 1, 1, 1, 60, 30, false⟩ : CloseFields).inForm = none ∧
    (⟨1, 0#8, 1000, 1, 1, 1, 60, 30, false⟩ : CloseFields).inForm = none ∧
    (⟨255, 9#8, 999, 9, 9, 9, 0, 2000, true⟩ : CloseFields).inForm = some ⟨255, 9#8, 999, 6, 1, 3, .v80, 1440⟩ ∧
    (station .run).onBus = true ∧ (station .run).crl.phase ≠ .sending ∧
    checkFrame (frameOf .close 1000 (closeBytes 0#8 1#8 212 0#8)) = some (receivedOf .close 1000 (closeBytes 0#8 1#8 212 0#8)) ∧
    closeOf (closeBytes 0#8 1#8 212 0#8) = some ⟨0, 1#8, 212, 1, 1, 3, 60, 30, false⟩ := by decide +kernel

theorem witness_ArrowsLeadToOpenLanes :
    (0 ∈ localLanesOf 2 1 1 ∧ 1 + 1 ≤ 2 + 1) ∧ (2 ∈ localLanesOf 3 3 1 ∧ 3 + 1 = 3 + 1) ∧
    (1 ∈ localLanesOf 6 2 4 ∧ 4 ∈ localLanesOf 6 2 4 ∧ 2 + 4 ≤ 6) ∧
    ({ recordOf 9#8 1#8 213 .setting with fullClosure := true } : ClosureRecord).fullClosure = true := by decide +kernel

/-- What a CLOSE frame of an id, gen and anchor gives at station 212. -/
theorem witness_CloseInstallsRecord :
    (∀ a ∈ [212, 213, 215], checkFrame (frameOf .close 1015 (closeBytes 9#8 1#8 a 0#8)) =
        some (receivedOf .close 1015 (closeBytes 9#8 1#8 a 0#8)) ∧
      (closeOf (closeBytes 9#8 1#8 a 0#8)).bind CloseFields.inForm = some (closureOf 9#8 1#8 a)) ∧
    roleOf 212 212 3 = some .atAnchor ∧ roleOf 212 213 3 = some .lead1 ∧ roleOf 212 215 3 = some .lead3 ∧
    (station .run).closuresSound ∧ (station .run).record 9 = none ∧ (station .run).clt.records.length < 8 ∧
    (station .run).stu.straps.first = false ∧ (station .run).reports (-1) 9 1#8 .proven = false ∧
    (station .run).reports (-1) 9 1#8 .degraded = false := by
  unfold State.closuresSound; decide +kernel

/-- A table of eight live records. -/
def fullTable : State := withRecords ([1#8, 2#8, 3#8, 4#8, 5#8, 6#8, 7#8, 8#8].map fun i => recordOf i 1#8 213 .setting)

theorem witness_CloseRefusedOrDeferred :
    (fullTable.onBus = true ∧ fullTable.record 9 = none ∧ fullTable.clt.records.length = 8 ∧
      (∀ x ∈ fullTable.clt.records, x.stage ≠ .released) ∧ roleOf 212 212 3 ≠ none) ∧
    (fullTable.closuresSound ∧ fullTable.record 8 = some (recordOf 8#8 1#8 213 .setting) ∧
      newerGen 1#8 1#8 = false ∧ newerGen 128#8 1#8 = true ∧ newerGen 129#8 1#8 = false ∧
      closeOf (closeBytes 8#8 2#8 213 1#8) = some ⟨8, 2#8, 213, 1, 1, 3, 60, 30, true⟩ ∧
      checkFrame (frameOf .close 1000 (closeBytes 8#8 2#8 213 1#8)) =
        some (receivedOf .close 1000 (closeBytes 8#8 2#8 213 1#8))) := by
  unfold State.closuresSound; decide +kernel

theorem witness_CloseModifiesLead :
    let x := recordOf 8#8 1#8 213 .setting
    fullTable.closuresSound ∧ fullTable.record 8 = some x ∧ x.stage ≠ .released ∧ newerGen 2#8 x.gen = true ∧
    x.pendingMod = none ∧ x.role = some .lead1 ∧ roleOf fullTable.position 213 3 = some .lead1 ∧
    checkFrame (frameOf .close 1000 (closeBytes 8#8 2#8 213 0#8)) = some (receivedOf .close 1000 (closeBytes 8#8 2#8 213 0#8)) ∧
    (closeOf (closeBytes 8#8 2#8 213 0#8)).bind CloseFields.inForm = some (closureOf 8#8 2#8 213) := by
  unfold State.closuresSound; decide +kernel

theorem witness_ReleaseFrameActs :
    (∀ a ∈ [212, 213], checkFrame (frameOf .release 1000 ([8#8, 1#8] ++ bytes16 a)) =
        some (receivedOf .release 1000 ([8#8, 1#8] ++ bytes16 a)) ∧
      releaseOf ([8#8, 1#8] ++ bytes16 a) = some ⟨8, 1#8, a⟩ ∧
      (withRecords [recordOf 8#8 1#8 a .setting]).record 8 = some (recordOf 8#8 1#8 a .setting) ∧
      (recordOf 8#8 1#8 a .setting).stage ≠ .released ∧ (recordOf 8#8 1#8 a .setting).stage ≠ .waitClear) ∧
    (recordOf 8#8 1#8 212 .setting).role = some .atAnchor ∧ (recordOf 8#8 1#8 213 .setting).role = some .lead1 ∧
    (withRecords [recordOf 8#8 1#8 213 .setting]).reports 1 8 1#8 .released = false ∧
    (withRecords [recordOf 8#8 1#8 213 .setting]).lacksId 1 8 = false ∧
    (({ withRecords [recordOf 8#8 1#8 213 .setting] with nbt := [{ entryOf 213 0 with summary := some [] }] } : State).lacksId
      1 8 = true) ∧
    ((station .run).closuresSound ∧ (station .run).record 8 = none ∧ (station .run).position ≤ 215 ∧
      215 ≤ (station .run).position + 3 ∧ (station .run).clt.records.length < 8) ∧
    releaseOf ([0#8, 1#8] ++ bytes16 212) = some ⟨0, 1#8, 212⟩ := by
  unfold State.closuresSound; decide +kernel

theorem witness_OrphanClearRemovesOrphan :
    let s : State := { station .run with clt := { Clt.reset with orphans := [2] } }
    s.onBus = true ∧ s.crl.phase ≠ .sending ∧
    checkFrame (frameOf .orphanClear 1000 (bytes16 212 ++ [3#8])) = some (receivedOf .orphanClear 1000 (bytes16 212 ++ [3#8])) ∧
    orphanClearOf (bytes16 212 ++ [3#8]) = some (212, 3) ∧ s.position = 212 ∧ laneOf 3 = some 2 ∧ 2 ∈ s.clt.orphans ∧
    (1 : Lane) ∉ s.clt.orphans := by decide +kernel

/-- A record whose timers have run out. -/
def overdue (a : Nat) (st : Stage) : ClosureRecord :=
  { recordOf 8#8 1#8 a st with expiry := some 0, tombTime := if st = .released then some 0 else none, waitTime := some 0 }

theorem witness_ExpiryAndClearWaitRelease :
    (withRecords [overdue 212 .setting]).closuresSound ∧
    (withRecords [overdue 212 .setting]).record 8 = some (overdue 212 .setting) ∧
    (overdue 212 .setting).role = some .atAnchor ∧ (overdue 212 .setting).expiry = some 0 ∧
    (withRecords [overdue 213 .proven]).record 8 = some (overdue 213 .proven) ∧ (overdue 213 .proven).role = some .lead1 ∧
    (withRecords [overdue 213 .proven]).reports 1 8 1#8 .released = false ∧
    (withRecords [overdue 213 .proven]).lacksId 1 8 = false ∧ (recordOf 8#8 1#8 213 .proven).expiry ≠ some 0 ∧
    (withRecords [overdue 213 .waitClear]).record 8 = some (overdue 213 .waitClear) ∧
    (overdue 213 .waitClear).stage = .waitClear ∧ (overdue 213 .waitClear).waitTime = some 0 := by
  unfold State.closuresSound; decide +kernel

theorem witness_TombstoneAndRefusedExpire :
    ((withRecords [overdue 213 .released]).onBus = true ∧
      (withRecords [overdue 213 .released]).record 8 = some (overdue 213 .released) ∧
      (overdue 213 .released).stage = .released ∧ (overdue 213 .released).tombTime = some 0) ∧
    (let s : State := { station .run with clt := { Clt.reset with refused := [⟨8, 0⟩, ⟨9, 1⟩] } };
      s.onBus = true ∧ (∃ q ∈ s.clt.refused, q.id = 8 ∧ q.lifetime = 0) ∧
      (∀ q ∈ s.clt.refused, q.id = 9 → 0 < q.lifetime)) := by decide +kernel

theorem witness_LeadWaitExpirySets :
    let w : ClosureRecord := { overdue 212 .waitLead with expiry := none }
    let x : ClosureRecord := { overdue 212 .setting with awaiting := [0] }
    (withRecords [w]).closuresSound ∧ (withRecords [w]).record 8 = some w ∧ w.role = some .atAnchor ∧ w.stage = .waitLead ∧
    w.waitTime = some 0 ∧ w.pendingMod = none ∧ (withRecords [x]).record 8 = some x ∧ x.stage = .setting ∧ x.awaiting ≠ [] ∧
    x.pendingMod = none := by
  unfold State.closuresSound; decide +kernel

theorem witness_ProofGivesStage :
    (∀ c ∈ [ProofClass.satisfied, .satisfied], c = .satisfied) ∧ ProofClass.pending ∈ [ProofClass.failed, .pending] ∧
    ProofClass.pending ∉ [ProofClass.failed, .satisfied] ∧ (∃ c ∈ [ProofClass.failed, .satisfied], c ≠ .satisfied) ∧
    (station .run).slc.link = .owned ∧ (0 : Addr) ≠ legendAddr := by decide +kernel

/-! ### Witnesses: arbitration -/

/-- A lane with arrows of two closures, which differ, and a lane with a red cross beside it. -/
def arrowsMeet : State :=
  (((station .run).place 1 ⟨.divert, .closure 40 311, .arrowL⟩).place 1 ⟨.divert, .closure 44 310, .arrowR⟩).place 0
    ⟨.closed, .closure 45 212, .redX⟩

theorem witness_HighestLevelWins :
    arrowsMeet.rowsSorted ∧ (1 : Lane).val < arrowsMeet.lanes ∧
    (∃ q ∈ (arrowsMeet.display (laneAddr 1)).row, q.source ≠ .enclosed) ∧
    (arrowsMeet.settle.display 1).baseWinner = some .arrowR := by
  unfold State.rowsSorted; decide +kernel

/-- Both arrows, not blocked, flipped and enclosed, and a lane without an arrow. -/
theorem witness_ArrowPostPass :
    arrowsMeet.lanes ≤ 6 ∧ (arrowsMeet.settle.display 0).winner = .redX ∧ (arrowsMeet.settle.display 1).winner = .arrowR ∧
    (((station .run).place 0 ⟨.divert, .closure 40 213, .arrowL⟩).settle.display 0).winner = .arrowR ∧
    ((arrowsMeet.place 2 ⟨.divert, .closure 40 213, .arrowR⟩).settle.display 2).winner = .arrowL ∧
    (((arrowsMeet.place 2 ⟨.closed, .closure 45 212, .redX⟩)).settle.display 1).winner = .redX := by decide +kernel

/-- Modules in each state whose form an event changes. -/
theorem witness_EventFormsEntries :
    let s := fun (m : ModuleState) =>
      (arrowsMeet.setMod 0 { Module.reset with state := m, repertoire := 0x03FF#16 })
    (∀ m ∈ [ModuleState.absent, .failed, .ready, .changing],
      (s m).queueSound ∧ (0 : Addr) ∈ (s m).moduleAddrs ∧ ((s m).settle.display 0).form ≠ ((s m).display 0).form ∧
      ((s m).display 0).ordered ≠ ((s m).settle.display 0).form ∧ ((s m).mod 0).state = m) ∧
    canShow 0x03FF#16 .redX = true ∧ canShow 0x0001#16 .redX = false ∧ canShow 0x0001#16 .endSign = false ∧
    canShow 0x4000#16 .flash = false ∧ canShow 0x0003#16 .speed50 = false ∧ canShow 0x0001#16 .speed50 = false := by
  unfold State.queueSound; decide +kernel

/-! ### Witnesses: the sign link -/

/-- A station in RUN with sign-link values. -/
def withSlc (f : Slc → Slc) : State := { station .run with slc := f Slc.reset }

theorem witness_BoundaryServesRetryRoundHold :
    ((withSlc id).running = true ∧ (withSlc id).slc.link = .owned ∧ (withSlc id).slc.transaction = none) ∧
    (withSlc fun x => { x with retry := some ⟨0, .proof, .poll 0, true⟩ }).slc.retry = some ⟨0, .proof, .poll 0, true⟩ ∧
    (withSlc fun x => { x with round := some [0, 6] }).slc.round = some (0 :: [6]) ∧
    ((withSlc fun x => { x with holdReq := true, holdPending := true }).slc.holdPending = true ∧
      (∀ g ∈ (withSlc id).asa.queue, g.beingSent = true → ∀ e ∈ g.entries, e.sent = true)) := by decide +kernel

/-- A change queue of one group. -/
def withGroup (k : GroupKind) (b : Bool) : State :=
  { station .run with asa := { Asa.reset with queue := [⟨k, 3#8, b, [⟨0, .speed60, false, b⟩, ⟨1, .speed60, false, false⟩]⟩] } }

theorem witness_BoundarySendsGroup :
    ((withGroup .normal true).stu.station = .run ∧ (withGroup .normal true).slc.link = .owned ∧
      (withGroup .normal true).slc.transaction = none ∧ (withGroup .normal true).slc.retry = none ∧
      (withGroup .normal true).slc.round = none ∧ (withGroup .normal true).queueSound ∧
      (withGroup .normal true).asa.queue =
        [⟨.normal, 3#8, true, [⟨0, .speed60, false, true⟩] ++ ⟨1, .speed60, false, false⟩ :: []⟩]) ∧
    ((withGroup .urgent false).queueSound ∧ (withGroup .urgent false).slc.holdPending = false) ∧
    ((withGroup .normal false).queueSound ∧
      (((withGroup .normal false).setMod 1 { Module.reset with state := .changing }).mod 1).state = .changing) := by
  unfold State.queueSound; decide +kernel

theorem witness_MissingReplyRetriedThenFails :
    (withTxn (station .run) ⟨0, .refresh, .refresh, false⟩).slc.transaction = some ⟨0, .refresh, .refresh, false⟩ ∧
    ((withTxn (station .run) ⟨0, .refresh, .refresh, true⟩).mod 0).state ≠ .failed ∧
    ((withTxn ((station .run).setMod 0 { Module.reset with state := .changing }) ⟨0, .proof, .poll 5, true⟩).mod 0).state =
      .changing ∧ (0 : Lane) ∈ (station .run).lanesInUse ∧ (station .run).running = true := by decide +kernel

theorem witness_SetCompletes :
    (withTxn (station .run) ⟨0, .set .speed60 3#8, .groupSet false, true⟩).slc.transaction =
      some ⟨0, .set .speed60 3#8, .groupSet false, true⟩ := by decide +kernel

theorem witness_PollReplySettles :
    let s := withTxn
      ((station .run).setMod 0 { Module.reset with state := .changing, sent := some .speed60, sentTag := some 3#8 })
      ⟨0, .proof, .poll 4, false⟩
    s.slc.transaction = some ⟨0, .proof, .poll 4, false⟩ ∧ (s.mod 0).state = .changing ∧ (s.mod 0).sent = some .speed60 ∧
    (s.mod 0).sentTag = some 3#8 ∧ Aspect.speed50 ≠ Aspect.speed60 ∧ (4 < 5 ∧ 5 ≤ 5) := by decide +kernel

/-- Discovery dealing with the found modules 1, 7 and 8, and still identifying 8. -/
theorem witness_RefreshAndBlankComplete :
    (withTxn (station .run) ⟨0, .refresh, .refresh, false⟩).slc.transaction = some ⟨0, .refresh, .refresh, false⟩ ∧
    ((station .run).mod 0).state ≠ .failed ∧
    (withTxn (station .run) ⟨0, .blank, .failureBlank, false⟩).slc.transaction = some ⟨0, .blank, .failureBlank, false⟩ ∧
    (let s := withTxn (withDiscovery (station .discover) ⟨[], [0, 6, 7], none, none, false⟩) ⟨0, .blank, .discovery, false⟩;
      s.slc.transaction = some ⟨0, .blank, .discovery, false⟩ ∧ s.stu.station = .discover ∧
      s.slc.discovery = some ⟨[], 0 :: 6 :: [7], none, none, false⟩) := by decide +kernel

theorem witness_IdentReplyRecorded :
    moduleKindOf 0x01#8 = some (kindRequired 0) ∧ moduleKindOf 0x02#8 ≠ some (kindRequired 0) ∧
    moduleKindOf 0x04#8 ≠ some (kindRequired 0) ∧
    (let s := withTxn (withDiscovery (station .discover) ⟨[0, 6, 7], [], none, none, true⟩) ⟨0, .ident, .discovery, false⟩;
      s.slc.transaction = some ⟨0, .ident, .discovery, false⟩ ∧ s.stu.station = .discover ∧
      s.slc.discovery = some ⟨0 :: 6 :: [7], [], none, none, true⟩ ∧ (0 : Lane) ∈ s.lanesInUse ∧ (s.mod 0).state = .absent) ∧
    (withTxn (station .run) ⟨0, .ident, .identRetry, false⟩).slc.transaction = some ⟨0, .ident, .identRetry, false⟩ := by
  decide +kernel

/-- A module whose poll, refresh or IDENT falls due, and one whose does not; discovery's times. -/
theorem witness_LinkWorkFallsDue :
    (addrOf 1 = some 0 ∧ (station .run).running = true ∧ (station .run).slc.link = .owned ∧ (station .run).slc.round = none ∧
      (station .run).slc.transaction = none ∧ (station .run).slc.retry = none) ∧
    (let m : Module := { Module.reset with
        state := .changing, blankUnits := some 12, rampExponent := some 7, sinceSetEnd := some 248, nextPoll := some 0,
        refresh := some 5000 };
      m.transitionTime + 50 * 0 ≤ 248 ∧ 248 < m.transitionTime + 50 * 1 ∧ m.state ≠ .absent ∧ m.refresh = some 5000) ∧
    (let m : Module := { Module.reset with state := .failed, identTimer := some 0, refresh := some 4999 };
      m.state = .failed ∧ m.answered = false ∧ m.identTimer = some 0 ∧ m.refresh ≠ some 5000) ∧
    (let s := withDiscovery (station .discover) ⟨[], [0, 6, 7], some 300, some 50, false⟩;
      s.stu.station = .discover ∧ s.slc.link = .owned ∧ s.slc.discovery = some ⟨[], 0 :: 6 :: [7], some 300, some 50, false⟩ ∧
      50 ≤ 50 ∧ (s.mod 0).transitionTime + 250 ≤ 300 ∧ s.slc.transaction = none ∧ s.slc.retry = none) := by decide +kernel

theorem witness_HoldreqTakesAndGivesLink :
    ((station .run).slc.holdReq = false ∧ (station .run).running = true ∧ (station .run).slc.link = .owned ∧
      (station .stopped).stu.station = .stopped ∧ State.reset.stu.station = .inReset) ∧
    (let s := fun st => ({ station st with
        slc := { Slc.reset with holdReq := true, link := .held, holdAck := true } } : State).setMod 0
        { Module.reset with state := .ready };
      (s .run).slc.holdReq = true ∧ (s .run).slc.link = .held ∧ (s .run).onBus = true ∧
      (∃ a ∈ (s .run).moduleAddrs, ((s .run).mod a).state ≠ .absent) ∧ (s .discover).stu.station = .discover ∧
      (withSlc fun x => { x with holdReq := true, holdPending := true }).slc.link = .owned) := by decide +kernel

/-! ### Witnesses: start-up and the maintenance port -/

theorem witness_DiscoveryEndsInJoin :
    let s := withTxn (withDiscovery (station .discover) ⟨[], [0], none, none, false⟩) ⟨0, .blank, .discovery, false⟩
    s.slc.transaction = some ⟨0, .blank, .discovery, false⟩ ∧ s.stu.station = .discover ∧ s.stu.restart = .cold ∧
    s.slc.discovery = some ⟨[], [0], none, none, false⟩ ∧ s.clt.records = [] := by decide +kernel

theorem witness_JoinEndEntersRun :
    let s : State := { station .join with stu := { (station .join).stu with joinTimer := some 0 } }
    s.stu.station = .join ∧ s.stu.joinTimer = some 0 ∧ s.clt.records = [] ∧ (0 : Addr) ∈ s.moduleAddrs ∧
    ((s.setMod 0 { Module.reset with state := .ready }).mod 0).state = .ready := by decide +kernel

theorem witness_PortAnswersRequests :
    (station .run).stu.station ≠ .inReset ∧ (station .run).mpt.phase = .idle ∧
    ({ Mpt.reset with phase := .receiving, received := [0x01#8] } : Mpt).received = [0x01#8] ∧
    (0x01#8 : Byte) ≠ ~~~0x01#8 ∧ (0xFE#8 : Byte) = ~~~0x01#8 ∧ Snapshot.code .station = 0x01#8 ∧
    (∀ k ∈ [Snapshot.station, .measurement, .neighbours, .closures, .signs], k.code ≠ 0x06#8) ∧
    (0xF9#8 : Byte) = ~~~0x06#8 ∧ ({ Mpt.reset with phase := .refusing .check } : Mpt).phase = .refusing .check := by
  decide +kernel

/-! ### Witnesses: the widened clauses -/

/-- A lost OCCUPY. -/
theorem witness_LostOccupyResyncs :
    let s := fullQueue (ripeLoop .clear LoopState.reset)
    laneOf 3 = some 2 ∧ s.running = true ∧ (2 : Lane).val < s.lanes ∧ (s.loop 2 .a).level = .clear ∧
    (s.loop 2 .a).candidate = some 5#16 ∧ 4 ≤ (s.lpi.ms - 5#16).toNat ∧ s.lpi.queue.length = 64 ∧
    (s.loop 2 (Loop.partner .a)).partnerWhileOccupied < 4 ∧ (s.loop 2 (Loop.partner .a)).partnerWhileClear < 29 := by
  decide +kernel

/-- A loop occupied for long whose partner's fifth OCCUPY is ripe, FAULTY and not. -/
theorem witness_FifthPartnerOccupyFaults :
    ∀ f ∈ [FaultState.faulty, .sound],
      let s := ripeLoop .clear
        { LoopState.reset with level := .occupied, occupiedMs := 300000, partnerWhileOccupied := 4, fault := f }
      s.running = true ∧ (2 : Lane).val < s.lanes ∧ (s.loop 2 .a).level = .clear ∧ (s.loop 2 .a).candidate = some 5#16 ∧
      4 ≤ (s.lpi.ms - 5#16).toNat ∧ (s.loop 2 (Loop.partner .a)).level = .occupied ∧
      300000 ≤ (s.loop 2 (Loop.partner .a)).occupiedMs ∧ (s.loop 2 (Loop.partner .a)).partnerWhileOccupied = 4 ∧
      (s.loop 2 (Loop.partner .a)).fault = f := by decide +kernel

/-- The end of a twenty-first short occupancy of a loop, FAULTY and not. -/
theorem witness_ChatterFaults :
    ∀ f ∈ [FaultState.faulty, .recovering],
      let s := (ripeLoop .occupied LoopState.reset).setLoop 2 .a
        { LoopState.reset with level := .occupied, candidate := some 5#16, shortOccupancies := 20, fault := f }
      s.running = true ∧ (2 : Lane).val < s.lanes ∧ (s.loop 2 .a).level = .occupied ∧ (s.loop 2 .a).candidate = some 5#16 ∧
      4 ≤ (s.lpi.ms - 5#16).toNat ∧ s.lpi.queue.length < 64 ∧ (s.loop 2 .a).shortOccupancies = 20 ∧
      (5#16 - (s.loop 2 .a).occupyTime).toNat < 30 ∧ (s.loop 2 .a).fault = f := by decide +kernel

/-- In mode SINGLE_A, the OCCUPY of loop A and that of loop B. -/
theorem witness_SingleLoopCountsOccupies :
    ∀ p ∈ [Loop.a, .b],
      let s := (edgeAtHead .empty ⟨2, p, .occupy, 7#16⟩ none none).setLoop 2 .b { LoopState.reset with fault := .faulty }
      s.running = true ∧ s.lpi.queue = [⟨2, p, .occupy, 7#16⟩] ∧ (s.lane 2).pairing ≠ .resync ∧ s.mode 2 = .singleA ∧
      (s.lane 2).window = some (openAccum 0#12 0#16 false false .sound .sound) ∧
      (openAccum 0#12 0#16 false false .sound .sound).count < 4095 := by decide +kernel

/-- A window end after which a lane is slow-valid and open. -/
theorem witness_WindowEndDerivedNumbers :
    let rs : List WindowRecord := List.replicate 4 ⟨1#12, 3, 3, 180, 900, 60, .valid⟩
    let s := windowDue.setLane 0
      { LaneState.reset with ring := rs, window := some (openAccum 5#12 0#16 false false .sound .sound) }
    s.onBus = true ∧ s.msu.windowTimer = some 0 ∧
    (match exec .windowEnd s with
      | .next t => (t.lane 0).fast.isSome && decide (4 ≤ ((t.lane 0).ring.filter fun r => r.mark = .valid ∨ r.mark = .countOnly).length) &&
          (t.lane 0).ring.getLast?.map WindowRecord.mark == some .valid
      | _ => false) = true := by decide +kernel

/-- Each row of the status table, in its order, then a lane that no row but the last fits. -/
theorem witness_LaneStatusTable :
    let lane := fun (m : ModuleState) (b : Bool) =>
      ((station .run).setMod 0 { Module.reset with state := m }).setDisplay 0
        { (station .run).display 0 with limited := b }
    (arrowsMeet.settle.display 0).winner = .redX ∧ (arrowsMeet.settle.mod 0).state = .absent ∧
    (∃ q ∈ (arrowsMeet.settle.display 0).row, q.level = .closed ∧ q.source.isClosure = true) ∧
    (∃ q ∈ (((lane .ready false).place 0 ⟨.closed, .orphan 0, .redX⟩).display 0).row,
      q.level = .closed ∧ q.source.isOrphan = true) ∧
    (((lane .ready false).place 0 ⟨.closed, .orphan 0, .redX⟩).display 0).winner ≠ .redX ∧
    (∀ m ∈ [ModuleState.failed, .ready, .changing], ∀ b ∈ [true, false],
      ((lane m b).mod 0).state = m ∧ ((lane m b).display 0).limited = b ∧ ((lane m b).display 0).winner ≠ .redX ∧
      (∀ q ∈ ((lane m b).display 0).row, q.level ≠ .closed) ∧ (lane m b).asa.queue = [] ∧
      (lane m b).slc.transaction = none ∧ (lane m b).slc.retry = none ∧ (lane m b).slc.link = .owned) := by decide +kernel

/-- A beat of a station with CLASH set, its timer before and at its last beat, and of one that is SENDING. -/
theorem witness_BeatAdvancesCycle :
    (∀ n ∈ [29, 30], (atBeat { Crl.reset with clash := true, clashTimer := n }).crl.clashTimer = n) ∧
    (atBeat { Crl.reset with phase := .sending }).onBus = true ∧
    (atBeat { Crl.reset with phase := .sending }).crl.beatTimer = some 0 := by decide +kernel

theorem witness_StaleEntryTold : (withNeighbour 4).neighboursSound := by unfold State.neighboursSound; decide +kernel

/-- A full STATE frame's closure entry at station 212. -/
def entryAt (id gen : Byte) (anchor : Nat) (st : Stage) : ClosureEntry := { (recordOf id gen anchor st).entry with stage := st }

/-- A full STATE frame with one entry. -/
def fullState (sender : Nat) (e : ClosureEntry) : StateFrame := { shortState sender with entries := some [e] }

/-- A full frame of 213 with a live entry and a RELEASED one, at a station that holds no record, a live one, one of another gen, and a tombstone. -/
theorem witness_FullFrameHandsEntries :
    (∀ e ∈ [entryAt 8#8 2#8 212 .setting, entryAt 8#8 2#8 213 .setting, entryAt 8#8 2#8 213 .released],
      checkFrame (frameOf .state 213 (fullState 213 e).payload) = some (receivedOf .state 213 (fullState 213 e).payload) ∧
      stateFrameOf (receivedOf .state 213 (fullState 213 e).payload) = some (fullState 213 e) ∧
      e.inForm ≠ none ∧ roleOf 212 e.anchor e.leadIn ≠ none) ∧
    (station .run).onBus = true ∧ (station .run).crl.phase ≠ .sending ∧ (station .run).closuresSound ∧
    (station .run).inRange 213 = true ∧ (station .run).entryFor 213 = none ∧ (station .run).record 8 = none ∧
    (station .run).clt.records.length + 1 ≤ 8 ∧
    (∀ x ∈ [recordOf 8#8 1#8 212 .setting, recordOf 8#8 1#8 213 .proven, recordOf 8#8 2#8 213 .setting, recordOf 8#8 1#8 213 .released],
      (withRecords [x]).closuresSound ∧ (withRecords [x]).record 8 = some x ∧ x.pendingMod = none ∧ x.role ≠ none) ∧
    newerGen 2#8 1#8 = true ∧ newerGen 2#8 2#8 = false := by
  unfold State.closuresSound; decide +kernel

/-- The lead report from 211, and the two clear reports from 213. -/
theorem witness_ReportsMoveStages :
    (∀ e ∈ [entryAt 8#8 1#8 212 .proven, entryAt 8#8 1#8 212 .degraded],
      checkFrame (frameOf .state 211 (fullState 211 e).payload) = some (receivedOf .state 211 (fullState 211 e).payload) ∧
      stateFrameOf (receivedOf .state 211 (fullState 211 e).payload) = some (fullState 211 e) ∧ e.id = 8 ∧ e.gen = 1#8) ∧
    (∀ e ∈ [entryAt 8#8 1#8 213 .released, entryAt 9#8 1#8 213 .setting],
      checkFrame (frameOf .state 213 (fullState 213 e).payload) = some (receivedOf .state 213 (fullState 213 e).payload) ∧
      stateFrameOf (receivedOf .state 213 (fullState 213 e).payload) = some (fullState 213 e)) ∧
    (fullState 211 (entryAt 8#8 1#8 212 .proven)).joining = false ∧ (station .run).inRange 211 = true ∧ 211 + 1 = (station .run).position ∧
    (∀ x ∈ [recordOf 8#8 1#8 212 .waitLead, { recordOf 8#8 1#8 212 .setting with awaiting := [0] }, recordOf 8#8 1#8 213 .waitClear],
      (withRecords [x]).closuresSound ∧ (withRecords [x]).record 8 = some x ∧ x.pendingMod = none) ∧
    (recordOf 8#8 1#8 212 .waitLead).role = some .atAnchor := by
  unfold State.closuresSound; decide +kernel

/-- First frames of the anchors at +1 and +2 that report lane 2 AT_FAILED, and their entries gone stale. -/
theorem witness_SubstitutionFollowsReports :
    (∀ p ∈ [213, 214],
      checkFrame (frameOf .state p (shortState p).payload) = some (receivedOf .state p (shortState p).payload) ∧
      stateFrameOf (receivedOf .state p (shortState p).payload) = some (shortState p) ∧ (station .run).inRange p = true ∧
      (station .run).entryFor p = none ∧
      (let s : State := { withRecords [recordOf 8#8 1#8 p .proven] with nbt := [entryOf p 4] };
        s.closuresSound ∧ s.neighboursSound ∧ (∃ e ∈ s.nbt, e.position = p ∧ e.newlyStale = true) ∧
        s.record 8 = some (recordOf 8#8 1#8 p .proven))) ∧
    (recordOf 8#8 1#8 213 .proven).role = some .lead1 ∧ (recordOf 8#8 1#8 214 .proven).role = some .lead2 := by
  unfold State.closuresSound State.neighboursSound; decide +kernel

theorem witness_LeadOneDiverts :
    (recordOf 8#8 1#8 213 .setting).role = some .lead1 ∧ (recordOf 8#8 1#8 213 .setting).fullClosure = false ∧
    (recordOf 8#8 1#8 213 .setting).localLanes ≠ [] ∧ 3 ∈ localLanesOf 4 3 4 ∧ 4 < 3 + 4 := by decide +kernel

/-- A table of seven live records and a tombstone, a tombstone of the id, and a closure that does not concern the station. -/
theorem witness_CloseInstallsInTombstone :
    (let s := withRecords (([1#8, 2#8, 3#8, 4#8, 5#8, 6#8, 7#8].map fun i => recordOf i 1#8 213 .setting) ++ [overdue 213 .released]);
      s.onBus = true ∧ s.closuresSound ∧ s.record 9 = none ∧ s.clt.records.length = 8 ∧ overdue 213 .released ∈ s.clt.records ∧
      (∀ z ∈ s.clt.records, z.stage = .released → z.id = 8) ∧ s.record 8 = some (overdue 213 .released) ∧
      (overdue 213 .released).stage = .released) ∧
    newerGen 2#8 1#8 = true ∧ roleOf 212 216 3 = none ∧
    (∀ a ∈ [213, 216], checkFrame (frameOf .close 1000 (closeBytes 8#8 2#8 a 0#8)) = some (receivedOf .close 1000 (closeBytes 8#8 2#8 a 0#8)) ∧
      (closeOf (closeBytes 8#8 2#8 a 0#8)).bind CloseFields.inForm = some (closureOf 8#8 2#8 a)) := by
  unfold State.closuresSound; decide +kernel

/-- An AT record in WAIT_LEAD, in SETTING with its cross placed, and in SETTING without it, left at AT. -/
theorem witness_CloseModifiesAnchor :
    (∀ st ∈ [Stage.waitLead, .setting],
      let x := recordOf 8#8 1#8 212 st
      let s := withRecords [x]
      s.closuresSound ∧ s.record 8 = some x ∧ x.pendingMod = none ∧ x.role = some .atAnchor ∧
      (s.display 0).row.any (fun q => q.level == .closed && q.source.ownOf 8) = false ∧
      ((s.place 0 ⟨.closed, .closure 8 212, .redX⟩).display 0).row.any (fun q => q.level == .closed && q.source.ownOf 8) = true ∧
      s.stu.straps.first = false ∧ s.reports (-1) 8 2#8 .proven = false ∧ s.reports (-1) 8 2#8 .degraded = false) ∧
    localLanesOf 3 1 1 = [0] ∧ roleOf 212 212 3 = some .atAnchor := by
  unfold State.closuresSound; decide +kernel

/-- A LEAD record, in WAIT_CLEAR too, and an AT record that a newer CLOSE gives another role or none. -/
theorem witness_CloseChangesRole :
    (∀ x ∈ [recordOf 8#8 1#8 213 .setting, recordOf 8#8 1#8 213 .waitClear, recordOf 8#8 1#8 212 .proven],
      (withRecords [x]).closuresSound ∧ (withRecords [x]).record 8 = some x ∧ x.stage ≠ .released ∧ x.pendingMod = none ∧ x.role ≠ none ∧
      x.role ≠ some .lead2 ∧ (withRecords [x]).reports 1 8 2#8 .released = false ∧ (withRecords [x]).lacksId 1 8 = false) ∧
    roleOf 212 214 3 = some .lead2 ∧ roleOf 212 212 3 = some .atAnchor ∧ roleOf 212 216 3 = none ∧
    (∀ a ∈ [212, 214, 216],
      (closeOf (closeBytes 8#8 2#8 a 0#8)).bind CloseFields.inForm = some (closureOf 8#8 2#8 a)) := by
  unfold State.closuresSound; decide +kernel

/-- AFTER_CURRENT at a settled record and at one in WAIT_CLEAR; pending modifications older and newer than the CLOSE that arrives. -/
theorem witness_NewerPendingStays :
    (∀ st ∈ [Stage.proven, .degraded, .waitClear], ∀ g ∈ [2#8, 4#8],
      let x := { recordOf 8#8 1#8 213 st with pendingMod := some (closureOf 8#8 g 213) }
      (withRecords [x]).closuresSound ∧ (withRecords [x]).record 8 = some x ∧ x.stage ≠ .waitLead ∧ x.stage ≠ .setting ∧
      x.stage ≠ .released ∧ x.pendingMod = some (closureOf 8#8 g 213)) ∧
    newerGen 3#8 1#8 = true ∧ newerGen 4#8 3#8 = true ∧ newerGen 2#8 3#8 = false ∧ roleOf 212 213 3 = some .lead1 ∧
    checkFrame (frameOf .close 1000 (closeBytes 8#8 3#8 213 1#8)) = some (receivedOf .close 1000 (closeBytes 8#8 3#8 213 1#8)) ∧
    closeOf (closeBytes 8#8 3#8 213 1#8) = some ⟨8, 3#8, 213, 1, 1, 3, 60, 30, true⟩ ∧
    (closeOf (closeBytes 8#8 3#8 213 1#8)).bind CloseFields.inForm = some (closureOf 8#8 3#8 213) := by
  unfold State.closuresSound; decide +kernel

/-- A station that is SENDING a full frame, with a next frame held, as an ANNOUNCE arrives (R54). -/
theorem witness_AnnounceWhileSending :
    let f : TxFrame := ⟨.state { shortState 212 with entries := some [] }, true⟩
    let s := withCrl (station .run) { Crl.reset with phase := .sending, pendingFrame := some f, nextFrame := some f, fullOwed := true }
    s.onBus = true ∧ s.crl.phase = .sending ∧ (∀ e ∈ s.nbt, e.gone = false ∧ e.newlyStale = false) ∧
    s.crl.pendingFrame = some f ∧ s.crl.nextFrame = some f := by decide +kernel

/-- Each item of a boundary, none before it. -/
theorem witness_BoundaryTakesFirstItem :
    let s := fun (f : Module → Module) => (withSlc id).setMod 0 (f Module.reset)
    (∀ f ∈ [id, fun m : Module => { m with blankOwed := true }, fun m => { m with pollDue := true, state := .changing },
        fun m => { m with identDue := true }, fun m => { m with refreshDue := true }],
      (s f).onBus = true ∧ (s f).slc.link = .owned ∧ (s f).slc.transaction = none ∧ (s f).slc.retry = none ∧
      (s f).slc.round = none ∧ (s f).slc.holdPending = false ∧ (s f).queueSound ∧ (s f).asa.queue = [] ∧ (0 : Addr) ∈ (s f).moduleAddrs) ∧
    ((withGroup .normal false).asa.queue.head?.map Group.kind = some .normal ∧ (withGroup .normal false).queueSound ∧
      (∀ g ∈ (withGroup .normal false).asa.queue, g.beingSent = false ∧ ∀ e ∈ g.entries, ((withGroup .normal false).mod e.addr).state ≠ .changing)) := by
  unfold State.queueSound; decide +kernel

/-- A module in a proof round, its last, FAILED and not; a module whose lit aspect differs from its form. -/
theorem witness_RoundReplySettles :
    (∀ m ∈ [ModuleState.ready, .failed],
      let s := withTxn ((withSlc fun x => { x with round := some [0] }).setMod 0
        { Module.reset with state := m, sent := some .speed60, sentTag := some 3#8 }) ⟨0, .proof, .proofRound, true⟩
      s.slc.transaction = some ⟨0, .proof, .proofRound, true⟩ ∧ s.slc.round = some (0 :: []) ∧ (s.mod 0).state = m ∧
      (s.mod 0).answered = false ∧ s.queueSound ∧ (s.mod 0).sent ≠ some (s.display 0).form) := by
  unfold State.queueSound; decide +kernel

theorem witness_RecoveryEntryFormed :
    let s := withTxn ((station .run).setMod 0 { Module.reset with state := .failed }) ⟨0, .ident, .identRetry, false⟩
    s.onBus = true ∧ s.slc.transaction = some ⟨0, .ident, .identRetry, false⟩ ∧ moduleKindOf 0x01#8 = some (kindRequired 0) ∧
    (0 : Addr) ∈ s.moduleAddrs ∧ (s.mod 0).state = .failed ∧ (s.display 0).ordered = darkAspect 0 ∧ s.queueSound ∧
    s.asa.queue.length ≤ 5 ∧ s.clt.records = [] ∧
    (let u : State := { s with clt := { s.clt with records := [recordOf 8#8 1#8 212 .waitLead] } };
      u.closuresSound ∧ ∀ x ∈ u.clt.records, x.pendingMod = none ∧ x.stage.proofRuns = false) := by
  unfold State.queueSound State.closuresSound; decide +kernel

/-- A keep restart's discovery at the PROOF of a module, when more are to come and when it is the last. -/
theorem witness_KeepRestart :
    ∀ rest ∈ [[], [(6 : Addr), 7]],
      let s := withTxn (withDiscovery { station .discover with stu := { (station .discover).stu with restart := .keep } }
        ⟨[], 0 :: rest, some 40, some 10, false⟩) ⟨0, .proof, .discovery, true⟩
      s.slc.transaction = some ⟨0, .proof, .discovery, true⟩ ∧ s.stu.station = .discover ∧ s.stu.restart = .keep ∧
      s.slc.link = .owned ∧ s.slc.discovery = some ⟨[], 0 :: rest, some 40, some 10, false⟩ ∧ (0 : Addr) ∈ s.moduleAddrs ∧
      s.asa = Asa.reset ∧ s.clt = Clt.reset ∧ s.spc.ceilings = [] ∧ s.spc.queueFlag = false := by decide +kernel

/-- The end of JOIN with an orphan that an AT record absorbs and one that stays. -/
theorem witness_JoinEndAbsorbs :
    let x := recordOf 8#8 1#8 212 .waitLead
    let s : State := { station .join with
      stu := { (station .join).stu with joinTimer := some 0 }, clt := { Clt.reset with records := [x], orphans := [0, 2] } }
    s.stu.joinTimer = some 0 ∧ s.closuresSound ∧ s.anchorsNeverClear ∧ x ∈ s.clt.records ∧ x.stage ≠ .released ∧
    x.role = some .atAnchor ∧ x.pendingMod = none ∧ (0 : Lane) ∈ x.localLanes ∧ (2 : Lane) ∉ x.localLanes := by
  unfold State.closuresSound State.anchorsNeverClear; decide +kernel

/-- A counted vehicle and one that is not, at each of the regular edges and in each measuring mode. -/
theorem witness_RegularInEveryMode :
    (∀ fa ∈ [FaultState.sound, .faulty], ∀ fb ∈ [FaultState.recovering, .faulty], ∀ c ∈ [true, false],
      ∀ x ∈ [(PairState.empty, Loop.a, EdgeKind.occupy), (.aOn, .b, .occupy), (.abOn, .a, .clear), (.bOn, .b, .clear)],
        let v : Vehicle := ⟨some 3#16, some 5#16, c⟩
        let s := ((edgeAtHead x.1 ⟨2, x.2.1, x.2.2, 7#16⟩ none (if x.1 = .empty then none else some v)).setLoop 2 .a
          { LoopState.reset with fault := fa }).setLoop 2 .b { LoopState.reset with fault := fb }
        s.running = true ∧ s.lpi.queue = [⟨2, x.2.1, x.2.2, 7#16⟩] ∧ s.mode 2 = laneMode fa fb ∧ (s.lane 2).pairing = x.1 ∧
        (x.1 = .empty ∨ (s.lane 2).vehicle = some v) ∧ (s.lane 2).interval = none ∧ (s.lane 2).window ≠ none) ∧
    laneMode .sound .recovering = .paired ∧ laneMode .sound .faulty = .singleA ∧ laneMode .faulty .recovering = .singleB ∧
    laneMode .faulty .faulty = .none := by decide +kernel

/-- Frames that pass the checks and whose payload its kind's reader rejects: a CLOSE of 5 bytes, an ANNOUNCE of kind 02h, a STATE without
its lanes; and the length of a kind that it takes. -/
theorem witness_UnreadPayloads :
    (∀ x ∈ [(FrameKind.close, 1000, [1#8, 2#8, 3#8, 4#8, 5#8]), (.announce, 213, [0x02#8]), (.state, 213, (shortState 213).payload.take 8),
        (.release, 1015, []), (.ceiling, 1000, [1#8]), (.orphanClear, 1000, [0#8, 212#8, 1#8, 0#8])],
      checkFrame (frameOf x.1 x.2.1 x.2.2) = some (receivedOf x.1 x.2.1 x.2.2) ∧
      (x.1 = .state → stateFrameOf (receivedOf x.1 x.2.1 x.2.2) = none) ∧ (x.1 = .announce → announceOf x.2.2 = none) ∧
      (x.1 = .close → closeOf x.2.2 = none) ∧ (x.1 = .release → releaseOf x.2.2 = none) ∧
      (x.1 = .ceiling → ceilingOf x.2.2 = none) ∧ (x.1 = .orphanClear → orphanClearOf x.2.2 = none)) ∧
    stateFrameOf ⟨.state, 213, 1#12, (shortState 213).payload⟩ = some (shortState 213) ∧
    (closeBytes 8#8 1#8 212 0#8).length = 11 := by decide +kernel

/-- A tombstone and a record in WAIT_CLEAR that a RELEASE of each gen finds, an anchor on each side of the station's part, a full table. -/
theorem witness_ReleaseOnEndedRecord :
    (∀ st ∈ [Stage.released, .waitClear], (withRecords [overdue 213 st]).closuresSound ∧
      (withRecords [overdue 213 st]).record 8 = some (overdue 213 st) ∧ (overdue 213 st).stage = st ∧ (overdue 213 st).gen = 1#8) ∧
    newerGen 2#8 1#8 = true ∧ newerGen 1#8 1#8 = false ∧ newerGen 0#8 1#8 = false ∧
    (∀ g ∈ [0#8, 1#8, 2#8], ∀ a ∈ [211, 213, 216],
      checkFrame (frameOf .release 1000 ([8#8, g] ++ bytes16 a)) = some (receivedOf .release 1000 ([8#8, g] ++ bytes16 a)) ∧
      releaseOf ([8#8, g] ++ bytes16 a) = some ⟨8, g, a⟩) ∧
    (station .run).record 8 = none ∧ 211 < (station .run).position ∧ (station .run).position + 3 < 216 ∧
    (let s := withRecords ([1#8, 2#8, 3#8, 4#8, 5#8, 6#8, 7#8, 9#8].map fun i => recordOf i 1#8 213 .setting);
      s.closuresSound ∧ s.record 8 = none ∧ 8 ≤ s.clt.records.length) := by
  unfold State.closuresSound; decide +kernel

/-- The legend module, ABSENT and READY, and a lane module, under an OWNED link and a HELD one; a record with a request. -/
theorem witness_ProofClasses :
    ((station .run).mod legendAddr).state = .absent ∧
    (∀ l ∈ [LinkState.owned, .held],
      let s := (withSlc fun x => { x with link := l }).setMod legendAddr { Module.reset with state := .ready }
      s.slc.link = l ∧ (s.mod legendAddr).state ≠ .absent ∧ (0 : Addr) ≠ legendAddr) ∧
    (let s := (station .run).place 0 ⟨.closed, .closure 8 212, .redX⟩;
      (0 : Addr) ∈ s.moduleAddrs ∧ ⟨.closed, .closure 8 212, .redX⟩ ∈ s.requestsOf 8 0 ∧ ProofClass.failed ∈ s.proofClasses 8) := by
  decide +kernel

/-- HOLDREQ drops in JOIN and RUN with every module ABSENT, and in STOPPED. -/
theorem witness_HoldreqDropped :
    ∀ st ∈ [StationState.join, .run, .stopped],
      let s : State := { station st with slc := { Slc.reset with holdReq := true, link := .held, holdAck := true } }
      s.slc.holdReq = true ∧ s.slc.link = .held ∧ s.stu.station = st ∧ (st = .stopped ∨ s.onBus = true) ∧
      ∀ a ∈ s.moduleAddrs, (s.mod a).state = .absent := by decide +kernel

/-! ### Witnesses: what every step keeps -/

/-- Station 212 in RUN, its outputs set, with a millisecond and a beat waiting. -/
def running : State := ((station .run).drive).withPending [.millisecondCounterIncrement (Per6.all ⟨.clear, .occupied⟩), .beat]

/-- No lane of it has a request at CLOSED. -/
theorem running_no_closed : ∀ l : Lane, ∀ q ∈ (running.display (laneAddr l)).row, q.level ≠ .closed := by decide +kernel

/-- A state and a command that completes meet the hypotheses of every statement about steps. -/
theorem witness_StepKeeps :
    (∃ t, step running = .next t) ∧ running.outputsFollow ∧ running.holdSafe ∧ running.bounded ∧ running.windowsSound ∧
    running.ringsSound ∧ running.crl.accessSound ∧ running.closuresSound ∧ running.ceilingsSound ∧ running.neighboursSound ∧
    running.targetWithin ∧ running.lanternFollows ∧ running.arrowsSafe ∧ running.crossesSafe ∧ running.queueSound ∧
    running.rowsSorted := by
  refine ⟨⟨_, rfl⟩, ?_, ?_, ?_, ?_, ?_, ?_, ?_, ?_, ?_, ?_, ?_, ⟨?_, ?_, ?_⟩, ⟨?_, ?_, ?_⟩, ?_, ?_⟩
  · unfold State.outputsFollow; decide +kernel
  · unfold State.holdSafe; decide +kernel
  · unfold State.bounded; decide +kernel
  · have h : ∀ l : Lane, (running.lane l).window = none := by decide +kernel
    intro l w hw; rw [h] at hw; cases hw
  · have h : ∀ l : Lane, (running.lane l).ring = [] := by decide +kernel
    intro l r hr; rw [h] at hr; cases hr
  · unfold Crl.accessSound; decide +kernel
  · unfold State.closuresSound; decide +kernel
  · unfold State.ceilingsSound; decide +kernel
  · unfold State.neighboursSound; decide +kernel
  · unfold State.targetWithin State.discoveryEnded; decide +kernel
  · unfold State.lanternFollows; decide +kernel
  · unfold State.noArrowIntoRed; decide +kernel
  · unfold State.holdSafe; decide +kernel
  · decide +kernel
  · intro l q hq hl; exact absurd hl (running_no_closed l q hq)
  · unfold State.closuresSound; decide +kernel
  · unfold State.anchorsNeverClear State.discoveryEnded; decide +kernel
  · unfold State.queueSound; decide +kernel
  · unfold State.rowsSorted; decide +kernel

end Sys2Proof.Tests
end

section
/-! The stages of a recomputation (R71, R83): the order of the speed set V, the least of a list of limits, and the candidate. -/

namespace Sys2Proof.Machine

/-! ### The order of the speed set V -/

theorem Limit.num_le_unlimited (l : Limit) : l.num ≤ Limit.unlimited.num := by
  cases l <;> decide

@[simp] theorem Limit.num_lower (a b : Limit) : (a.lower b).num = min a.num b.num := by
  unfold Limit.lower
  split <;> omega

theorem Limit.lower_eq_or (a b : Limit) : a.lower b = a ∨ a.lower b = b := by
  unfold Limit.lower
  split
  · exact .inl rfl
  · exact .inr rfl

@[simp] theorem Limit.lower_unlimited (l : Limit) : l.lower .unlimited = l := if_pos l.num_le_unlimited

/-! ### The least of a list of limits -/

@[simp] theorem leastLimit_nil : leastLimit [] = .unlimited := rfl

@[simp] theorem leastLimit_cons (l : Limit) (ls : List Limit) : leastLimit (l :: ls) = l.lower (leastLimit ls) := rfl

/-- NONE, the start of the fold, is the least of a list only where the list holds it. -/
theorem leastLimit_mem {ls : List Limit} (h : ls ≠ []) : leastLimit ls ∈ ls := by
  induction ls with
  | nil => exact absurd rfl h
  | cons l ls ih =>
    cases ls with
    | nil => simp
    | cons k ks =>
      rcases l.lower_eq_or (leastLimit (k :: ks)) with hl | hl
      · exact List.mem_cons.2 (.inl hl)
      · exact List.mem_cons_of_mem l (by rw [leastLimit_cons, hl]; exact ih (List.cons_ne_nil k ks))

/-! ### The candidate (R83) -/

section
variable (s : State)

theorem stageValues_c :
    s.stageValues.c = leastLimit [s.stageValues.l1, s.stageValues.lq, s.stageValues.lc, s.stageValues.lop] := rfl

theorem stageValues_c_num :
    s.stageValues.c.num = min (min s.stageValues.l1.num s.stageValues.lq.num)
      (min s.stageValues.lc.num s.stageValues.lop.num) := by
  rw [stageValues_c]
  simp only [leastLimit_cons, leastLimit_nil, Limit.lower_unlimited, Limit.num_lower, min_assoc]

theorem stageValues_c_mem :
    s.stageValues.c = s.stageValues.l1 ∨ s.stageValues.c = s.stageValues.lq ∨ s.stageValues.c = s.stageValues.lc ∨
      s.stageValues.c = s.stageValues.lop := by
  have h := leastLimit_mem (ls := [s.stageValues.l1, s.stageValues.lq, s.stageValues.lc, s.stageValues.lop]) (by simp)
  rw [← stageValues_c] at h
  simpa only [List.mem_cons, List.not_mem_nil, or_false] using h

/-- R71: an event recomputation keeps the stage values of the state it found. -/
theorem recompute_stages : s.recompute.spc.stages = some s.stageValues :=
  congrArg Spc.stages (recompute_spc s)

/-- R71: a window-end recomputation keeps the stage values of the state with the QUEUE flag evaluated. -/
theorem recomputeWindow_stages : s.recomputeWindow.spc.stages = some s.evaluateQueue.stageValues :=
  congrArg Spc.stages (recomputeWindow_spc s)

end

/-- R71: both kinds of recomputation leave the stage values of some state. -/
theorem stages_of_recomputation {s t : State} (h : t = s.recompute ∨ t = s.recomputeWindow) :
    ∃ u : State, t.spc.stages = some u.stageValues := by
  rcases h with h | h
  · exact ⟨s, by rw [h, recompute_stages]⟩
  · exact ⟨s.evaluateQueue, by rw [h, recomputeWindow_stages]⟩

/-- Settles O22: the stage values are formed in one way by both kinds of recomputation, and the candidate among them is the
least of the list of the four limits. -/
theorem candidateIsLeast : Obligations.CandidateIsLeast := by
  intro s t h
  obtain ⟨u, hu⟩ := stages_of_recomputation h
  exact ⟨u.stageValues, hu, stageValues_c_num u, stageValues_c_mem u⟩

end Sys2Proof.Machine
end

section
/-! R98: a CLOSE frame's fields put in form, and what becomes of a frame whose fields cannot be. -/

namespace Sys2Proof.Machine

/-! ### The fields in form -/

theorem firstLaneInForm_eq (first : Nat) : firstLaneInForm first = max 1 (min first 6) := by
  unfold firstLaneInForm
  split <;> omega

/-- A window is cut where it would reach past lane 6. -/
theorem widthInForm_eq {first : Nat} (h : 1 ≤ first) (w : Nat) :
    widthInForm first w = min (max 1 w) (7 - first) := by
  unfold widthInForm
  by_cases hw : w = 0
  · simp only [hw, if_true]
    split <;> omega
  · simp only [hw, if_false]
    split <;> omega

theorem leadInInForm_eq (count : Nat) : leadInInForm count = max 1 (min count 3) := by
  unfold leadInInForm
  split <;> omega

theorem leadSpeedInForm_num (kmh : Nat) :
    (leadSpeedInForm kmh).num = min 80 (quantise (if kmh = 0 then 120 else kmh)).num :=
  (Limit.num_lower ..).trans (Nat.min_comm ..)

namespace CloseFields
variable {f : CloseFields}

theorem inForm_eq_none_iff : f.inForm = none ↔ f.id = 0 ∨ f.anchor = 0 ∨ 1000 ≤ f.anchor := by
  unfold inForm
  split
  · simp [*]
  · split <;> simp [*]

/-- The closure of a CLOSE frame, its limits written as bounds. -/
theorem eq_of_inForm {c : Closure} (h : f.inForm = some c) :
    c = { id := f.id, gen := f.gen, anchor := f.anchor, firstLane := max 1 (min f.firstLane 6),
          width := min (max 1 f.width) (7 - max 1 (min f.firstLane 6)), leadIn := max 1 (min f.leadIn 3),
          leadSpeed := leadSpeedInForm f.leadSpeed, minutes := min f.duration 1440 } := by
  unfold inForm at h
  split at h
  · cases h
  · split at h
    · cases h
    · rw [firstLaneInForm_eq, widthInForm_eq (Nat.le_max_left ..), leadInInForm_eq] at h
      exact (Option.some.inj h).symm

end CloseFields

/-! ### A discarded frame -/

section
variable {s : State} {f : RxFrame} {r : Received}

theorem framingError_of_checkFrame (h : checkFrame f = some r) : f.framingError = false := by
  by_contra hf
  simp [checkFrame, hf] at h

/-- R189: the line is idle for 10 bit times after an accepted frame. -/
theorem lineAfter_of_checkFrame (h : checkFrame f = some r) :
    s.lineAfter f = { s with crl := { s.crl with receiver := .ready, idleBits := 10 } } := by
  simp [State.lineAfter, framingError_of_checkFrame h]

/-- R44: an accepted frame of the row's kind, where no age is left to tell, is handled after the line has been noted. -/
theorem receive_of_checkFrame (hbus : s.onBus = true) (hcalm : ∀ e ∈ s.nbt, e.gone = false ∧ e.newlyStale = false)
    (hf : checkFrame f = some r) :
    s.receive r.kind f =
      (State.takeFrame { s with crl := { s.crl with receiver := .ready, idleBits := 10 } } r).drive := by
  simp [State.receive, hbus, settleAges_calm hcalm, hf, lineAfter_of_checkFrame hf]

theorem takeFrame_close {c : CloseFields} (hk : r.kind = .close) (hc : closeOf r.payload = some c) :
    s.takeFrame r = s.takeClose c := by
  simp [State.takeFrame, hk, hc]

theorem takeClose_of_inForm_none {c : CloseFields} (h : c.inForm = none) : s.takeClose c = s := by
  simp [State.takeClose, h]

end

/-- Settles O28: the fields in form by their bounds; where none can be formed the frame leaves its mark on the line alone. -/
theorem closeFieldsInForm : Obligations.CloseFieldsInForm := by
  refine ⟨fun f => ⟨CloseFields.inForm_eq_none_iff, fun c hc => ?_⟩, fun s f r c hbus hcalm hf hk hc hbad => ?_⟩
  · obtain rfl := CloseFields.eq_of_inForm hc
    exact ⟨rfl, rfl, rfl, rfl, rfl, by dsimp only; omega, rfl, rfl, leadSpeedInForm_num _⟩
  · have hnone : c.inForm = none := CloseFields.inForm_eq_none_iff.2 hbad
    have hrun : exec (.closeReceived f) s = .next (s.receive .close f) := rfl
    rw [hrun, ← hk, receive_of_checkFrame hbus hcalm hf, takeFrame_close hk hc, takeClose_of_inForm_none hnone]

end Sys2Proof.Machine
end

section
/-! R108, R109: the arrow of a local lane by the lane's place in the window, and the DIVERT requests of a record. -/

namespace Sys2Proof.Machine

/-! ### The local lanes of a window (R99) -/

theorem allLanes_eq_finRange : allLanes = List.finRange 6 := by decide

theorem mem_allLanes (l : Lane) : l ∈ allLanes := by
  rw [allLanes_eq_finRange]
  exact List.mem_finRange l

theorem mem_localLanesOf {n first w : Nat} {l : Lane} :
    l ∈ localLanesOf n first w ↔ l.val < n ∧ first ≤ l.val + 1 ∧ l.val + 1 < first + w := by
  rw [localLanesOf, List.mem_filter, decide_eq_true_eq, and_iff_right (mem_allLanes l)]
  rfl

/-- The local lanes of a window that ends on the carriageway, written as a stretch of the lanes. -/
def windowLanes (first w : Nat) : List Lane := (allLanes.drop (first - 1)).take w

theorem windowLanes_length {first w : Nat} (h1 : 1 ≤ first) (h6 : first + w ≤ 7) : (windowLanes first w).length = w := by
  simp only [windowLanes, allLanes, List.length_take, List.length_drop, List.length_cons, List.length_nil]
  omega

theorem windowLanes_getElem {first w i : Nat} (h : i < (windowLanes first w).length) :
    ((windowLanes first w)[i]).val = first - 1 + i := by
  simp [windowLanes, allLanes_eq_finRange]

theorem allLanes_pairwise_lt : allLanes.Pairwise (· < ·) := by decide

theorem localLanesOf_eq_windowLanes {n first w : Nat} (hn : n ≤ 6) (h1 : 1 ≤ first) (hw : first + w ≤ n + 1) :
    localLanesOf n first w = windowLanes first w := by
  have hlen : (windowLanes first w).length = w := windowLanes_length h1 (by omega)
  refine List.Pairwise.eq_of_mem_iff (r := (· < ·)) (allLanes_pairwise_lt.filter _)
    ((allLanes_pairwise_lt.drop).take) fun l => ?_
  rw [mem_localLanesOf, List.mem_iff_getElem]
  constructor
  · rintro ⟨-, hf, hl⟩
    exact ⟨l.val + 1 - first, by omega, Fin.ext (by rw [windowLanes_getElem]; omega)⟩
  · rintro ⟨i, hi, rfl⟩
    rw [windowLanes_getElem hi]
    omega

/-- A lane's place among the local lanes, counted from the window's first lane. -/
theorem idxOf_localLanesOf {n first w : Nat} {l : Lane} (hn : n ≤ 6) (h1 : 1 ≤ first) (hw : first + w ≤ n + 1)
    (hl : l ∈ localLanesOf n first w) : (localLanesOf n first w).idxOf l = l.val + 1 - first := by
  have hnodup : (localLanesOf n first w).Nodup := (allLanes_pairwise_lt.imp ne_of_lt).filter _
  rw [localLanesOf_eq_windowLanes hn h1 hw] at hl hnodup ⊢
  obtain ⟨i, hi, rfl⟩ := List.mem_iff_getElem.1 hl
  rw [hnodup.idxOf_getElem i hi, windowLanes_getElem hi]
  omega

/-! ### The arrow of a local lane (R109) -/

section
variable {n first w : Nat} {l : Lane}

/-- Whether the window includes lane 1. -/
theorem any_first_localLanesOf (hl : l ∈ localLanesOf n first w) (h1 : 1 ≤ first) :
    ((localLanesOf n first w).any fun x => x.val == 0) = decide (first = 1) := by
  obtain ⟨hn, hf, hw⟩ := mem_localLanesOf.1 hl
  rw [Bool.eq_iff_iff, List.any_eq_true, decide_eq_true_eq]
  simp only [mem_localLanesOf, beq_iff_eq]
  constructor
  · rintro ⟨x, ⟨-, hx, -⟩, h0⟩
    omega
  · intro h
    exact ⟨0, by simp only [Fin.val_zero]; omega, rfl⟩

/-- Whether the window includes the last lane of the carriageway. -/
theorem any_last_localLanesOf (hl : l ∈ localLanesOf n first w) (h6 : n ≤ 6) :
    ((localLanesOf n first w).any fun x => x.val + 1 == n) = decide (n < first + w) := by
  obtain ⟨hn, hf, hw⟩ := mem_localLanesOf.1 hl
  rw [Bool.eq_iff_iff, List.any_eq_true, decide_eq_true_eq]
  simp only [mem_localLanesOf, beq_iff_eq]
  constructor
  · rintro ⟨x, ⟨-, -, hx⟩, hlast⟩
    omega
  · intro h
    exact ⟨⟨n - 1, by omega⟩, by dsimp only; omega, by dsimp only; omega⟩

theorem arrowOn_first (hl : l ∈ localLanesOf n 1 w) (h6 : n ≤ 6) (hw : w < n) :
    arrowOn n (localLanesOf n 1 w) l = .arrowR := by
  have hlast : ¬ n < 1 + w := by omega
  simp [arrowOn, any_first_localLanesOf hl le_rfl, any_last_localLanesOf hl h6, hlast]

theorem arrowOn_last (hl : l ∈ localLanesOf n first w) (h6 : n ≤ 6) (h1 : 1 < first) (hw : n < first + w) :
    arrowOn n (localLanesOf n first w) l = .arrowL := by
  simp [arrowOn, any_first_localLanesOf hl h1.le, any_last_localLanesOf hl h6, h1.ne', hw]

/-- A window between the outer lanes: the first half of its lanes, the centre lane included, leads to the left. -/
theorem arrowOn_inner (hl : l ∈ localLanesOf n first w) (h6 : n ≤ 6) (h1 : 1 < first) (hw : first + w ≤ n) :
    arrowOn n (localLanesOf n first w) l = if 2 * (l.val + 1 - first) < w then .arrowL else .arrowR := by
  have hlen : (localLanesOf n first w).length = w := by
    rw [localLanesOf_eq_windowLanes h6 h1.le (by omega), windowLanes_length h1.le (by omega)]
  have hhalf : l.val + 1 - first < ceilDiv w 2 ↔ 2 * (l.val + 1 - first) < w := by
    unfold ceilDiv
    omega
  simp [arrowOn, any_first_localLanesOf hl h1.le, any_last_localLanesOf hl h6, h1.ne', hw.not_gt,
    idxOf_localLanesOf h6 h1.le (by omega) hl, hlen, hhalf]

end

/-! ### The DIVERT requests of a request set (R108) -/

section
variable (n : Nat) {r : ClosureRecord} {x : Addr × Request}

/-- The legend's request stands at ROAD_CLOSED or LANE_CLOSED. -/
theorem legendRequest_level {q : Request} (h : q ∈ r.legendRequest) : q.level = .roadClosed ∨ q.level = .laneClosed := by
  unfold ClosureRecord.legendRequest at h
  split at h
  · obtain ⟨_, -, rfl⟩ := Option.map_eq_some_iff.1 h
    exact .inl rfl
  · split at h
    · cases h
    · cases h
    · cases h
      exact .inr rfl

/-- The DIVERT requests of a request set are among its lane requests. -/
theorem divert_mem_requestSet :
    (x ∈ r.requestSet n ∧ x.2.level = .divert) ↔ (x ∈ r.laneRequests n ∧ x.2.level = .divert) := by
  refine and_congr_left fun hx => ?_
  rw [ClosureRecord.requestSet, List.mem_append, or_iff_left]
  simp only [List.mem_map, Option.mem_toList]
  rintro ⟨q, hq, rfl⟩
  rcases legendRequest_level hq with h | h <;> rw [h] at hx <;> cases hx

theorem laneRequests_lead1 (hr : r.role = some .lead1) (hfull : r.fullClosure = false) :
    r.laneRequests n = r.localLanes.map fun l => (laneAddr l, ⟨.divert, r.source, arrowOn n r.localLanes l⟩) := by
  simp [ClosureRecord.laneRequests, hr, hfull]

/-- With FULL_CLOSURE the lanes of an AT record are CLOSED and no other role has lane requests. -/
theorem laneRequests_full_level (hfull : r.fullClosure = true) (h : x ∈ r.laneRequests n) : x.2.level = .closed := by
  unfold ClosureRecord.laneRequests at h
  split at h
  · obtain ⟨_, -, rfl⟩ := List.mem_map.1 h
    rfl
  · simp [hfull] at h
  · cases h

theorem requestSet_full_level (hfull : r.fullClosure = true) (h : x ∈ r.requestSet n) : x.2.level ≠ .divert := by
  intro hx
  have hlane := ((divert_mem_requestSet n).1 ⟨h, hx⟩).1
  cases hx.symm.trans (laneRequests_full_level n hfull hlane)

theorem divert_requestSet_lead1 (hr : r.role = some .lead1) (hfull : r.fullClosure = false) :
    (x ∈ r.requestSet n ∧ x.2.level = .divert) ↔
      ∃ l ∈ r.localLanes, x = (laneAddr l, ⟨.divert, r.source, arrowOn n r.localLanes l⟩) := by
  rw [divert_mem_requestSet, laneRequests_lead1 n hr hfull, List.mem_map]
  constructor
  · rintro ⟨⟨l, hl, rfl⟩, -⟩
    exact ⟨l, hl, rfl⟩
  · rintro ⟨l, hl, rfl⟩
    exact ⟨⟨l, hl, rfl⟩, rfl⟩

end

/-- Settles O29: the arrow by where the window lies, and the DIVERT requests of a record by its role and FULL_CLOSURE. -/
theorem arrowsLeadToOpenLanes : Obligations.ArrowsLeadToOpenLanes := by
  refine ⟨fun n first w _ h6 _ _ => ⟨fun l hl => ⟨fun h1 hw => ?_, fun h1 hw => ?_, fun h1 hw => ?_⟩,
    fun r hfull x hx => requestSet_full_level n hfull hx⟩, fun n r hr => ⟨fun hfull x hx => requestSet_full_level n hfull hx,
    fun hfull x => divert_requestSet_lead1 n hr hfull⟩⟩
  · subst h1
    exact arrowOn_first hl h6 hw
  · exact arrowOn_last hl h6 h1 hw
  · rw [arrowOn_inner hl h6 h1 hw]
    by_cases hhalf : 2 * (l.val + 1 - first) < w
    · simp [hhalf]
    · simp [hhalf, Nat.not_lt.1 hhalf]

end Sys2Proof.Machine
end

section
/-! R143: the arrow post-pass of an event. What `settle` leaves of a lane's winner, base winner and row, when an arrow is
blocked, and what the post-pass makes of a blocked one. -/

namespace Sys2Proof.Machine

/-! ### The change entries of an event leave all of a display but its ordered aspect (R146 to R148) -/

/-- `t` shows what `s` shows, ordered aspects apart. -/
structure SameButOrdered (s t : State) : Prop where
  display : ∀ a, ∃ x, t.display a = { s.display a with ordered := x }

theorem sameButOrdered_of_modules {s t : State} (h : t.asa.modules = s.asa.modules) : SameButOrdered s t :=
  ⟨fun a => ⟨(s.display a).ordered, congrArg (·.get a) h⟩⟩

theorem SameButOrdered.refl (s : State) : SameButOrdered s s := sameButOrdered_of_modules rfl

theorem SameButOrdered.trans {s t u : State} (h : SameButOrdered s t) (g : SameButOrdered t u) : SameButOrdered s u := by
  refine ⟨fun a => ?_⟩
  obtain ⟨x, hx⟩ := h.display a
  obtain ⟨y, hy⟩ := g.display a
  exact ⟨y, by rw [hy, hx]⟩

section
variable (s : State)

theorem setOrdered_sameButOrdered (a : Addr) (x : Aspect) :
    SameButOrdered s (s.setDisplay a { s.display a with ordered := x }) := by
  refine ⟨fun b => ?_⟩
  rw [display_setDisplay]
  split
  case isTrue h => exact ⟨x, by rw [h]⟩
  case isFalse => exact (SameButOrdered.refl s).display b

theorem orderAbsent_sameButOrdered (as : List Addr) : SameButOrdered s (s.orderAbsent as) := by
  refine foldl_keeps SameButOrdered .refl (fun _ _ _ => .trans) _ (fun s a => ?_) as s
  dsimp only
  split
  · exact setOrdered_sameButOrdered ..
  · exact .refl s

theorem orderEntries_sameButOrdered (es : List ChangeEntry) : SameButOrdered s (s.orderEntries es) :=
  foldl_keeps SameButOrdered .refl (fun _ _ _ => .trans) _ (fun _ _ => setOrdered_sameButOrdered ..) es s

theorem placeGroup_sameButOrdered (k : GroupKind) (es : List ChangeEntry) : SameButOrdered s (s.placeGroup k es) := by
  unfold State.placeGroup
  split
  · exact .refl s
  · exact sameButOrdered_of_modules rfl

theorem placeEntries_sameButOrdered (es : List ChangeEntry) : SameButOrdered s (s.placeEntries es) :=
  have hqueue : SameButOrdered s { s with asa := { s.asa with queue := removeUnsent (es.map ChangeEntry.addr) s.asa.queue } } :=
    sameButOrdered_of_modules rfl
  ((hqueue.trans (placeGroup_sameButOrdered ..)).trans (placeGroup_sameButOrdered ..)).trans
    (orderEntries_sameButOrdered ..)

theorem formEntries_sameButOrdered (as : List Addr) : SameButOrdered s (s.formEntries as) :=
  (orderAbsent_sameButOrdered s as).trans (placeEntries_sameButOrdered ..)

theorem settleTable_display (a : Addr) : s.settleTable.display a = s.settledDisplay a := Per8.get_build ..

/-- R138: after an event a module shows what the winners settled, its ordered aspect apart. -/
theorem settle_display (a : Addr) : ∃ x, s.settle.display a = { s.settledDisplay a with ordered := x } := by
  rw [← settleTable_display]
  exact (formEntries_sameButOrdered ..).display a

end

/-! ### A lane in use after an event -/

theorem addrLane_laneAddr (l : Lane) : addrLane (laneAddr l) = some l := dif_pos l.isLt

theorem laneOf_succ (l : Lane) : laneOf (l.val + 1) = some l := by
  revert l
  decide

section
variable {s : State} {l : Lane} (hl : l.val < s.lanes)
include hl

theorem settledDisplay_lane :
    s.settledDisplay (laneAddr l) =
      { (s.display (laneAddr l)).settle (s.mod (laneAddr l)) (postPass s.lanes s.baseWinners l) with
        row := enclosedRow (s.display (laneAddr l)).row (enclosedLane s.lanes s.baseWinners l)
        baseWinner := some (s.baseWinners.get l) } := by
  simp only [State.settledDisplay, addrLane_laneAddr, if_pos hl]

theorem settle_winner : (s.settle.display (laneAddr l)).winner = postPass s.lanes s.baseWinners l := by
  obtain ⟨x, hx⟩ := settle_display s (laneAddr l)
  rw [hx, settledDisplay_lane hl]
  rfl

theorem settle_row :
    (s.settle.display (laneAddr l)).row =
      enclosedRow (s.display (laneAddr l)).row (enclosedLane s.lanes s.baseWinners l) := by
  obtain ⟨x, hx⟩ := settle_display s (laneAddr l)
  rw [hx, settledDisplay_lane hl]

theorem settle_baseWinner : (s.settle.display (laneAddr l)).baseWinner = some (s.baseWinners.get l) := by
  obtain ⟨x, hx⟩ := settle_display s (laneAddr l)
  rw [hx, settledDisplay_lane hl]

end

/-- The base winner that the state shows for the lane in place `k`, counted from 0. -/
def State.baseAt (t : State) (k : Nat) : Option Aspect :=
  (laneOf (k + 1)).bind fun l => (t.display (laneAddr l)).baseWinner

theorem baseAt_settle {s : State} {l : Lane} (hl : l.val < s.lanes) :
    s.settle.baseAt l.val = some (s.baseWinners.get l) := by
  rw [State.baseAt, laneOf_succ, Option.bind_some, settle_baseWinner hl]

/-! ### Blocked arrows -/

section
variable {s : State} {l : Lane} (hl : l.val < s.lanes)
include hl

/-- ARROW_L points off the carriageway on lane 1, and else into the lane before. -/
theorem blocked_arrowL_iff :
    blocked s.lanes s.baseWinners l .arrowL = true ↔ l.val = 0 ∨ s.settle.baseAt (l.val - 1) = some .redX := by
  by_cases h0 : l.val = 0
  · simp [blocked, h0]
  · have hbase := baseAt_settle (s := s) (l := ⟨l.val - 1, by omega⟩) (by dsimp only; omega)
    dsimp only at hbase
    simp [blocked, h0, hbase]

/-- ARROW_R points off the carriageway on lane n, and else into the lane after. -/
theorem blocked_arrowR_iff (h6 : s.lanes ≤ 6) :
    blocked s.lanes s.baseWinners l .arrowR = true ↔ l.val + 1 = s.lanes ∨ s.settle.baseAt (l.val + 1) = some .redX := by
  by_cases hn : l.val + 1 = s.lanes
  · simp [blocked, hn]
  · have hin : l.val + 1 < s.lanes ∧ l.val + 1 < 6 := by omega
    have hbase := baseAt_settle (s := s) (l := ⟨l.val + 1, hin.2⟩) hin.1
    dsimp only at hbase
    simp [blocked, hn, hin, hbase]

end

/-! ### The post-pass and the row it leaves -/

theorem mem_insertRequest (r : Request) (row : List Request) : r ∈ insertRequest r row := by
  induction row with
  | nil => exact List.mem_singleton_self r
  | cons q rest ih =>
    unfold insertRequest
    split
    · exact List.mem_cons_self
    · exact List.mem_cons_of_mem q ih

theorem enclosedRow_true (row : List Request) : ⟨.closed, .enclosed, .redX⟩ ∈ enclosedRow row true :=
  mem_insertRequest ..

theorem enclosedRow_false {row : List Request} {q : Request} (hq : q ∈ enclosedRow row false) (hc : q.level = .closed) :
    q.source ≠ .enclosed := by
  intro hsrc
  have hkept := (List.mem_filter.1 hq).2
  simp [hc, hsrc] at hkept

section
variable {n : Nat} {bases : Per6 Aspect} {l : Lane}

theorem postPass_of_not_arrow (h : (bases.get l).isArrow = false) : postPass n bases l = bases.get l := by
  simp [postPass, h]

theorem enclosedLane_of_not_arrow (h : (bases.get l).isArrow = false) : enclosedLane n bases l = false := by
  simp [enclosedLane, h]

/-- R143: the own arrow where it is free, else the opposite one where that is free, else RED_X. -/
theorem postPass_of_arrow (h : (bases.get l).isArrow = true) :
    postPass n bases l =
      if blocked n bases l (bases.get l) = false then bases.get l
      else if blocked n bases l (bases.get l).flip = false then (bases.get l).flip
      else .redX := by
  simp [postPass, h]

theorem enclosedLane_of_arrow (h : (bases.get l).isArrow = true) :
    enclosedLane n bases l = (blocked n bases l (bases.get l) && blocked n bases l (bases.get l).flip) := by
  simp [enclosedLane, h]

end

section
variable {s : State} {l : Lane} {a : Aspect} (hl : l.val < s.lanes) (hbase : s.baseWinners.get l = a)
include hl hbase

/-- A lane without an arrow keeps its base winner and holds no ENCLOSED request. -/
theorem settle_of_not_arrow (ha : a.isArrow = false) :
    (s.settle.display (laneAddr l)).winner = a ∧
      ∀ q ∈ (s.settle.display (laneAddr l)).row, q.level = .closed → q.source ≠ .enclosed := by
  subst hbase
  rw [settle_winner hl, settle_row hl, postPass_of_not_arrow ha, enclosedLane_of_not_arrow ha]
  exact ⟨rfl, fun _ => enclosedRow_false⟩

/-- R143's table for one arrow, either of the two: `own` says that it is blocked, `opp` that its opposite is. -/
theorem settle_of_arrow (ha : a.isArrow = true) {own opp : Prop} (hown : blocked s.lanes s.baseWinners l a = true ↔ own)
    (hopp : blocked s.lanes s.baseWinners l a.flip = true ↔ opp) :
    (¬ own → (s.settle.display (laneAddr l)).winner = a) ∧
    (own → ¬ opp → (s.settle.display (laneAddr l)).winner = a.flip) ∧
    (own → opp → (s.settle.display (laneAddr l)).winner = .redX ∧
      ⟨.closed, .enclosed, .redX⟩ ∈ (s.settle.display (laneAddr l)).row) ∧
    (¬ (own ∧ opp) → ∀ q ∈ (s.settle.display (laneAddr l)).row, q.level = .closed → q.source ≠ .enclosed) := by
  subst hbase
  rw [settle_winner hl, settle_row hl, postPass_of_arrow ha, enclosedLane_of_arrow ha, ← hown, ← hopp]
  refine ⟨fun h => ?free, fun h g => ?flipped, fun h g => ?enclosed, fun h q hq => ?noRequest⟩
  case free => simp [h]
  case flipped => simp [h, g]
  case enclosed =>
    rw [h, g]
    exact ⟨rfl, enclosedRow_true _⟩
  case noRequest =>
    rw [← Bool.and_eq_true, Bool.not_eq_true] at h
    rw [h] at hq
    exact enclosedRow_false hq

end

/-- Settles O40: a lane's base winner, read back after the event, decides between the lane without an arrow and the table
of the two arrows; what blocks an arrow is read from the neighbours' base winners in the same way. -/
theorem arrowPostPass : Obligations.ArrowPostPass := by
  intro s h6 t base leftBlocked rightBlocked l hl w row
  have hshown : base l.val = some (s.baseWinners.get l) := baseAt_settle hl
  have hleft : blocked s.lanes s.baseWinners l .arrowL = true ↔ leftBlocked l := blocked_arrowL_iff hl
  have hright : blocked s.lanes s.baseWinners l .arrowR = true ↔ rightBlocked l := blocked_arrowR_iff hl h6
  rw [hshown]
  refine ⟨fun a ha hL hR => ?other, fun ha => ?arrowL, fun ha => ?arrowR⟩
  case other =>
    have hnot : a.isArrow = false := by simp [Aspect.isArrow, hL, hR]
    exact settle_of_not_arrow hl (Option.some.inj ha) hnot
  case arrowL => exact settle_of_arrow hl (Option.some.inj ha) rfl hleft hright
  case arrowR =>
    rw [and_comm (a := leftBlocked l)]
    exact settle_of_arrow hl (Option.some.inj ha) rfl hright hleft

end Sys2Proof.Machine
end

section
/-! What a command does, said once: each of the 47 commands is a reset, the release of a reset, or a run of the acts of
single blocks listed here. An invariant that every act keeps is kept by every step. -/

namespace Sys2Proof.Machine

open Relation (ReflTransGen)

/-! ### The Aspect Arbiter's acts -/

/-- The entries of a new group: by address, not yet sent. -/
def FreshEntries (es : List ChangeEntry) : Prop :=
  es.Pairwise (fun e f => e.addr < f.addr) ∧ ∀ e ∈ es, e.sent = false

/-- One act of the Aspect Arbiter. -/
inductive SignAct : State → State → Prop where
  | setSpc (s : State) (a : Addr) (lv : Level) (x : Option Aspect) (h : lv ≠ .closed) : SignAct s (s.setSpc a lv x)
  | settleTable (s : State) : SignAct s s.settleTable
  | order (s : State) (a : Addr) (x : Aspect) : SignAct s (s.setDisplay a { s.display a with ordered := x })
  | unqueue (s : State) (as : List Addr) : SignAct s { s with asa := { s.asa with queue := removeUnsent as s.asa.queue } }
  | placeGroup (s : State) (k : GroupKind) (es : List ChangeEntry) (h : FreshEntries es)
      (hfree : ∀ e ∈ es, s.entryWaits e.addr = false) : SignAct s (s.placeGroup k es)
  | leave (s : State) : SignAct s s.boundary
  | sendHead (s : State) (g : Group) (rest : List Group) (a : Addr) (h : s.asa.queue = g :: rest) :
      SignAct s { s with asa := { s.asa with queue := g.markSent a :: rest } }

/-- A run of the Aspect Arbiter's acts. -/
def SignRun : State → State → Prop := ReflTransGen SignAct

/-! ### The Corridor Link's acts -/

/-- One act of the Corridor Link, at a station's position. -/
inductive CrlAct (position : Nat) : Crl → Crl → Prop where
  | line (c : Crl) (r : Receiver) (n : Nat) : CrlAct position c { c with receiver := r, idleBits := n }
  | setClash (c : Crl) : CrlAct position c { c with clash := true, clashTimer := 0 }
  | clearClash (c : Crl) : CrlAct position c { c with clash := false, clashTimer := 0 }
  | oweFull (c : Crl) : CrlAct position c c.oweFull
  | beat (c : Crl) (es : List ClosureEntry) (f : TxFrame) :
      CrlAct position c (((c.beatStart.updateVersion es).countRepeat).hand f)
  | start (c : Crl) (hp : c.phase = .waitIdle) (hf : c.pendingFrame ≠ none) : CrlAct position c c.start
  | sent (c : Crl) (h : c.phase = .sending) : CrlAct position c { c.sentFrame with idleBits := 0 }
  | collide (c : Crl) (h : c.phase = .sending) : CrlAct position c { c.collide position with idleBits := 0 }
  | endBackoff (c : Crl) (h : c.phase = .backoff) : CrlAct position c c.endBackoff

/-! ### The Sign Link Controller's acts -/

/-- One act of the Sign Link Controller in a state. -/
inductive LinkAct (s : State) : Slc → Prop where
  | modules (m : Per8 Module) : LinkAct s { s.slc with modules := m }
  | round (r : Option (List Addr)) : LinkAct s { s.slc with round := r }
  | discovery (d : Option Discovery) (h : s.slc.discovery ≠ none ∨ s.onBus = false) :
      LinkAct s { s.slc with discovery := d }
  | start (t : Transaction) (hr : s.running = true) (hl : s.slc.link = .owned) :
      LinkAct s { s.slc with transaction := some t, retry := none }
  | finish : LinkAct s { s.slc with transaction := none }
  | miss (t r : Transaction) (h : s.slc.transaction = some t) :
      LinkAct s { s.slc with transaction := none, retry := some r }
  | grant (hp : s.slc.holdPending = true) (ht : s.slc.transaction = none) (hr : s.slc.retry = none) :
      LinkAct s { s.slc with link := .held, holdAck := true, holdPending := false }
  | request (hr : s.slc.holdReq = false) : LinkAct s { s.slc with holdReq := true }
  | requestStopped (hr : s.slc.holdReq = false) (hs : s.stu.station = .stopped) :
      LinkAct s { s.slc with holdReq := true, link := .held, holdAck := true }
  | requestPending (hr : s.slc.holdReq = false) (hs : s.running = true) (hl : s.slc.link = .owned) :
      LinkAct s { s.slc with holdReq := true, holdPending := true }
  | withdraw (hl : s.slc.link = .owned) : LinkAct s { s.slc with holdReq := false, holdPending := false }
  | giveBack (hl : s.slc.link = .held) :
      LinkAct s { s.slc with holdReq := false, holdPending := false, link := .owned, holdAck := false }

/-! ### The Closure Table's operations within one event -/

/-- One operation of an event of the Closure Table. -/
inductive WorkStep : Work → Work → Prop where
  | adopt (w : Work) (e : ClosureEntry) : WorkStep w (w.adopt e)
  | notice (w : Work) (k : Int) (id : Nat) : WorkStep w (w.notice k id)
  | prove (w : Work) (id : Nat) : WorkStep w (w.prove id)
  | drain (w : Work) (id : Nat) : WorkStep w (w.drain id)
  | offer (w : Work) (c : Closure) (b : Bool) : WorkStep w (w.offer c b)
  | takeRelease (w : Work) (f : ReleaseFields) : WorkStep w (w.takeRelease f)
  | dropOrphan (w : Work) (l : Lane) : WorkStep w { w with s := w.s.dropOrphan l }
  | absorb (w : Work) (os : List Lane) (id : Nat) : WorkStep w (w.absorb os id)
  | release (w : Work) (r : ClosureRecord) (h : w.s.record r.id = some r) : WorkStep w (w.release r)
  | bury (w : Work) (r : ClosureRecord) (h : w.s.record r.id = some r) : WorkStep w (w.bury r)
  | leadGo (w : Work) (r : ClosureRecord) (h : w.s.record r.id = some r) (hl : r.waitsForLead = true) :
      WorkStep w (w.leadGo r)
  | dropRecord (w : Work) (r : ClosureRecord) (h : w.s.record r.id = some r) (hl : r.live = false) :
      WorkStep w { w with s := w.s.dropRecord r.id }

/-- A run of operations of one event of the Closure Table. -/
def WorkRun : Work → Work → Prop := ReflTransGen WorkStep

/-! ### The end of discovery -/

/-- R85: SPC after stages 1 and 3 to 8 of an event recomputation, before its requests are reviewed. -/
def State.restage (s : State) : State :=
  { s with spc :=
    { s.spc.applyEvent s.stageValues.c2 with stages := some s.stageValues, isolatedDown := s.isolatedDownNow } }

/-- R86: the same of a window-end recomputation. -/
def State.restageWindow (s : State) : State :=
  { s.evaluateQueue with spc :=
    { s.evaluateQueue.spc.applyWindow s.evaluateQueue.stageValues.c2 s.evaluateQueue.msu.carriage.isSome with
      stages := some s.evaluateQueue.stageValues, isolatedDown := s.evaluateQueue.isolatedDownNow } }

/-- R70: SPC at the entry to JOIN, before its requests are reviewed. -/
def State.firstStages (s : State) : State :=
  { s with spc :=
    { s.spc with
      isolatedDown := !s.stu.straps.terminal
      stages := some { l1 := s.spc.target, d := none, lq := .unlimited, lc := .unlimited, lop := .unlimited,
                       c := s.spc.target, c2 := s.spc.target } } }

/-- One act of the end of discovery and the entry to JOIN. -/
inductive JoinAct : State → State → Prop where
  | sign {s t : State} (h : SignAct s t) : JoinAct s t
  | discovered (s : State) : JoinAct s { s with slc := { s.slc with discovery := none } }
  | takeOrdered (s : State) : JoinAct s s.takeOrdered
  | takeLitTarget (s : State) : JoinAct s s.takeLitTarget
  | setOrphans (s : State) (ls : List Lane) : JoinAct s { s with clt := { s.clt with orphans := ls } }
  | placeOrphan (s : State) (l : Lane) : JoinAct s (s.place (laneAddr l) ⟨.closed, .orphan l, .redX⟩)
  | startJoin (s : State) : JoinAct s s.startJoin
  | openWindows (s : State) : JoinAct s (s.openWindows true)
  | drive (s : State) : JoinAct s s.drive
  | firstStages (s : State) : JoinAct s s.firstStages

/-- A run of acts of the end of discovery. -/
def JoinRun : State → State → Prop := ReflTransGen JoinAct

/-! ### The acts of the part -/

/-- One act of the part. -/
inductive Act : State → State → Prop where
  | sign {s t : State} (h : SignAct s t) : Act s t
  | drive (s : State) : Act s s.drive
  | enterRun (s : State) (h : s.stu.station = .join) :
      Act s { s with stu := { s.stu with station := .run, joinTimer := none } }
  | tick (s : State) : Act s s.tick
  | sampleLoops (s : State) (x : LoopSample) : Act s (s.sampleLoops x)
  | edge (s : State) (e : Edge) : Act s ((s.recognise e).offerEdge e)
  | raiseFault (s : State) (l : Lane) (p : Loop) (k : FaultKind) : Act s (s.raiseFault l p k)
  | takeEdge (s : State) (e : Edge) (rest : List Edge) (h : s.lpi.queue = e :: rest) : Act s (s.takeEdge e rest)
  | endWindow (s : State) : Act s s.endWindow
  | restageWindow (s : State) (hb : s.onBus = true) : Act s s.restageWindow
  | crl (s : State) (c : Crl) (h : CrlAct s.position s.crl c) : Act s { s with crl := c }
  | putNeighbour (s : State) (e : Neighbour) (hb : s.onBus = true) (hr : s.inRange e.position = true) :
      Act s (s.putNeighbour e)
  | dropNeighbour (s : State) (p : Nat) : Act s (s.dropNeighbour p)
  | mapNeighbours (s : State) (f : Neighbour → Neighbour) (h : ∀ e, (f e).position = e.position) :
      Act s { s with nbt := s.nbt.map f }
  | restage (s : State) : Act s s.restage
  | installCeiling (s : State) (f : CeilingFields) (c : CeilingInForm) (cs : List Ceiling)
      (hf : f.inForm s.position = some c) (hc : ceilingsAfter c s.spc.ceilings = some cs) (hb : s.onBus = true) :
      Act s (State.restage { s with spc := { s.spc with ceilings := cs } })
  | dropCeiling (s : State) (id : Nat) :
      Act s (State.restage { s with spc := { s.spc with ceilings := s.spc.ceilings.filter fun c => c.id != id } })
  | unrefuse (s : State) (id : Nat) : Act s (s.unrefuse id)
  | closures (s : State) (w : Work) (h : WorkRun ⟨s, false⟩ w)
      (hb : s.onBus = true ∨ (s.clt.records = [] → w = ⟨s, false⟩)) :
      Act s (if w.tell then w.s.settle.restage else w.s.settle)
  | link (s : State) (x : Slc) (h : LinkAct s x) : Act s { s with slc := x }
  | endDiscovery (s : State) (h : s.slc.discovery ≠ none) : Act s s.endDiscovery
  | port (s : State) (m : Mpt) : Act s { s with mpt := m }
  | choose (s : State) (n : Nat) : Act s { s with choices := n }

/-- A run of acts. -/
def Run : State → State → Prop := ReflTransGen Act

theorem Run.one {s t : State} (h : Act s t) : Run s t := ReflTransGen.single h

theorem Run.trans {s t u : State} (h : Run s t) (g : Run t u) : Run s u := ReflTransGen.trans h g

theorem SignRun.trans {s t u : State} (h : SignRun s t) (g : SignRun t u) : SignRun s u := ReflTransGen.trans h g

theorem SignRun.run {s t : State} (h : SignRun s t) : Run s t := ReflTransGen.mono (fun _ _ => Act.sign) _ _ h

theorem SignRun.join {s t : State} (h : SignRun s t) : JoinRun s t := ReflTransGen.mono (fun _ _ => JoinAct.sign) _ _ h

/-- What every act of a run keeps, the run keeps. -/
theorem reflTransGen_keeps {α : Type} {R : α → α → Prop} {P : α → Prop} (step : ∀ a b, R a b → P a → P b) {a b : α}
    (h : ReflTransGen R a b) (ha : P a) : P b := by
  induction h with
  | refl => exact ha
  | tail _ hbc ih => exact step _ _ hbc ih

/-- A relation between the states before and after, kept by every act of a run. -/
theorem reflTransGen_rel {α : Type} {R S : α → α → Prop} (refl : ∀ a, S a a) (trans : ∀ a b c, S a b → S b c → S a c)
    (step : ∀ a b, R a b → S a b) {a b : α} (h : ReflTransGen R a b) : S a b := by
  induction h with
  | refl => exact refl a
  | tail _ hbc ih => exact trans _ _ _ ih (step _ _ hbc)

theorem reflTransGen_foldl {α β : Type} {R : β → β → Prop} (f : β → α → β) (h : ∀ b x, ReflTransGen R b (f b x))
    (xs : List α) (b : β) : ReflTransGen R b (xs.foldl f b) :=
  foldl_keeps (ReflTransGen R) (fun _ => .refl) (fun _ _ _ => .trans) f h xs b

end Sys2Proof.Machine
end

section
/-! What the Aspect Arbiter's events are made of: the entries of the change queue before and after a placement, and the runs of
acts that settle a batch, form entries and review SPC's requests. -/

namespace Sys2Proof.Machine

open Relation (ReflTransGen)

/-! ### The entries of the change queue (R148) -/

/-- All the entries that stand in a change queue, group after group. -/
def queueEntries (q : List Group) : List ChangeEntry := q.flatMap Group.entries

theorem entryWaits_iff {s : State} {a : Addr} :
    s.entryWaits a = true ↔ ∃ e ∈ queueEntries s.asa.queue, e.addr = a ∧ e.sent = false := by
  simp only [State.entryWaits, queueEntries, List.any_eq_true, List.mem_flatMap, Bool.and_eq_true, beq_iff_eq,
    Bool.not_eq_true']
  constructor
  · rintro ⟨g, hg, e, he, h⟩
    exact ⟨e, ⟨g, hg, he⟩, h⟩
  · rintro ⟨e, ⟨g, hg, he⟩, h⟩
    exact ⟨g, hg, e, he, h⟩

theorem insertEntry_perm (e : ChangeEntry) (es : List ChangeEntry) : (insertEntry e es).Perm (e :: es) := by
  induction es with
  | nil => exact .refl _
  | cons x rest ih =>
    unfold insertEntry
    split
    · exact .refl _
    · exact (ih.cons x).trans (.swap ..)

theorem mergeEntries_perm (new old : List ChangeEntry) : (mergeEntries new old).Perm (new ++ old) := by
  induction new with
  | nil => exact .refl _
  | cons e rest ih => exact (insertEntry_perm e _).trans (ih.cons e)

theorem mergeFirst_entries (es : List ChangeEntry) (q : List Group) :
    (queueEntries (mergeFirst es q)).Perm (es ++ queueEntries q) ∨ mergeFirst es q = q := by
  induction q with
  | nil => exact .inr rfl
  | cons g rest ih =>
    unfold mergeFirst
    split
    · refine ih.imp (fun h => ?_) fun h => by rw [h]
      simp only [queueEntries, List.flatMap_cons] at h ⊢
      exact (h.append_left g.entries).trans (by
        rw [← List.append_assoc, ← List.append_assoc]; exact List.perm_append_comm.append_right _)
    · left
      simp only [queueEntries, List.flatMap_cons, ← List.append_assoc]
      exact (mergeEntries_perm ..).append_right _

theorem mergeLast_entries (es : List ChangeEntry) (q : List Group) :
    (queueEntries (mergeLast es q)).Perm (es ++ queueEntries q) ∨ mergeLast es q = q := by
  unfold mergeLast
  split
  case h_1 g rest hq =>
    split
    · exact .inr rfl
    · left
      obtain rfl : q = rest.reverse ++ [g] := by rw [← List.reverse_reverse q, hq, List.reverse_cons]
      simp only [queueEntries, List.reverse_cons, List.flatMap_append, List.flatMap_singleton]
      refine ((mergeEntries_perm es g.entries).append_left _).trans ?_
      rw [← List.append_assoc, ← List.append_assoc]
      exact List.perm_append_comm.append_right _
  case h_2 => exact .inr rfl

theorem placeUrgent_entries (g : Group) (q : List Group) :
    (queueEntries (placeUrgent g q)).Perm (g.entries ++ queueEntries q) ∨ placeUrgent g q = q := by
  unfold placeUrgent
  split
  · left
    split
    · split
      · simp only [queueEntries, List.flatMap_cons, ← List.append_assoc]
        exact List.perm_append_comm.append_right _
      · exact .refl _
    · exact .refl _
  · exact mergeFirst_entries ..

theorem placeNormal_entries (g : Group) (q : List Group) :
    (queueEntries (placeNormal g q)).Perm (g.entries ++ queueEntries q) ∨ placeNormal g q = q := by
  unfold placeNormal
  split
  · left
    simp only [queueEntries, List.flatMap_append, List.flatMap_singleton]
    exact List.perm_append_comm
  · exact mergeLast_entries ..

/-- R148: a placed group's entries join those of the queue, unless a full queue has no group to take them. -/
theorem placeGroup_entries (s : State) (k : GroupKind) (es : List ChangeEntry) :
    (queueEntries (s.placeGroup k es).asa.queue).Perm (es ++ queueEntries s.asa.queue) ∨
      (s.placeGroup k es).asa.queue = s.asa.queue := by
  unfold State.placeGroup
  split
  · exact .inr rfl
  · cases k
    · exact placeUrgent_entries _ _
    · exact placeNormal_entries _ _

theorem placeGroup_entryWaits {s : State} {k : GroupKind} {es : List ChangeEntry} {a : Addr}
    (hs : s.entryWaits a = false) (hes : ∀ e ∈ es, e.addr ≠ a) : (s.placeGroup k es).entryWaits a = false := by
  rw [Bool.eq_false_iff, Ne, entryWaits_iff] at hs ⊢
  rintro ⟨e, he, ha, hsent⟩
  rcases placeGroup_entries s k es with h | h
  · rcases List.mem_append.1 (h.mem_iff.1 he) with hin | hin
    · exact hes e hin ha
    · exact hs ⟨e, hin, ha, hsent⟩
  · exact hs ⟨e, h ▸ he, ha, hsent⟩

/-- R148, step 1: what is left in the queue by a removal. -/
theorem mem_queueEntries_removeUnsent {as : List Addr} {q : List Group} {e : ChangeEntry}
    (h : e ∈ queueEntries (removeUnsent as q)) : e ∈ queueEntries q ∧ (e.sent = true ∨ e.addr ∉ as) := by
  simp only [queueEntries, removeUnsent, dropUnsent, List.mem_flatMap, List.mem_filter, List.mem_map] at h ⊢
  obtain ⟨_, ⟨⟨g, hg, rfl⟩, -⟩, he⟩ := h
  obtain ⟨hin, hkeep⟩ := List.mem_filter.1 he
  exact ⟨⟨g, hg, hin⟩, by simpa using hkeep⟩

theorem removeUnsent_entryWaits {s : State} {as : List Addr} {a : Addr} (ha : a ∈ as) :
    State.entryWaits { s with asa := { s.asa with queue := removeUnsent as s.asa.queue } } a = false := by
  rw [Bool.eq_false_iff, Ne, entryWaits_iff]
  rintro ⟨e, he, rfl, hsent⟩
  rcases (mem_queueEntries_removeUnsent he).2 with h | h
  · rw [h] at hsent; cases hsent
  · exact h ha

/-! ### Entries in order -/

theorem FreshEntries.filter {es : List ChangeEntry} (h : FreshEntries es) (p : ChangeEntry → Bool) :
    FreshEntries (es.filter p) :=
  ⟨h.1.filter p, fun e he => h.2 e (List.mem_of_mem_filter he)⟩

theorem FreshEntries.addr_nodup {es : List ChangeEntry} (h : FreshEntries es) : (es.map ChangeEntry.addr).Nodup :=
  List.pairwise_map.2 (h.1.imp ne_of_lt)

theorem FreshEntries.addr_inj {es : List ChangeEntry} (h : FreshEntries es) {e f : ChangeEntry} (he : e ∈ es) (hf : f ∈ es)
    (hef : e.addr = f.addr) : e = f :=
  List.inj_on_of_nodup_map h.addr_nodup he hf hef

theorem freshEntries_singleton (e : ChangeEntry) (h : e.sent = false) : FreshEntries [e] :=
  ⟨List.pairwise_singleton .., fun x hx => by obtain rfl := List.mem_singleton.1 hx; exact h⟩

/-- Entries formed module after module stand in the order of the modules. -/
theorem freshEntries_filterMap {f : Addr → Option ChangeEntry} {as : List Addr} (hs : as.Pairwise (· < ·))
    (hf : ∀ a e, f a = some e → e.addr = a ∧ e.sent = false) : FreshEntries (as.filterMap f) := by
  refine ⟨?_, fun e he => ?_⟩
  · refine List.Pairwise.filterMap f (fun a b hab e he g hg => ?_) hs
    rw [(hf a e he).1, (hf b g hg).1]
    exact hab
  · obtain ⟨a, -, ha⟩ := List.mem_filterMap.1 he
    exact (hf a e ha).2

section
variable {s : State}

theorem changeEntry_addr {a : Addr} {e : ChangeEntry} (h : s.changeEntry a = some e) : e.addr = a ∧ e.sent = false := by
  unfold State.changeEntry at h
  dsimp only at h
  split at h
  · cases h
  · split at h
    · cases h
    · cases h; exact ⟨rfl, rfl⟩

theorem resyncEntry_addr {a : Addr} {e : ChangeEntry} (h : s.resyncEntry a = some e) : e.addr = a ∧ e.sent = false := by
  unfold State.resyncEntry at h
  dsimp only at h
  split at h
  · split at h
    · split at h
      · cases h
      · cases h; exact ⟨rfl, rfl⟩
    · cases h
  · cases h

theorem moduleAddrs_pairwise : s.moduleAddrs.Pairwise (· < ·) := by
  have hlanes : (s.lanesInUse.map laneAddr).Pairwise (· < ·) :=
    List.Pairwise.map laneAddr (fun a b h => h) (allLanes_pairwise_lt.filter _)
  refine List.pairwise_append.2 ⟨hlanes, by decide, fun a ha b hb => ?_⟩
  obtain ⟨l, -, rfl⟩ := List.mem_map.1 ha
  have hl : (laneAddr l).val < 6 := l.isLt
  have hb6 : 6 ≤ b.val := by
    rcases List.mem_cons.1 hb with rfl | hb
    · decide
    · obtain rfl := List.mem_singleton.1 hb; decide
  exact Fin.lt_def.2 (by omega)

end

/-! ### Runs of the Aspect Arbiter -/

section
variable (s : State)

theorem orderEntries_run (es : List ChangeEntry) : SignRun s (s.orderEntries es) :=
  reflTransGen_foldl _ (fun _ _ => .single (.order ..)) es s

theorem placeEntries_run {es : List ChangeEntry} (h : FreshEntries es) : SignRun s (s.placeEntries es) := by
  have hfree : ∀ e ∈ es, State.entryWaits
      { s with asa := { s.asa with queue := removeUnsent (es.map ChangeEntry.addr) s.asa.queue } } e.addr = false :=
    fun e he => removeUnsent_entryWaits (List.mem_map_of_mem he)
  refine (ReflTransGen.single (SignAct.unqueue s (es.map ChangeEntry.addr))).trans
    ((ReflTransGen.single (SignAct.placeGroup _ .urgent _ (h.filter s.isUrgent) fun e he =>
      hfree e (List.mem_of_mem_filter he))).trans
    ((ReflTransGen.single (SignAct.placeGroup _ .normal _ (h.filter fun e => !s.isUrgent e) fun e he =>
      placeGroup_entryWaits (hfree e (List.mem_of_mem_filter he)) fun f hf hfe => ?_)).trans (orderEntries_run _ es)))
  obtain ⟨he, hne⟩ := List.mem_filter.1 he
  obtain ⟨hf, hu⟩ := List.mem_filter.1 hf
  rw [h.addr_inj hf he hfe, (Bool.not_eq_true' _).mp hne] at hu
  cases hu

theorem orderAbsent_run (as : List Addr) : SignRun s (s.orderAbsent as) := by
  refine reflTransGen_foldl _ (fun s a => ?_) as s
  dsimp only
  split
  · exact .single (.order ..)
  · exact .refl

theorem formEntries_run {as : List Addr} (h : as.Pairwise (· < ·)) : SignRun s (s.formEntries as) :=
  (orderAbsent_run s as).trans (placeEntries_run _ (freshEntries_filterMap h fun _ _ => changeEntry_addr))

theorem settle_run : SignRun s s.settle :=
  (ReflTransGen.single (SignAct.settleTable s)).trans (formEntries_run _ (moduleAddrs_pairwise.filter _))

theorem enterRunAsa_run : SignRun s s.enterRunAsa := formEntries_run s moduleAddrs_pairwise

theorem moduleRecoveredAsa_run (a : Addr) : SignRun s (s.moduleRecoveredAsa a) :=
  formEntries_run s (List.pairwise_singleton ..)

theorem moduleAnsweredAsa_run (a : Addr) : SignRun s (s.moduleAnsweredAsa a) :=
  (ReflTransGen.single (SignAct.settleTable s)).trans (placeEntries_run _ (freshEntries_singleton _ rfl))

theorem resync_run : SignRun s s.resync :=
  (ReflTransGen.single (SignAct.unqueue s ((s.moduleAddrs.filterMap s.resyncEntry).map ChangeEntry.addr))).trans
    (ReflTransGen.single (SignAct.placeGroup _ _ _
      (freshEntries_filterMap moduleAddrs_pairwise fun _ _ => resyncEntry_addr) fun _ he =>
        removeUnsent_entryWaits (List.mem_map_of_mem he)))

theorem setEnd_run : SignRun s s.setEnd := reflTransGen_foldl _ (fun _ _ => .single (.setSpc _ _ _ _ (by decide))) _ s

theorem setSpeed_run : SignRun s s.setSpeed := reflTransGen_foldl _ (fun _ _ => .single (.setSpc _ _ _ _ (by decide))) _ s

theorem setLegends_run : SignRun s s.setLegends :=
  (ReflTransGen.single (SignAct.setSpc _ _ _ _ (by decide))).trans (.single (.setSpc _ _ _ _ (by decide)))

theorem reviewRequests_run : SignRun s s.reviewRequests :=
  (((setSpeed_run s).trans (setEnd_run _)).trans (setLegends_run _)).trans (settle_run _)

theorem reviewEnd_run : SignRun s s.reviewEnd := (setEnd_run s).trans (settle_run _)

end

end Sys2Proof.Machine
end

section
/-! What each command is made of: a reset, the release of a reset, or a run of acts. -/

namespace Sys2Proof.Machine

open Relation (ReflTransGen)

/-! ### Recomputations, notices and events of the Closure Table -/

section
variable (s : State)

theorem recompute_run : Run s s.recompute := (Run.one (.restage s)).trans (reviewRequests_run _).run

variable {s} in
theorem recomputeWindow_run (hb : s.onBus = true) : Run s s.recomputeWindow :=
  (Run.one (.restageWindow s hb)).trans (reviewRequests_run _).run

theorem noticeSpeed_run (p : Nat) (n : Notices) : Run s (s.noticeSpeed p n) := by
  unfold State.noticeSpeed
  split
  · split
    · exact recompute_run s
    · exact .refl
  · split
    · exact (reviewEnd_run s).run
    · exact .refl

theorem closureEvent_run {f : Work → Work} (h : WorkRun ⟨s, false⟩ (f ⟨s, false⟩))
    (hb : s.onBus = true ∨ (s.clt.records = [] → f ⟨s, false⟩ = ⟨s, false⟩)) : Run s (s.closureEvent f) := by
  have hact := Run.one (Act.closures s _ h hb)
  unfold State.closureEvent
  dsimp only
  split
  case isTrue ht =>
    rw [if_pos ht] at hact
    exact hact.trans (reviewRequests_run _).run
  case isFalse hf =>
    rw [if_neg hf] at hact
    exact hact

theorem onBus_of_station {t : State} (h : t.stu.station = s.stu.station) : t.onBus = s.onBus := by
  unfold State.onBus; rw [h]

variable {s} in
theorem noticeClosure_run (hb : s.onBus = true) (p : Nat) (n : Notices) (es : List ClosureEntry) :
    Run s (s.noticeClosure p n es) := by
  unfold State.noticeClosure
  split
  · exact closureEvent_run s ((reflTransGen_foldl _ (fun _ _ => .single (.adopt ..)) es _).trans
      (reflTransGen_foldl _ (fun _ _ => .single (.notice ..)) _ _)) (.inl hb)
  · exact .refl

variable {s} in
theorem tell_run (hb : s.onBus = true) (p : Nat) (n : Notices) (es : List ClosureEntry) : Run s (s.tell p n es) :=
  (noticeSpeed_run s p n).trans
    (noticeClosure_run ((onBus_of_station s (congrArg _ (noticeSpeed_same s p n).stu)).trans hb) p n es)

theorem reviewProof_run : Run s s.reviewProof :=
  closureEvent_run s (reflTransGen_foldl _ (fun _ _ => (ReflTransGen.single (.prove ..)).trans (.single (.drain ..))) _ _)
    (.inr fun h => by simp [State.recordIds, h])

variable {s} in
theorem orphanEvent_run (hb : s.onBus = true) : Run s s.orphanEvent :=
  closureEvent_run s (reflTransGen_foldl _ (fun _ _ => .single (.absorb ..)) _ _) (.inl hb)

theorem record_id {id : Nat} {r : ClosureRecord} (h : s.record id = some r) : r.id = id := by
  have := List.find?_some h
  simpa using this

theorem expire_run {id : Nat} {due : ClosureRecord → Bool} {f : Work → ClosureRecord → Work}
    (h : ∀ w r, w.s.record r.id = some r → due r = true → WorkRun w (f w r)) : Run s (s.expire id due f) := by
  unfold State.expire
  split
  case h_1 r hr =>
    split
    case isTrue hd =>
      refine (closureEvent_run s (h ⟨s, false⟩ r ?_ hd.2) (.inl hd.1)).trans (.one (.drive _))
      rw [record_id s hr]
      exact hr
    case isFalse => exact .refl
  case h_2 => exact .refl

/-! ### Ages -/

section
variable {s}

theorem removeEntry_run (hb : s.onBus = true) (p : Nat) : Run s (s.removeEntry p) :=
  (Run.one (.dropNeighbour s p)).trans (tell_run (s := s.dropNeighbour p) hb ..)

theorem tellStale_run (hb : s.onBus = true) (p : Nat) : Run s (s.tellStale p) := by
  have hmap := Run.one (.mapNeighbours s (fun e => if e.position = p then e.toldStale else e) fun e => by split <;> rfl)
  refine hmap.trans (tell_run ?_ _ _ _)
  exact hb

theorem settleAge_run (hb : s.onBus = true) (e : Neighbour) : Run s (s.settleAge e) := by
  unfold State.settleAge
  split
  · exact (removeEntry_run hb _).trans (.one (.drive _))
  · split
    · exact (tellStale_run hb _).trans (.one (.drive _))
    · exact .refl

end

theorem removeEntry_stu (p : Nat) : (s.removeEntry p).stu = s.stu := (tell_same (s.dropNeighbour p) ..).stu

theorem tellStale_stu (p : Nat) : (s.tellStale p).stu = s.stu := (tell_same { s with nbt := _ } ..).stu

theorem settleAge_station (e : Neighbour) : (s.settleAge e).stu.station = s.stu.station := by
  unfold State.settleAge
  split
  · rw [drive_station, removeEntry_stu]
  · split
    · rw [drive_station, tellStale_stu]
    · rfl

theorem settleAges_station : s.settleAges.stu.station = s.stu.station :=
  foldl_keeps (fun a b : State => b.stu.station = a.stu.station) (fun _ => rfl) (fun _ _ _ h g => g.trans h) _
    settleAge_station _ s

variable {s} in
theorem settleAges_run (hb : s.onBus = true) : Run s s.settleAges := by
  unfold State.settleAges
  generalize s.nbt = es
  induction es generalizing s with
  | nil => exact .refl
  | cons e es ih =>
    exact (settleAge_run hb e).trans (ih ((onBus_of_station s (settleAge_station s e)).trans hb))

theorem clearClash_run : Run s s.clearClash := by
  unfold State.clearClash
  split
  · exact .one (.crl s _ (.clearClash _))
  · exact .refl

variable {s} in
theorem beat_run (hb : s.onBus = true) : Run s s.beat :=
  (((settleAges_run hb).trans (clearClash_run _)).trans (.one (.crl _ _ (.beat _ _ _)))).trans
    (.one (.mapNeighbours _ Neighbour.aged fun _ => rfl))

/-! ### Reception -/

theorem lineAfter_run (f : RxFrame) : Run s (s.lineAfter f) := .one (.crl s _ (.line _ _ _))

theorem entryFor_position {p : Nat} {e : Neighbour} (h : s.entryFor p = some e) : e.position = p := by
  have := List.find?_some h
  simp only [Bool.and_eq_true, beq_iff_eq] at this
  exact this.1

variable {s} in
theorem arrive_run (hb : s.onBus = true) (f : StateFrame) : Run s (s.arrive f) := by
  unfold State.arrive
  split
  case isTrue hr =>
    dsimp only
    split
    · exact .refl
    · exact (Run.one (.putNeighbour s _ hb hr)).trans (tell_run (s := s.putNeighbour _) hb ..)
  case isFalse => exact .refl

theorem setClash_run : Run s s.setClash := .one (.crl s _ (.setClash _))

variable {s} in
theorem takeState_run (hb : s.onBus = true) (f : StateFrame) : Run s (s.takeState f) := by
  unfold State.takeState
  split
  · exact setClash_run s
  · exact arrive_run hb f

variable {s} in
theorem announceEntry_run {p : Nat} (hb : s.onBus = true) (hr : s.inRange p = true) (k : RestartKind) :
    Run s (s.announceEntry p k) := by
  unfold State.announceEntry
  split
  case h_1 => exact .refl
  case h_2 old hold =>
    have hr' : s.inRange (old.announced k).position = true := by
      rw [show (old.announced k).position = old.position from rfl, entryFor_position s hold]
      exact hr
    exact (Run.one (.putNeighbour s _ hb hr')).trans (tell_run (s := s.putNeighbour _) hb ..)

variable {s} in
theorem takeAnnounce_run (hb : s.onBus = true) (p : Nat) (k : RestartKind) : Run s (s.takeAnnounce p k) := by
  unfold State.takeAnnounce
  split
  · exact setClash_run s
  · split
    case isTrue hr =>
      exact (Run.one (.crl s _ (.oweFull _))).trans (announceEntry_run (s := { s with crl := s.crl.oweFull }) hb hr k)
    case isFalse => exact .refl

variable {s} in
theorem takeClose_run (hb : s.onBus = true) (f : CloseFields) : Run s (s.takeClose f) := by
  unfold State.takeClose
  split
  · exact .refl
  · exact closureEvent_run s (.single (.offer ..)) (.inl hb)

variable {s} in
theorem takeRelease_run (hb : s.onBus = true) (f : ReleaseFields) : Run s (s.takeRelease f) :=
  closureEvent_run s (.single (.takeRelease ..)) (.inl hb)

variable {s} in
theorem takeCeiling_run (hb : s.onBus = true) (f : CeilingFields) : Run s (s.takeCeiling f) := by
  unfold State.takeCeiling
  split
  case h_1 => exact .refl
  case h_2 c hf =>
    split
    case h_1 => exact .refl
    case h_2 cs hc => exact (Run.one (.installCeiling s f c cs hf hc hb)).trans (reviewRequests_run _).run

variable {s} in
theorem takeOrphanClear_run (hb : s.onBus = true) (p l : Nat) : Run s (s.takeOrphanClear p l) := by
  unfold State.takeOrphanClear
  split
  · split
    · split
      · exact closureEvent_run s (.single (.dropOrphan ..)) (.inl hb)
      · exact .refl
    · exact .refl
  · exact .refl

variable {s} in
theorem takeFrame_run (hb : s.onBus = true) (r : Received) : Run s (s.takeFrame r) := by
  unfold State.takeFrame
  cases r.kind <;> dsimp only
  case state => cases stateFrameOf r with
    | none => exact .refl
    | some f => exact takeState_run hb f
  case announce => cases announceOf r.payload with
    | none => exact .refl
    | some k => exact takeAnnounce_run hb _ k
  case close => cases closeOf r.payload with
    | none => exact .refl
    | some f => exact takeClose_run hb f
  case release => cases releaseOf r.payload with
    | none => exact .refl
    | some f => exact takeRelease_run hb f
  case ceiling => cases ceilingOf r.payload with
    | none => exact .refl
    | some f => exact takeCeiling_run hb f
  case orphanClear => cases orphanClearOf r.payload with
    | none => exact .refl
    | some p => exact takeOrphanClear_run hb _ _

theorem receive_run (k : FrameKind) (f : RxFrame) : Run s (s.receive k f) := by
  unfold State.receive
  split
  case isTrue hb =>
    dsimp only
    refine (((settleAges_run hb).trans (lineAfter_run _ f)).trans ?_).trans (.one (.drive _))
    have hb' : (s.settleAges.lineAfter f).onBus = true :=
      (onBus_of_station s (t := s.settleAges.lineAfter f) (settleAges_station s)).trans hb
    split
    · split
      · exact takeFrame_run hb' _
      · exact .refl
    · exact .refl
  case isFalse => exact .refl

/-! ### The end of discovery -/

theorem closureEvent_untold (t : State) : s.closureEvent (fun w => { w with s := t }) = t.settle := rfl

theorem seedOrphans_run : JoinRun s s.seedOrphans := by
  unfold State.seedOrphans
  dsimp only
  generalize s.lanesInUse.filter _ = ls
  refine (ReflTransGen.single (.setOrphans s ls)).trans (.trans ?_ (settle_run _).join)
  dsimp only
  rw [State.placeAll, List.foldl_map]
  exact reflTransGen_foldl _ (fun _ _ => .single (.placeOrphan ..)) _ _

theorem startSpeed_run : JoinRun s s.startSpeed :=
  (ReflTransGen.single (.firstStages s)).trans (reviewRequests_run _).join

theorem enterJoin_run : JoinRun s s.enterJoin :=
  (ReflTransGen.single (.startJoin s)).trans ((ReflTransGen.single (.openWindows _)).trans
    ((ReflTransGen.single (.drive _)).trans (startSpeed_run _)))

/-- R181: what follows the end of discovery itself. -/
theorem afterDiscovery_run : JoinRun { s with slc := { s.slc with discovery := none } } s.endDiscovery := by
  refine (ReflTransGen.single (.takeOrdered _)).trans (.trans ?_ ((enterJoin_run _).trans (.single (.drive _))))
  split
  · exact .refl
  · exact (ReflTransGen.single (.takeLitTarget _)).trans (seedOrphans_run _)

theorem endDiscovery_run : JoinRun s s.endDiscovery :=
  (ReflTransGen.single (.discovered s)).trans (afterDiscovery_run s)

/-! ### The starts of transactions -/

theorem setMod_run (a : Addr) (m : Module) : Run s (s.setMod a m) := .one (.link s _ (.modules _))

theorem boundary_run : Run s s.boundary := .one (.sign (.leave s))

/-- R159: the state at a boundary at which a transaction can start. -/
structure State.freeLine (s : State) : Prop where
  running : s.running = true
  owned : s.slc.link = .owned
  free : s.slc.transaction = none

variable {s} in
theorem startTxn_run (h : s.freeLine) (t : Transaction) : Run s (s.startTxn t) :=
  (setMod_run s _ _).trans (.one (.link _ _ (.start t h.running h.owned)))

variable {s} in
theorem startSet_run (h : s.freeLine) : Run s (s.startSet.getD s) := by
  unfold State.startSet
  split
  case h_1 => exact .refl
  case h_2 g rest hq =>
    cases g.nextEntry with
    | none => exact .refl
    | some e =>
      have hf : State.freeLine { s with asa := { s.asa with queue := g.markSent e.addr :: rest } } :=
        ⟨h.running, h.owned, h.free⟩
      exact (Run.one (.sign (.sendHead s g rest e.addr hq))).trans (startTxn_run hf _)

variable {s} in
theorem startPoll_run (h : s.freeLine) (a : Addr) : Run s (s.startPoll a) :=
  (setMod_run s _ _).trans (startTxn_run (s := s.setMod _ _) ⟨h.running, h.owned, h.free⟩ _)

variable {s} in
theorem startIdent_run (h : s.freeLine) (a : Addr) : Run s (s.startIdent a) :=
  (setMod_run s _ _).trans (startTxn_run (s := s.setMod _ _) ⟨h.running, h.owned, h.free⟩ _)

variable {s} in
theorem startRefresh_run (h : s.freeLine) (a : Addr) : Run s (s.startRefresh a) :=
  (setMod_run s _ _).trans (startTxn_run (s := s.setMod _ _) ⟨h.running, h.owned, h.free⟩ _)

variable {s} in
/-- A free choice changes the count of choices alone. -/
theorem pick_eq {as : List Addr} {a : Addr} {t : State} (h : s.pick as = some (a, t)) : ∃ n, t = { s with choices := n } := by
  unfold State.pick at h
  split at h
  · cases h
  · cases h; exact ⟨s.choices, rfl⟩
  · cases h; exact ⟨_, rfl⟩

variable {s} in
theorem pick_run {as : List Addr} {a : Addr} {t : State} (h : s.freeLine) (hp : s.pick as = some (a, t)) :
    Run s t ∧ t.freeLine := by
  obtain ⟨n, rfl⟩ := pick_eq hp
  exact ⟨.one (.choose s n), h.running, h.owned, h.free⟩

variable {s} in
theorem lastItems_run (h : s.freeLine) (b : Bool) : Run s (s.lastItems b) := by
  unfold State.lastItems
  split
  case h_1 hp =>
    obtain ⟨hr, hf⟩ := pick_run h hp
    exact hr.trans (startIdent_run hf _)
  case h_2 =>
    split
    case h_1 hp =>
      obtain ⟨hr, hf⟩ := pick_run h hp
      exact hr.trans (startRefresh_run hf _)
    case h_2 => exact .refl

variable {s} in
theorem lowItems_run (h : s.freeLine) (b : Bool) : Run s (s.lowItems b) := by
  unfold State.lowItems
  split
  · exact startPoll_run h _
  · split
    · exact startSet_run h
    · exact lastItems_run h b

variable {s} in
theorem ownItems_run (h : s.freeLine) : Run s s.ownItems := by
  unfold State.ownItems
  dsimp only
  split
  · exact startSet_run h
  · split
    case h_1 hp =>
      obtain ⟨hr, hf⟩ := pick_run h hp
      exact hr.trans (startTxn_run hf _)
    case h_2 => exact lowItems_run h _

variable {s} in
theorem discoveryStep_run (h : s.freeLine) : Run s s.discoveryStep := by
  unfold State.discoveryStep
  split
  case h_1 => exact .refl
  case h_2 d hd =>
    split
    · exact startTxn_run h _
    · split
      · have hf : State.freeLine { s with slc := { s.slc with discovery := some { d with proofDue := false } } } :=
          ⟨h.running, h.owned, h.free⟩
        have hne : s.slc.discovery ≠ none := by rw [hd]; exact Option.some_ne_none d
        exact (Run.one (.link s _ (.discovery _ (.inl hne)))).trans (startTxn_run hf _)
      · exact .refl
    · exact .refl

variable {s} in
theorem grantHold_run (h : s.freeLine) (hr : s.slc.retry = none) (hp : s.slc.holdPending = true) : Run s s.grantHold :=
  (Run.one (.link s _ (.grant hp h.free hr))).trans (.one (.link _ _ (.modules _)))

variable {s} in
theorem arbitrate_run (h : s.freeLine) : Run s s.arbitrate := by
  have hb : s.boundary.freeLine := ⟨h.running, h.owned, h.free⟩
  refine (boundary_run s).trans ?_
  unfold State.arbitrate
  dsimp only
  split
  case h_1 => exact startTxn_run hb _
  case h_2 hr =>
    split
    · exact startTxn_run hb _
    · split
      · exact startSet_run hb
      · split
        case isTrue hp =>
          refine (grantHold_run hb hr hp).trans (.trans ?_ (.one (.drive _)))
          split
          · exact reviewProof_run _
          · exact .refl
        case isFalse =>
          split
          · exact discoveryStep_run hb
          · exact ownItems_run hb

/-! ### The ends of transactions -/

theorem discovery_run {d : Discovery} (hd : s.slc.discovery = some d) (e : Option Discovery) :
    Run s { s with slc := { s.slc with discovery := e } } :=
  .one (.link s _ (.discovery e (.inl (by rw [hd]; exact Option.some_ne_none d))))

theorem endDiscovery_act (h : s.slc.discovery ≠ none) : Run s s.endDiscovery := .one (.endDiscovery s h)

variable {s} in
/-- R160, R161: discovery goes on with its next module, or ends. -/
theorem goOn_run {d : Discovery} (hd : s.slc.discovery = some d) (e : Discovery) (p : Prop) [Decidable p] :
    Run s (if p then State.endDiscovery { s with slc := { s.slc with discovery := some e } }
      else { s with slc := { s.slc with discovery := some e } }) := by
  have hgo := discovery_run s hd (some e)
  split
  · exact hgo.trans (endDiscovery_act _ (Option.some_ne_none e))
  · exact hgo

theorem identified_run (a : Addr) (m : Module) : Run s (s.identified a m) := by
  refine (setMod_run s a m).trans ?_
  unfold State.identified
  dsimp only
  split
  case h_1 => exact .refl
  case h_2 d hd =>
    exact goOn_run hd _ _

theorem dealtWith_run (a : Addr) (m : Module) : Run s (s.dealtWith a m) := by
  refine (setMod_run s a m).trans ?_
  unfold State.dealtWith
  dsimp only
  split
  case h_1 => exact .refl
  case h_2 d hd =>
    exact goOn_run hd _ _

theorem discoveryProof_run (a : Addr) (r : ProofReply) : Run s (s.discoveryProof a r) := by
  unfold State.discoveryProof
  dsimp only
  split
  · exact dealtWith_run ..
  · split
    · split
      case h_1 => exact .refl
      case h_2 d hd => exact (setMod_run s a _).trans (discovery_run (s.setMod a _) hd _)
    · exact dealtWith_run ..

theorem discoveryOutcome_run (t : Transaction) (r : Option Reply) : Run s (s.discoveryOutcome t r) := by
  unfold State.discoveryOutcome
  dsimp only
  split
  · split
    · split
      · exact identified_run ..
      · exact identified_run ..
    · exact identified_run ..
    · exact dealtWith_run ..
    · exact discoveryProof_run ..
    · exact dealtWith_run ..
  · exact .refl

theorem moduleFailedAsa_run (a : Addr) : Run s (s.moduleFailedAsa a) :=
  (Run.one (.sign (.unqueue s [a]))).trans ((Run.one (.sign (.order _ a _))).trans (setMod_run _ a _))

theorem failModule_run (a : Addr) (b : Bool) : Run s (s.failModule a b) := by
  unfold State.failModule
  split
  · exact .refl
  · exact (setMod_run s a _).trans (moduleFailedAsa_run _ a)

theorem setOutcome_run (a : Addr) (x : Aspect) (tag : Tag) (b : Bool) (r : Option Reply) :
    Run s (s.setOutcome a x tag b r) := by
  unfold State.setOutcome
  split
  · exact setMod_run ..
  · exact failModule_run ..
  · exact (setMod_run s a _).trans (failModule_run _ a true)

theorem proveModule_run (a : Addr) (r : ProofReply) : Run s (s.proveModule a r) := by
  unfold State.proveModule
  dsimp only
  split
  · exact (setMod_run s a _).trans (moduleRecoveredAsa_run _ a).run
  · exact setMod_run s a _

theorem pollOutcome_run (a : Addr) (i : Nat) (r : Option Reply) : Run s (s.pollOutcome a i r) := by
  unfold State.pollOutcome
  dsimp only
  split
  · split
    · split
      · exact failModule_run ..
      · split
        · split
          · exact setMod_run ..
          · exact failModule_run ..
        · split
          · exact proveModule_run ..
          · exact failModule_run ..
    · exact failModule_run ..
  · exact .refl

theorem roundReply_run (a : Addr) (p : ProofReply) : Run s (s.roundReply a p) := by
  unfold State.roundReply
  dsimp only
  split
  · exact failModule_run ..
  · split
    · exact setMod_run ..
    · exact (setMod_run s a _).trans (proveModule_run _ a p)

theorem nextOfRound_run : Run s s.nextOfRound := by
  unfold State.nextOfRound
  split
  · exact .refl
  · split
    · exact (Run.one (.link s _ (.round none))).trans (resync_run _).run
    · exact .one (.link s _ (.round _))

theorem roundOutcome_run (a : Addr) (r : Option Reply) : Run s (s.roundOutcome a r) := by
  unfold State.roundOutcome
  refine .trans ?_ (nextOfRound_run _)
  split
  · exact .refl
  · split
    · exact roundReply_run ..
    · exact failModule_run ..

theorem identOutcome_run (a : Addr) (r : Option Reply) : Run s (s.identOutcome a r) := by
  unfold State.identOutcome
  dsimp only
  split
  · split
    · exact (setMod_run s a _).trans (moduleAnsweredAsa_run _ a).run
    · exact setMod_run ..
  · exact setMod_run ..

theorem refreshOutcome_run (a : Addr) (r : Option Reply) : Run s (s.refreshOutcome a r) := by
  unfold State.refreshOutcome
  split
  · exact .refl
  · exact failModule_run ..

theorem outcome_run (t : Transaction) (r : Option Reply) : Run s (s.outcome t r) := by
  unfold State.outcome
  split
  · exact discoveryOutcome_run ..
  · exact setOutcome_run ..
  · exact .refl
  · exact roundOutcome_run ..
  · exact setMod_run ..
  · exact pollOutcome_run ..
  · exact identOutcome_run ..
  · exact refreshOutcome_run ..

theorem afterTxn_run : Run s s.afterTxn := by
  unfold State.afterTxn
  refine .trans ?_ (.one (.drive _))
  split
  · exact (boundary_run s).trans (reviewProof_run _)
  · exact boundary_run s

variable {s} in
theorem endTxn_run {t : Transaction} (h : s.slc.transaction = some t) (r : Option Reply) : Run s (s.endTxn t r) := by
  unfold State.endTxn
  dsimp only
  split
  · exact (Run.one (.link s _ (.miss t _ h))).trans (boundary_run _)
  · exact (Run.one (.link s _ .finish)).trans ((outcome_run _ t r).trans (afterTxn_run _))

theorem complete_run (code : Nat) (reply : List Byte) : Run s (s.complete code reply) := by
  unfold State.complete
  split
  case h_1 t ht =>
    split
    · exact endTxn_run ht _
    · exact .refl
  case h_2 => exact .refl

/-! ### The hold -/

variable {s} in
theorem startDiscovery_run (h : s.onBus = false) : Run s s.startDiscovery :=
  (Run.one (.link s _ (.modules (Per8.build fun a => (s.mod a).rediscover)))).trans
    (.one (.link _ _ (.discovery (some ⟨s.moduleAddrs, [], none, none, true⟩) (.inr h))))

theorem startRound_run : Run s s.startRound := by
  unfold State.startRound
  split
  · exact (resync_run s).run
  · exact .one (.link s _ (.round _))

variable {s} in
theorem assertHold_run (h : s.slc.holdReq = false) : Run s s.assertHold := by
  unfold State.assertHold
  dsimp only
  split
  case h_1 => exact .one (.link s _ (.request h))
  case h_2 hs => exact .one (.link s _ (.requestStopped h hs))
  case h_3 h1 h2 =>
    split
    case isTrue hl =>
      refine .one (.link s _ (.requestPending h ?_ hl))
      unfold State.running
      cases hst : s.stu.station <;> simp_all
    case isFalse => exact .one (.link s _ (.request h))

theorem dropHold_run : Run s s.dropHold := by
  unfold State.dropHold
  dsimp only
  split
  case isTrue hl =>
    refine (Run.one (.link s _ (.giveBack hl))).trans ?_
    unfold State.endHold
    dsimp only
    split
    case h_1 hs => exact (startDiscovery_run (by simp [State.onBus, hs])).trans (.one (.drive _))
    case h_2 => exact ((startRound_run _).trans (reviewProof_run _)).trans (.one (.drive _))
    case h_3 => exact ((startRound_run _).trans (reviewProof_run _)).trans (.one (.drive _))
    case h_4 => exact .one (.drive _)
  case isFalse hl =>
    refine .one (.link s _ (.withdraw ?_))
    cases hk : s.slc.link
    · rfl
    · exact absurd hk hl

end

end Sys2Proof.Machine
end

section
/-! The inversion of a step: what a command makes of a state, and what follows for an invariant and for the queue of the
commands that wait. -/

namespace Sys2Proof.Machine

open Relation (ReflTransGen)

/-- The part as a reset leaves it, with what STU holds then. -/
def State.atReset (s : State) (u : Stu) : State :=
  { State.reset with stu := u, slc := { Slc.reset with holdReq := s.slc.holdReq }, pending := s.pending, choices := s.choices }

/-- What a command makes of a state: a reset, the release of a reset, or a run of acts. -/
inductive Effect (s : State) : State → Prop where
  | reset (u : Stu) (h : u.station = .inReset) (hr : u.runLit = false) (hf : u.faultLit = false) : Effect s (s.atReset u)
  | release (st : Straps) (x : LoopSample) (h : s.stu.station = .inReset) : Effect s (s.releaseReset st x)
  | run {t : State} (h : Run s t) : Effect s t

/-- R178 to R183 and all the other rules: every command has its effect, and none stops the part. -/
theorem exec_effect (c : Instr) (s : State) : ∃ t, exec c s = .next t ∧ Effect s t := by
  have guarded : ∀ {p : Prop} [Decidable p] {t : State}, (p → Run s t) → Effect s (if p then t else s) := by
    intro p _ t h
    split
    case isTrue hp => exact .run (h hp)
    case isFalse => exact .run .refl
  cases c with
  | powerApplied => exact ⟨_, rfl, .reset { Stu.reset with restart := .cold } rfl rfl rfl⟩
  | resetAsserted keep =>
    exact ⟨_, rfl, .reset { Stu.reset with
      restart := if keep then .keep else .cold, straps := s.stu.straps, validity := s.stu.validity } rfl rfl rfl⟩
  | resetReleased st x =>
    refine ⟨_, rfl, ?_⟩
    split
    case isTrue h => exact .release st x h
    case isFalse => exact .run .refl
  | edgeRecognised n p =>
    refine ⟨_, rfl, .run ?_⟩
    cases laneOf n with
    | none => exact .refl
    | some l =>
      dsimp only
      unfold State.edgeRecognised
      split
      · split
        · exact (Run.one (.edge s _)).trans (.one (.drive _))
        · exact .refl
      · exact .refl
  | stuckOn n p =>
    refine ⟨_, rfl, .run ?_⟩
    cases laneOf n with
    | none => exact .refl
    | some l =>
      dsimp only
      split
      · exact (Run.one (.raiseFault s l p _)).trans (.one (.drive _))
      · exact .refl
  | edgeTaken =>
    refine ⟨_, rfl, .run ?_⟩
    split
    case h_1 e rest hq =>
      split
      · exact .one (.takeEdge s e rest hq)
      · exact .refl
    case h_2 => exact .refl
  | windowEnd =>
    exact ⟨_, rfl, guarded fun h =>
      ((Run.one (.endWindow s)).trans (recomputeWindow_run (s := s.endWindow) h.1)).trans (.one (.drive _))⟩
  | beat => exact ⟨_, rfl, guarded fun h => (beat_run h.1).trans (.one (.drive _))⟩
  | entryStale p => exact ⟨_, rfl, guarded fun h => (tellStale_run h.1 p).trans (.one (.drive _))⟩
  | entryRemoved p => exact ⟨_, rfl, guarded fun h => (removeEntry_run h.1 p).trans (.one (.drive _))⟩
  | clashCleared => exact ⟨_, rfl, guarded fun _ => (clearClash_run s).trans (.one (.drive _))⟩
  | transmissionStart n =>
    exact ⟨_, rfl, guarded fun h => .one (.crl s _ (.start _ h.2.1 h.2.2.1))⟩
  | frameSent => exact ⟨_, rfl, guarded fun h => .one (.crl s _ (.sent _ h))⟩
  | collision => exact ⟨_, rfl, guarded fun h => .one (.crl s _ (.collide _ h))⟩
  | backoffEnd => exact ⟨_, rfl, guarded fun h => .one (.crl s _ (.endBackoff _ h))⟩
  | stateReceived f => exact ⟨_, rfl, .run (receive_run s _ f)⟩
  | announceReceived f => exact ⟨_, rfl, .run (receive_run s _ f)⟩
  | closeReceived f => exact ⟨_, rfl, .run (receive_run s _ f)⟩
  | releaseReceived f => exact ⟨_, rfl, .run (receive_run s _ f)⟩
  | ceilingReceived f => exact ⟨_, rfl, .run (receive_run s _ f)⟩
  | orphanClearReceived f => exact ⟨_, rfl, .run (receive_run s _ f)⟩
  | ceilingExpiry id =>
    exact ⟨_, rfl, guarded fun _ =>
      ((Run.one (.dropCeiling s id)).trans (reviewRequests_run _).run).trans (.one (.drive _))⟩
  | closureExpiry id => exact ⟨_, rfl, .run (expire_run s fun w r h _ => .single (.release w r h))⟩
  | tombstoneExpiry id =>
    refine ⟨_, rfl, .run (expire_run s fun w r h hd => .single (.dropRecord w r h ?_))⟩
    simp only [Bool.and_eq_true, Bool.not_eq_true'] at hd
    exact hd.1
  | refusedLifetimeExpiry id => exact ⟨_, rfl, guarded fun _ => .one (.unrefuse s id)⟩
  | leadWaitExpiry id =>
    refine ⟨_, rfl, .run (expire_run s fun w r h hd => ?_)⟩
    rw [Bool.and_eq_true] at hd
    exact (ReflTransGen.single (.leadGo w r h hd.1)).trans (.single (.drain ..))
  | clearWaitExpiry id => exact ⟨_, rfl, .run (expire_run s fun w r h _ => .single (.bury w r h))⟩
  | transactionStart => exact ⟨_, rfl, guarded fun h => arbitrate_run ⟨h.1, h.2.1, h.2.2⟩⟩
  | replyTimeout =>
    refine ⟨_, rfl, .run ?_⟩
    split
    case h_1 t ht => exact endTxn_run ht none
    case h_2 => exact .refl
  | identComplete r => exact ⟨_, rfl, .run (complete_run s _ r)⟩
  | setComplete r => exact ⟨_, rfl, .run (complete_run s _ r)⟩
  | proofComplete r => exact ⟨_, rfl, .run (complete_run s _ r)⟩
  | refreshComplete r => exact ⟨_, rfl, .run (complete_run s _ r)⟩
  | blankComplete r => exact ⟨_, rfl, .run (complete_run s _ r)⟩
  | proofPollDue n =>
    refine ⟨_, rfl, ?_⟩
    cases addrOf n with
    | none => exact .run .refl
    | some a => exact guarded fun _ => setMod_run s a _
  | refreshDue n =>
    refine ⟨_, rfl, ?_⟩
    cases addrOf n with
    | none => exact .run .refl
    | some a => exact guarded fun _ => setMod_run s a _
  | identRetryDue n =>
    refine ⟨_, rfl, ?_⟩
    cases addrOf n with
    | none => exact .run .refl
    | some a => exact guarded fun _ => setMod_run s a _
  | discoveryProofTimeout n =>
    refine ⟨_, rfl, ?_⟩
    cases addrOf n with
    | none => exact .run .refl
    | some a => exact guarded fun _ => (dealtWith_run s a _).trans (.one (.drive _))
  | holdreqAsserted =>
    refine ⟨_, rfl, .run ?_⟩
    cases h : s.slc.holdReq
    · exact assertHold_run h
    · exact .refl
  | holdreqDropped => exact ⟨_, rfl, guarded fun _ => dropHold_run s⟩
  | joinEnd =>
    refine ⟨_, rfl, guarded fun h => ?_⟩
    have hjoin : s.orphanEvent.stu.station = .join := by rw [(orphanEvent_same s).stu]; exact h.1
    exact (((orphanEvent_run (by rw [State.onBus, h.1]; rfl)).trans (.one (.enterRun _ hjoin))).trans (enterRunAsa_run _).run).trans (.one (.drive _))
  | requestByte b =>
    refine ⟨_, rfl, .run ?_⟩
    split
    · exact .refl
    · exact .one (.port s _)
  | requestGapTimeout => exact ⟨_, rfl, guarded fun _ => .one (.port s _)⟩
  | replyEnd => exact ⟨_, rfl, guarded fun _ => .one (.port s _)⟩
  | millisecondCounterIncrement x =>
    exact ⟨_, rfl, guarded fun _ => (Run.one (.tick s)).trans (.one (.sampleLoops _ x))⟩
  | lineActivityNotAFrame b => exact ⟨_, rfl, guarded fun _ => .one (.crl s _ (.line _ _ _))⟩
  | discoveryProofResendDue n =>
    refine ⟨_, rfl, ?_⟩
    cases addrOf n with
    | none => exact .run .refl
    | some a =>
      refine guarded fun h => .one (.link s _ (.discovery _ (.inr ?_)))
      obtain ⟨hact, -⟩ := h
      simp only [State.actingOn, Bool.and_eq_true, beq_iff_eq] at hact
      simp [State.onBus, hact.1.1]

theorem effect_of_exec {c : Instr} {s t : State} (h : exec c s = .next t) : Effect s t := by
  obtain ⟨u, hu, he⟩ := exec_effect c s
  rw [hu] at h
  cases h
  exact he

/-- What a reset establishes, a release and every act keep, every step keeps. -/
theorem step_keeps {P : State → Prop} (reset : ∀ (s : State) (u : Stu), u.station = .inReset → P (s.atReset u))
    (release : ∀ (s : State) st x, s.stu.station = .inReset → P s → P (s.releaseReset st x))
    (act : ∀ s t, Act s t → P s → P t) (pending : ∀ (s : State) q, P s → P (s.withPending q))
    {s t : State} (h : step s = .next t) (hs : P s) : P t := by
  unfold step at h
  split at h
  · cases h; exact hs
  · cases effect_of_exec h with
    | reset u hu _ _ => exact reset _ u hu
    | release st x hr => exact release _ st x hr (pending _ _ hs)
    | run hrun => exact reflTransGen_keeps act hrun (pending _ _ hs)

/-! ### The queue of the commands that wait -/

theorem SignAct.same {s t : State} (h : SignAct s t) : SameButAsa s t := by
  cases h with
  | setSpc => exact setSpc_same ..
  | settleTable => exact settleTable_same _
  | order => exact setDisplay_same ..
  | placeGroup => exact placeGroup_same ..
  | unqueue => exact ⟨rfl, rfl, rfl, rfl, rfl, rfl, rfl, rfl, rfl, rfl⟩
  | leave => exact ⟨rfl, rfl, rfl, rfl, rfl, rfl, rfl, rfl, rfl, rfl⟩
  | sendHead => exact ⟨rfl, rfl, rfl, rfl, rfl, rfl, rfl, rfl, rfl, rfl⟩

theorem SignRun.same {s t : State} (h : SignRun s t) : SameButAsa s t :=
  reflTransGen_rel (R := SignAct) (S := SameButAsa) .refl (fun _ _ _ => .trans) (fun _ _ => SignAct.same) h

end Sys2Proof.Machine
end

section
/-! O2 and O54: the commands that wait, the hold of the sign link, and the outputs. -/

namespace Sys2Proof.Machine

open Relation (ReflTransGen)

/-! ### Frames of the acts -/

theorem WorkStep.same {w v : Work} (h : WorkStep w v) : WorkSame w v := by
  cases h with
  | adopt => exact adopt_same ..
  | notice => exact notice_same ..
  | prove => exact prove_same ..
  | drain => exact drain_same ..
  | offer => exact offer_same ..
  | takeRelease => exact takeRelease_work_same ..
  | dropOrphan => exact dropOrphan_same ..
  | absorb => exact absorb_same ..
  | release => exact release_same ..
  | bury => exact bury_same ..
  | leadGo => exact leadGo_same ..
  | dropRecord => exact clt_same ..

theorem WorkRun.same {w v : Work} (h : WorkRun w v) : WorkSame w v :=
  reflTransGen_rel (R := WorkStep) (S := WorkSame) .refl (fun _ _ _ => .trans) (fun _ _ => WorkStep.same) h

theorem restage_same (s : State) : SameButSpeed s s.restage := ⟨rfl, rfl, rfl, rfl, rfl, rfl, rfl, rfl, rfl⟩

/-- R111: the whole event of the Closure Table. -/
theorem closures_same {s : State} {w : Work} (h : WorkRun ⟨s, false⟩ w) :
    SameButClosures s (if w.tell then w.s.settle.restage else w.s.settle) := by
  have hw : SameButClosures s w.s.settle := SameButClosures.trans h.same (settle_same w.s).speed.closures
  split
  · exact hw.trans (restage_same _).closures
  · exact hw

theorem JoinAct.pending {s t : State} (h : JoinAct s t) : t.pending = s.pending := by
  cases h with
  | sign h => exact h.same.pending
  | _ => rfl

theorem JoinRun.pending {s t : State} (h : JoinRun s t) : t.pending = s.pending :=
  reflTransGen_rel (R := JoinAct) (S := fun s t => t.pending = s.pending) (fun _ => rfl) (fun _ _ _ h g => g.trans h)
    (fun _ _ => JoinAct.pending) h

/-- `t` differs from `s` in LPI and MSU at most. -/
structure SameButLoops (s t : State) : Prop where
  stu : t.stu = s.stu
  crl : t.crl = s.crl
  nbt : t.nbt = s.nbt
  spc : t.spc = s.spc
  clt : t.clt = s.clt
  asa : t.asa = s.asa
  slc : t.slc = s.slc
  mpt : t.mpt = s.mpt
  pending : t.pending = s.pending
  choices : t.choices = s.choices

theorem sameButLoops_with (s : State) (x : Lpi) (y : Msu) : SameButLoops s { s with lpi := x, msu := y } :=
  ⟨rfl, rfl, rfl, rfl, rfl, rfl, rfl, rfl, rfl, rfl⟩

theorem SameButLoops.refl (s : State) : SameButLoops s s := sameButLoops_with s s.lpi s.msu

theorem SameButLoops.trans {s t u : State} (h : SameButLoops s t) (g : SameButLoops t u) : SameButLoops s u :=
  ⟨g.stu.trans h.stu, g.crl.trans h.crl, g.nbt.trans h.nbt, g.spc.trans h.spc, g.clt.trans h.clt, g.asa.trans h.asa,
    g.slc.trans h.slc, g.mpt.trans h.mpt, g.pending.trans h.pending, g.choices.trans h.choices⟩

section
variable (s : State)

theorem setLoop_same (l : Lane) (p : Loop) (x : LoopState) : SameButLoops s (s.setLoop l p x) := sameButLoops_with ..

theorem setLane_same (l : Lane) (m : LaneState) : SameButLoops s (s.setLane l m) := sameButLoops_with ..

theorem raiseFault_same (l : Lane) (p : Loop) (k : FaultKind) : SameButLoops s (s.raiseFault l p k) := by
  unfold State.raiseFault
  dsimp only
  split
  · exact setLoop_same ..
  · exact (setLoop_same ..).trans (setLane_same ..)

theorem countPartner_same (l : Lane) (p : Loop) : SameButLoops s (s.countPartner l p) := by
  unfold State.countPartner
  dsimp only
  split
  · exact (setLoop_same ..).trans (raiseFault_same ..)
  · split
    · exact (setLoop_same ..).trans (raiseFault_same ..)
    · exact setLoop_same ..

theorem recognise_same (e : Edge) : SameButLoops s (s.recognise e) := by
  unfold State.recognise
  dsimp only
  split
  · exact (setLoop_same ..).trans (countPartner_same ..)
  · split
    · exact (setLoop_same ..).trans (raiseFault_same ..)
    · exact setLoop_same ..

theorem resyncTest_same (l : Lane) : SameButLoops s (s.resyncTest l) := by
  unfold State.resyncTest
  split
  · exact setLane_same ..
  · exact .refl s

theorem offerEdge_same (e : Edge) : SameButLoops s (s.offerEdge e) := by
  unfold State.offerEdge
  split
  · exact (sameButLoops_with s _ s.msu).trans (resyncTest_same ..)
  · exact (setLane_same ..).trans (resyncTest_same ..)

/-- R2, R4: a recognised edge, offered to the queue. -/
theorem edge_same (e : Edge) : SameButLoops s ((s.recognise e).offerEdge e) :=
  (recognise_same s e).trans (offerEdge_same ..)

theorem takeEdge_same (e : Edge) (rest : List Edge) : SameButLoops s (s.takeEdge e rest) := by
  have h := sameButLoops_with s { s.lpi with queue := rest } s.msu
  unfold State.takeEdge
  dsimp only
  split
  · exact h.trans (resyncTest_same ..)
  · exact h.trans (setLane_same ..)

end

/-- No act touches the queue of the commands that wait. -/
theorem Act.pending {s t : State} (h : Act s t) : t.pending = s.pending := by
  cases h with
  | sign h => exact h.same.pending
  | edge e => exact (edge_same s e).pending
  | raiseFault => exact (raiseFault_same ..).pending
  | takeEdge => exact (takeEdge_same ..).pending
  | closures w h => exact (closures_same h).pending
  | endDiscovery => exact (endDiscovery_run s).pending
  | _ => rfl

/-! ### The hold (R171 to R174) -/

/-- `holdSafe` reads the link's fields and whether the part runs. -/
theorem holdSafe_congr {s t : State} (hl : t.slc.link = s.slc.link) (hq : t.slc.holdReq = s.slc.holdReq)
    (ha : t.slc.holdAck = s.slc.holdAck) (hp : t.slc.holdPending = s.slc.holdPending)
    (ht : t.slc.transaction = s.slc.transaction) (hr : t.slc.retry = s.slc.retry)
    (hrun : s.running = true → t.running = true) (h : s.holdSafe) : t.holdSafe := by
  obtain ⟨hack, hheld, hpend, hidle⟩ := h
  refine ⟨by rw [ha, hl]; exact hack, by rw [hl, hq, ht, hr, hp]; exact hheld, by rw [hp, hq]; exact hpend, fun hn => ?_⟩
  rw [ht, hr, hp]
  refine hidle ?_
  cases hs : s.running
  · rfl
  · rw [hrun hs] at hn; cases hn

theorem holdSafe_of_slc {s t : State} (hslc : t.slc = s.slc) (hst : t.stu.station = s.stu.station) (h : s.holdSafe) :
    t.holdSafe := by
  refine holdSafe_congr (by rw [hslc]) (by rw [hslc]) (by rw [hslc]) (by rw [hslc]) (by rw [hslc]) (by rw [hslc])
    (fun hr => ?_) h
  unfold State.running at hr ⊢
  rw [hst]; exact hr

theorem JoinAct.holdSafe {s t : State} (h : JoinAct s t) (hs : s.holdSafe) : t.holdSafe := by
  cases h with
  | sign h => exact holdSafe_of_slc h.same.slc (congrArg _ h.same.stu) hs
  | startJoin => exact holdSafe_congr (s := s) rfl rfl rfl rfl rfl rfl (fun _ => rfl) hs
  | _ => exact hs

theorem LinkAct.holdSafe {s : State} {x : Slc} (h : LinkAct s x) (hs : s.holdSafe) :
    State.holdSafe { s with slc := x } := by
  obtain ⟨hack, hheld, hpend, hidle⟩ := id hs
  cases h with
  | modules | round | discovery => exact hs
  | start t hr hl =>
    exact ⟨hack, fun h => absurd (hl.symm.trans h) (by decide), hpend, fun h => absurd (hr.symm.trans h) (by decide)⟩
  | finish =>
    exact ⟨hack, fun h => ⟨(hheld h).1, rfl, (hheld h).2.2⟩, hpend, fun h => ⟨rfl, (hidle h).2⟩⟩
  | miss t r ht =>
    refine ⟨hack, fun h => ?_, hpend, fun h => ?_⟩
    · rw [ht] at hheld; cases (hheld h).2.1
    · rw [ht] at hidle; cases (hidle h).1
  | grant hp ht hr =>
    exact ⟨⟨fun _ => rfl, fun _ => rfl⟩, fun _ => ⟨hpend hp, ht, hr, rfl⟩, fun h => Bool.noConfusion h, fun _ => ⟨ht, hr, rfl⟩⟩
  | request hr =>
    exact ⟨hack, fun h => ⟨rfl, (hheld h).2⟩, fun _ => rfl, hidle⟩
  | requestStopped hr hst =>
    have hn : s.running = false := by simp [State.running, hst]
    obtain ⟨ht, hre, hp⟩ := hidle hn
    exact ⟨⟨fun _ => rfl, fun _ => rfl⟩, fun _ => ⟨rfl, ht, hre, hp⟩, fun _ => rfl, hidle⟩
  | requestPending hr hrun hl =>
    exact ⟨hack, fun h => absurd (hl.symm.trans h) (by decide), fun _ => rfl, fun h => absurd (hrun.symm.trans h) (by decide)⟩
  | withdraw hl =>
    exact ⟨hack, fun h => absurd (hl.symm.trans h) (by decide), fun h => Bool.noConfusion h,
      fun h => ⟨(hidle h).1, (hidle h).2.1, rfl⟩⟩
  | giveBack hl =>
    obtain ⟨-, ht, hre, -⟩ := hheld hl
    exact ⟨⟨fun h => Bool.noConfusion h, fun h => LinkState.noConfusion h⟩, fun h => LinkState.noConfusion h,
      fun h => Bool.noConfusion h, fun _ => ⟨ht, hre, rfl⟩⟩

theorem Act.holdSafe {s t : State} (h : Act s t) (hs : s.holdSafe) : t.holdSafe := by
  have loops : ∀ {u : State}, SameButLoops s u → u.holdSafe := fun h => holdSafe_of_slc h.slc (congrArg _ h.stu) hs
  cases h with
  | sign h => exact holdSafe_of_slc h.same.slc (congrArg _ h.same.stu) hs
  | enterRun => exact holdSafe_congr (s := s) rfl rfl rfl rfl rfl rfl (fun _ => rfl) hs
  | edge e => exact loops (edge_same s e)
  | raiseFault => exact loops (raiseFault_same ..)
  | takeEdge => exact loops (takeEdge_same ..)
  | closures w h => exact holdSafe_of_slc (closures_same h).slc (congrArg _ (closures_same h).stu) hs
  | link x h => exact h.holdSafe hs
  | endDiscovery => exact reflTransGen_keeps (P := State.holdSafe) (fun _ _ => JoinAct.holdSafe) (endDiscovery_run s) hs
  | _ => exact hs

theorem followHold_holdSafe {s : State} (hack : s.slc.holdAck = true ↔ s.slc.link = .held)
    (hheld : s.slc.link = .held → s.slc.holdReq = true)
    (hfree : s.slc.transaction = none ∧ s.slc.retry = none ∧ s.slc.holdPending = false) : s.followHold.holdSafe := by
  obtain ⟨ht, hr, hp⟩ := hfree
  have hpend : s.slc.holdPending = true → s.slc.holdReq = true := fun h => absurd (hp.symm.trans h) (by decide)
  unfold State.followHold
  split
  case isTrue hq =>
    exact ⟨⟨fun _ => rfl, fun _ => rfl⟩, fun _ => ⟨hq, ht, hr, hp⟩, hpend, fun _ => ⟨ht, hr, hp⟩⟩
  case isFalse => exact ⟨hack, fun h => ⟨hheld h, ht, hr, hp⟩, hpend, fun _ => ⟨ht, hr, hp⟩⟩

/-! ### The release of a reset -/

/-- R179: the straps sampled, and the station state they give. -/
def State.strapped (s : State) (st : Straps) (x : StationState) : State :=
  { s with stu := { s.stu with straps := st, validity := strapValidity st, station := x } }

/-- R19, R11: at the entry to DISCOVER LPI begins anew, and of MSU the pairing machines alone change. -/
structure LoopsAnew (s u : State) : Prop where
  same : SameButLoops s u
  queue : u.lpi.queue = []
  window : ∀ l, (u.lane l).window = (s.lane l).window
  ring : ∀ l, (u.lane l).ring = (s.lane l).ring

/-- R179 to R181: what a release makes of a state. -/
inductive Released (s : State) (st : Straps) : State → Prop where
  | stopped : Released s st (s.strapped st .stopped).followHold.drive
  | held (u : State) (h : LoopsAnew (s.strapped st .discover) u) (hq : u.slc.holdReq = true) :
      Released s st u.followHold.drive
  | discover (u : State) (h : LoopsAnew (s.strapped st .discover) u) (hq : u.slc.holdReq = false) :
      Released s st u.startDiscovery.drive

theorem resyncTest_loopsAnew (s u : State) (l : Lane) (h : LoopsAnew s u) : LoopsAnew s (u.resyncTest l) := by
  unfold State.resyncTest
  split
  · refine ⟨h.same.trans (setLane_same ..), h.queue, fun k => ?_, fun k => ?_⟩
    · rw [lane_setLane]; split
      case isTrue hk => rw [hk]; exact h.window l
      case isFalse => exact h.window k
    · rw [lane_setLane]; split
      case isTrue hk => rw [hk]; exact h.ring l
      case isFalse => exact h.ring k
  · exact h

theorem releaseReset_released (s : State) (st : Straps) (x : LoopSample) : Released s st (s.releaseReset st x) := by
  unfold State.releaseReset
  dsimp only
  split
  · unfold State.enterDiscover
    dsimp only
    have hanew : ∀ (ls : List Lane) (u : State), LoopsAnew (s.strapped st .discover) u →
        LoopsAnew (s.strapped st .discover) (ls.foldl State.resyncTest u) := by
      intro ls
      induction ls with
      | nil => exact fun _ h => h
      | cons l ls ih => exact fun u h => ih _ (resyncTest_loopsAnew _ u l h)
    have h := fun ls => hanew ls _ ⟨sameButLoops_with (s.strapped st .discover)
      { Lpi.reset with loops := firstSample st.laneCount.toNat x } s.msu, rfl, fun _ => rfl, fun _ => rfl⟩
    split
    case isTrue hq => exact .held _ (h _) hq
    case isFalse hq => exact .discover _ (h _) (Bool.eq_false_iff.2 hq)
  · exact .stopped

theorem Released.holdSafe {s t : State} {st : Straps} (h : Released s st t) (hs : s.holdSafe)
    (hst : s.stu.station = .inReset) : t.holdSafe := by
  obtain ⟨hack, hheld, -, hidle⟩ := hs
  have hfree := hidle (by simp [State.running, hst])
  have hreq : s.slc.link = .held → s.slc.holdReq = true := fun h => (hheld h).1
  cases h with
  | stopped => exact followHold_holdSafe (s := s.strapped st .stopped) hack hreq hfree
  | held u hu _ =>
    have hslc : u.slc = s.slc := hu.same.slc
    exact followHold_holdSafe (by rw [hslc]; exact hack) (by rw [hslc]; exact hreq) (by rw [hslc]; exact hfree)
  | discover u hu hq =>
    have hslc : u.slc = s.slc := hu.same.slc
    have hsafe : u.followHold.holdSafe :=
      followHold_holdSafe (by rw [hslc]; exact hack) (by rw [hslc]; exact hreq) (by rw [hslc]; exact hfree)
    rw [State.followHold, if_neg (by rw [hq]; decide)] at hsafe
    exact hsafe

theorem followHold_pending (s : State) : s.followHold.pending = s.pending := by unfold State.followHold; split <;> rfl

theorem Released.pending {s t : State} {st : Straps} (h : Released s st t) : t.pending = s.pending := by
  cases h with
  | stopped => exact followHold_pending _
  | held u hu => exact (followHold_pending u).trans hu.same.pending
  | discover u hu => exact hu.same.pending

theorem step_holdSafe {s t : State} (hs : s.holdSafe) (h : step s = .next t) : t.holdSafe :=
  step_keeps (P := State.holdSafe)
    (fun _ _ _ => ⟨⟨fun h => Bool.noConfusion h, fun h => LinkState.noConfusion h⟩, fun h => LinkState.noConfusion h,
      fun h => Bool.noConfusion h, fun _ => ⟨rfl, rfl, rfl⟩⟩)
    (fun s st x hst hs => (releaseReset_released s st x).holdSafe hs hst) (fun _ _ => Act.holdSafe) (fun _ _ hs => hs) h hs

/-- Settles O2: every command has an effect, and neither a reset, a release nor an act touches the waiting commands. -/
theorem everyCommandCompletes : Obligations.EveryCommandCompletes := by
  intro c s
  obtain ⟨t, ht, he⟩ := exec_effect c s
  refine ⟨t, ht, ?_⟩
  cases he with
  | reset => rfl
  | release st x => exact (releaseReset_released s st x).pending
  | run h =>
    exact reflTransGen_rel (R := Act) (S := fun s t => t.pending = s.pending) (fun _ => rfl)
      (fun _ _ _ h g => g.trans h) (fun _ _ => Act.pending) h

end Sys2Proof.Machine
end

section
/-! O54: a command either ends by setting the outputs anew or leaves alone all that they follow. -/

namespace Sys2Proof.Machine

/-- R184, R185, R91, R92: `drive` sets the outputs as the state calls for. -/
theorem drive_outputsFollow (s : State) : s.drive.outputsFollow := by
  refine ⟨rfl, rfl, fun hb => ?_⟩
  have hb' : s.onBus = true := hb
  have hspc : s.drive.spc = { s.spc with posted := s.postedLevel, signsDown := s.signsDownLevel } := if_pos hb'
  have hposted : s.drive.postedLevel = s.postedLevel := by
    show s.drive.spc.target.lower _ = _
    rw [drive_target]; rfl
  refine ⟨by rw [hposted, hspc], ?_⟩
  unfold State.signsDownLevel
  by_cases hl : s.slc.link = .held
  · rw [if_pos (show s.drive.slc.link = .held from hl)]
  · rw [if_neg (show ¬ s.drive.slc.link = .held from hl), hspc]
    exact if_neg hl

/-- `t` has the outputs of `s` and all that they follow. -/
structure SameOutputs (s t : State) : Prop where
  station : t.stu.station = s.stu.station
  straps : t.stu.straps = s.stu.straps
  runLit : t.stu.runLit = s.stu.runLit
  faultLit : t.stu.faultLit = s.stu.faultLit
  state : ∀ a, (t.mod a).state = (s.mod a).state
  discovered : ∀ a, (t.mod a).discovered = (s.mod a).discovered
  proven : ∀ a, (t.mod a).proven = (s.mod a).proven
  fault : ∀ l p, (t.loop l p).fault = (s.loop l p).fault
  clash : t.crl.clash = s.crl.clash
  link : s.onBus = true → t.slc.link = s.slc.link
  target : t.spc.target = s.spc.target
  posted : t.spc.posted = s.spc.posted
  signsDown : t.spc.signsDown = s.spc.signsDown

namespace SameOutputs
variable {s t u : State}

theorem refl (s : State) : SameOutputs s s :=
  ⟨rfl, rfl, rfl, rfl, fun _ => rfl, fun _ => rfl, fun _ => rfl, fun _ _ => rfl, rfl, fun _ => rfl, rfl, rfl, rfl⟩

theorem onBus (h : SameOutputs s t) : t.onBus = s.onBus := onBus_of_station s h.station

theorem lanesInUse (h : SameOutputs s t) : t.lanesInUse = s.lanesInUse := by
  unfold State.lanesInUse State.lanes; rw [h.straps]

theorem trans (h : SameOutputs s t) (g : SameOutputs t u) : SameOutputs s u :=
  ⟨g.station.trans h.station, g.straps.trans h.straps, g.runLit.trans h.runLit, g.faultLit.trans h.faultLit,
    fun a => (g.state a).trans (h.state a), fun a => (g.discovered a).trans (h.discovered a),
    fun a => (g.proven a).trans (h.proven a), fun l p => (g.fault l p).trans (h.fault l p), g.clash.trans h.clash,
    fun hb => (g.link (h.onBus.trans hb)).trans (h.link hb), g.target.trans h.target, g.posted.trans h.posted,
    g.signsDown.trans h.signsDown⟩

theorem faultLevel (h : SameOutputs s t) : t.faultLevel = s.faultLevel := by
  simp only [State.faultLevel, State.faultStopped, State.faultAbsent, State.faultFailed, State.faultLoop,
    State.faultClash, h.station, h.lanesInUse, h.state, h.discovered, h.fault, h.clash]

theorem provenSpeeds (h : SameOutputs s t) (hb : s.onBus = true) : t.provenSpeeds = s.provenSpeeds := by
  simp only [State.provenSpeeds, h.link hb, h.lanesInUse, Module.provenSpeed, h.state, h.proven]

theorem signsDownLevel (h : SameOutputs s t) (hb : s.onBus = true) : t.signsDownLevel = s.signsDownLevel := by
  simp only [State.signsDownLevel, h.link hb, h.lanesInUse, h.state, h.signsDown]

theorem outputsFollow (h : SameOutputs s t) (hs : s.outputsFollow) : t.outputsFollow := by
  obtain ⟨hrun, hfault, hbus⟩ := hs
  refine ⟨?_, by rw [h.faultLit, h.faultLevel, hfault], fun hb => ?_⟩
  · rw [h.runLit, hrun, State.runLevel, State.runLevel, h.station]
  · rw [h.onBus] at hb
    obtain ⟨hp, hd⟩ := hbus hb
    refine ⟨?_, by rw [h.signsDown, h.signsDownLevel hb, hd]⟩
    rw [h.posted, hp, State.postedLevel, State.postedLevel, h.target, h.provenSpeeds hb]

end SameOutputs

section
variable (s : State)

/-- A module's entry that keeps state, proven aspect and what discovery recorded. -/
theorem setMod_sameOutputs (a : Addr) (m : Module) (hst : m.state = (s.mod a).state)
    (hd : m.discovered = (s.mod a).discovered) (hp : m.proven = (s.mod a).proven) : SameOutputs s (s.setMod a m) := by
  have hmod : ∀ {β : Type} (f : Module → β), f m = f (s.mod a) → ∀ b, f ((s.setMod a m).mod b) = f (s.mod b) := by
    intro β f hf b
    rw [mod_setMod]
    split
    case isTrue h => rw [hf, h]
    case isFalse => rfl
  exact ⟨rfl, rfl, rfl, rfl, hmod Module.state hst, hmod Module.discovered hd, hmod Module.proven hp, fun _ _ => rfl, rfl,
    fun _ => rfl, rfl, rfl, rfl⟩

theorem crl_sameOutputs (c : Crl) (h : c.clash = s.crl.clash) : SameOutputs s { s with crl := c } :=
  ⟨rfl, rfl, rfl, rfl, fun _ => rfl, fun _ => rfl, fun _ => rfl, fun _ _ => rfl, h, fun _ => rfl, rfl, rfl, rfl⟩

/-- The module table kept and, from the entry to JOIN on, the link state. -/
theorem slc_sameOutputs (x : Slc) (hm : x.modules = s.slc.modules) (hl : s.onBus = true → x.link = s.slc.link) :
    SameOutputs s { s with slc := x } := by
  have hmod : ∀ a, State.mod { s with slc := x } a = s.mod a := fun a => congrArg (·.get a) hm
  exact ⟨rfl, rfl, rfl, rfl, fun a => by rw [hmod], fun a => by rw [hmod], fun a => by rw [hmod], fun _ _ => rfl, rfl, hl,
    rfl, rfl, rfl⟩

theorem asa_sameOutputs (x : Asa) : SameOutputs s { s with asa := x } :=
  ⟨rfl, rfl, rfl, rfl, fun _ => rfl, fun _ => rfl, fun _ => rfl, fun _ _ => rfl, rfl, fun _ => rfl, rfl, rfl, rfl⟩

theorem choices_sameOutputs (n : Nat) : SameOutputs s { s with choices := n } :=
  ⟨rfl, rfl, rfl, rfl, fun _ => rfl, fun _ => rfl, fun _ => rfl, fun _ _ => rfl, rfl, fun _ => rfl, rfl, rfl, rfl⟩

theorem startTxn_sameOutputs (t : Transaction) : SameOutputs s (s.startTxn t) :=
  (setMod_sameOutputs s t.addr _ (by rfl) (by rfl) (by rfl)).trans (slc_sameOutputs _ _ (by rfl) (by exact fun _ => rfl))

theorem startSet_sameOutputs : SameOutputs s (s.startSet.getD s) := by
  unfold State.startSet
  split
  case h_1 => exact .refl s
  case h_2 g rest _ =>
    cases g.nextEntry with
    | none => exact .refl s
    | some e => exact (asa_sameOutputs s _).trans (startTxn_sameOutputs _ _)

theorem startPoll_sameOutputs (a : Addr) : SameOutputs s (s.startPoll a) :=
  (setMod_sameOutputs s a _ (by rfl) (by rfl) (by rfl)).trans (startTxn_sameOutputs _ _)

theorem startIdent_sameOutputs (a : Addr) : SameOutputs s (s.startIdent a) :=
  (setMod_sameOutputs s a _ (by rfl) (by rfl) (by rfl)).trans (startTxn_sameOutputs _ _)

theorem startRefresh_sameOutputs (a : Addr) : SameOutputs s (s.startRefresh a) :=
  (setMod_sameOutputs s a _ (by rfl) (by rfl) (by rfl)).trans (startTxn_sameOutputs _ _)

variable {s} in
theorem pick_sameOutputs {as : List Addr} {a : Addr} {t : State} (h : s.pick as = some (a, t)) : SameOutputs s t := by
  obtain ⟨n, rfl⟩ := pick_eq h
  exact choices_sameOutputs s n

theorem lastItems_sameOutputs (b : Bool) : SameOutputs s (s.lastItems b) := by
  unfold State.lastItems
  split
  case h_1 hp => exact (pick_sameOutputs hp).trans (startIdent_sameOutputs _ _)
  case h_2 =>
    split
    case h_1 hp => exact (pick_sameOutputs hp).trans (startRefresh_sameOutputs _ _)
    case h_2 => exact .refl s

theorem lowItems_sameOutputs (b : Bool) : SameOutputs s (s.lowItems b) := by
  unfold State.lowItems
  split
  · exact startPoll_sameOutputs s _
  · split
    · exact startSet_sameOutputs s
    · exact lastItems_sameOutputs s b

theorem ownItems_sameOutputs : SameOutputs s s.ownItems := by
  unfold State.ownItems
  dsimp only
  split
  · exact startSet_sameOutputs s
  · split
    case h_1 hp => exact (pick_sameOutputs hp).trans (startTxn_sameOutputs _ _)
    case h_2 => exact lowItems_sameOutputs s _

theorem discoveryStep_sameOutputs : SameOutputs s s.discoveryStep := by
  unfold State.discoveryStep
  split
  · exact .refl s
  · split
    · exact startTxn_sameOutputs s _
    · split
      · exact (slc_sameOutputs s _ (by rfl) (by exact fun _ => rfl)).trans (startTxn_sameOutputs _ _)
      · exact .refl s
    · exact .refl s

end

/-- A command sets the outputs anew at its end, or leaves alone what they follow. -/
def OutputsSet (s t : State) : Prop := (∃ u : State, t = u.drive) ∨ SameOutputs s t

theorem OutputsSet.driven (s u : State) : OutputsSet s u.drive := .inl ⟨u, rfl⟩

theorem OutputsSet.refl (s : State) : OutputsSet s s := .inr (.refl s)

theorem OutputsSet.outputsFollow {s t : State} (h : OutputsSet s t) (hs : s.outputsFollow) : t.outputsFollow := by
  rcases h with ⟨u, rfl⟩ | h
  · exact drive_outputsFollow u
  · exact h.outputsFollow hs

theorem arbitrate_outputsSet (s : State) : OutputsSet s s.arbitrate := by
  have hb : SameOutputs s s.boundary := asa_sameOutputs s _
  unfold State.arbitrate
  dsimp only
  split
  · exact .inr (hb.trans (startTxn_sameOutputs _ _))
  · split
    · exact .inr (hb.trans (startTxn_sameOutputs _ _))
    · split
      · exact .inr (hb.trans (startSet_sameOutputs _))
      · split
        · exact .driven s _
        · split
          · exact .inr (hb.trans (discoveryStep_sameOutputs _))
          · exact .inr (hb.trans (ownItems_sameOutputs _))

theorem endTxn_outputsSet (s : State) (t : Transaction) (r : Option Reply) : OutputsSet s (s.endTxn t r) := by
  unfold State.endTxn
  dsimp only
  split
  · exact .inr ((slc_sameOutputs s _ (by rfl) (by exact fun _ => rfl)).trans (asa_sameOutputs _ _))
  · exact .driven s _

theorem complete_outputsSet (s : State) (code : Nat) (reply : List Byte) : OutputsSet s (s.complete code reply) := by
  unfold State.complete
  split
  · split
    · exact endTxn_outputsSet ..
    · exact .refl s
  · exact .refl s

theorem receive_outputsSet (s : State) (k : FrameKind) (f : RxFrame) : OutputsSet s (s.receive k f) := by
  unfold State.receive
  split
  · exact .driven s _
  · exact .refl s

theorem expire_outputsSet (s : State) (id : Nat) (due : ClosureRecord → Bool) (f : Work → ClosureRecord → Work) :
    OutputsSet s (s.expire id due f) := by
  unfold State.expire
  split
  · split
    · exact .driven s _
    · exact .refl s
  · exact .refl s

theorem setLane_sameOutputs (s : State) (l : Lane) (m : LaneState) : SameOutputs s (s.setLane l m) :=
  ⟨rfl, rfl, rfl, rfl, fun _ => rfl, fun _ => rfl, fun _ => rfl, fun _ _ => rfl, rfl, fun _ => rfl, rfl, rfl, rfl⟩

theorem resyncTest_sameOutputs (s : State) (l : Lane) : SameOutputs s (s.resyncTest l) := by
  unfold State.resyncTest
  split
  · exact setLane_sameOutputs ..
  · exact .refl s

theorem takeEdge_sameOutputs (s : State) (e : Edge) (rest : List Edge) : SameOutputs s (s.takeEdge e rest) := by
  have h : SameOutputs s { s with lpi := { s.lpi with queue := rest } } :=
    ⟨rfl, rfl, rfl, rfl, fun _ => rfl, fun _ => rfl, fun _ => rfl, fun _ _ => rfl, rfl, fun _ => rfl, rfl, rfl, rfl⟩
  unfold State.takeEdge
  dsimp only
  split
  · exact h.trans (resyncTest_sameOutputs _ _)
  · exact h.trans (setLane_sameOutputs _ _ _)

theorem sample_fault (x : LoopState) (now : Stamp) (v : LoopLevel) : (x.millisecond now v).fault = x.fault := by
  unfold LoopState.millisecond LoopState.countOccupied LoopState.sample
  split <;> split <;> rfl

theorem millisecond_sameOutputs (s : State) (x : LoopSample) : SameOutputs s (s.tick.sampleLoops x) := by
  have hmod : ∀ a, (s.tick.sampleLoops x).mod a = (s.mod a).tick (s.timersStopped a) := fun a => Per8.get_build _ a
  have hloop : ∀ l, (s.tick.sampleLoops x).lpi.loops.get l = if l.val < s.lanes then
      (⟨(s.loop l .a).millisecond (s.lpi.ms + 1) (x.get l).a, (s.loop l .b).millisecond (s.lpi.ms + 1) (x.get l).b⟩ :
        Pair LoopState) else s.lpi.loops.get l := fun l => Per6.get_build _ l
  refine ⟨rfl, rfl, rfl, rfl, fun a => by rw [hmod]; rfl, fun a => by rw [hmod]; rfl, fun a => by rw [hmod]; rfl,
    fun l p => ?_, rfl, fun _ => rfl, rfl, rfl, rfl⟩
  rw [State.loop, hloop]
  split
  · cases p <;> exact sample_fault ..
  · rfl

theorem assertHold_sameOutputs (s : State) : SameOutputs s s.assertHold := by
  have hreq : SameOutputs s { s with slc := { s.slc with holdReq := true } } := slc_sameOutputs s _ rfl fun _ => rfl
  unfold State.assertHold
  dsimp only
  split
  case h_1 => exact hreq
  case h_2 hs =>
    exact hreq.trans (slc_sameOutputs _ _ rfl fun hb => by simp [State.onBus, hs] at hb)
  case h_3 =>
    split
    · exact hreq.trans (slc_sameOutputs _ _ rfl fun _ => rfl)
    · exact hreq

theorem crl_clash_of_phase (c : Crl) (p : Nat) :
    c.sentFrame.clash = c.clash ∧ (c.collide p).clash = c.clash ∧ c.endBackoff.clash = c.clash := by
  have hprom : ∀ d : Crl, d.promote.clash = d.clash := fun d => by unfold Crl.promote; split <;> rfl
  refine ⟨?_, ?_, ?_⟩
  · unfold Crl.sentFrame; split <;> exact hprom _
  · unfold Crl.collide; split
    · exact hprom c
    · rfl
  · unfold Crl.endBackoff; split <;> rfl

/-- R184, R185, R91, R92: what each command does to the outputs. -/
theorem exec_outputsFollow {c : Instr} {s t : State} (h : exec c s = .next t) (hs : s.outputsFollow) : t.outputsFollow := by
  have guarded : ∀ {p : Prop} [Decidable p] {u : State}, (p → OutputsSet s u) →
      State.outputsFollow (if p then u else s) := by
    intro p _ u hu
    split
    case isTrue hp => exact (hu hp).outputsFollow hs
    case isFalse => exact hs
  have hreset : ∀ u : Stu, u.station = .inReset → u.runLit = false → u.faultLit = false → (s.atReset u).outputsFollow := by
    intro u hst hr hf
    refine ⟨hr.trans ?_, hf.trans ?_, fun hb => ?_⟩
    · simp [State.runLevel, State.atReset, hst]
    · simp [State.faultLevel, State.atReset, hst]
    · simp [State.onBus, State.atReset, hst] at hb
  cases c with
  | powerApplied => cases h; exact hreset { Stu.reset with restart := .cold } rfl rfl rfl
  | resetAsserted keep =>
    cases h
    exact hreset { Stu.reset with
      restart := if keep then .keep else .cold, straps := s.stu.straps, validity := s.stu.validity } rfl rfl rfl
  | resetReleased | windowEnd | beat | entryStale | entryRemoved | clashCleared | ceilingExpiry | joinEnd =>
    cases h; exact guarded fun _ => .driven s _
  | edgeRecognised n p =>
    cases h
    cases laneOf n with
    | none => exact hs
    | some l =>
      dsimp only
      unfold State.edgeRecognised
      split
      · split
        · exact drive_outputsFollow _
        · exact hs
      · exact hs
  | stuckOn n p =>
    cases h
    cases laneOf n with
    | none => exact hs
    | some l => exact guarded fun _ => .driven s _
  | edgeTaken =>
    cases h
    split
    case h_1 e rest _ => exact guarded fun _ => .inr (takeEdge_sameOutputs ..)
    case h_2 => exact hs
  | transmissionStart n => cases h; exact guarded fun _ => .inr (crl_sameOutputs s _ rfl)
  | frameSent => cases h; exact guarded fun _ => .inr (crl_sameOutputs s _ (crl_clash_of_phase s.crl 0).1)
  | collision => cases h; exact guarded fun _ => .inr (crl_sameOutputs s _ (crl_clash_of_phase s.crl _).2.1)
  | backoffEnd => cases h; exact guarded fun _ => .inr (crl_sameOutputs s _ (crl_clash_of_phase s.crl 0).2.2)
  | lineActivityNotAFrame b => cases h; exact guarded fun _ => .inr (crl_sameOutputs s _ rfl)
  | stateReceived | announceReceived | closeReceived | releaseReceived | ceilingReceived | orphanClearReceived =>
    cases h; exact (receive_outputsSet ..).outputsFollow hs
  | closureExpiry | tombstoneExpiry | leadWaitExpiry | clearWaitExpiry =>
    cases h; exact (expire_outputsSet ..).outputsFollow hs
  | refusedLifetimeExpiry id =>
    cases h
    exact guarded fun _ => .inr ⟨rfl, rfl, rfl, rfl, fun _ => rfl, fun _ => rfl, fun _ => rfl, fun _ _ => rfl, rfl, fun _ => rfl,
      rfl, rfl, rfl⟩
  | transactionStart => cases h; exact guarded fun _ => arbitrate_outputsSet s
  | replyTimeout =>
    cases h
    split
    · exact (endTxn_outputsSet ..).outputsFollow hs
    · exact hs
  | identComplete | setComplete | proofComplete | refreshComplete | blankComplete =>
    cases h; exact (complete_outputsSet ..).outputsFollow hs
  | proofPollDue n | refreshDue n | identRetryDue n =>
    cases h
    cases addrOf n with
    | none => exact hs
    | some a => exact guarded fun _ => .inr (setMod_sameOutputs s a _ rfl rfl rfl)
  | discoveryProofTimeout n =>
    cases h
    cases addrOf n with
    | none => exact hs
    | some a => exact guarded fun _ => .driven s _
  | discoveryProofResendDue n =>
    cases h
    cases addrOf n with
    | none => exact hs
    | some a => exact guarded fun _ => .inr (slc_sameOutputs s _ rfl fun _ => rfl)
  | holdreqAsserted =>
    cases h
    split
    · exact hs
    · exact (assertHold_sameOutputs s).outputsFollow hs
  | holdreqDropped =>
    cases h
    refine guarded fun _ => ?_
    unfold State.dropHold
    dsimp only
    split
    · unfold State.endHold
      dsimp only
      split <;> exact .driven s _
    · exact .inr (slc_sameOutputs s _ rfl fun _ => rfl)
  | requestByte b =>
    cases h
    split <;> exact hs
  | requestGapTimeout | replyEnd =>
    cases h
    exact guarded fun _ => .inr ⟨rfl, rfl, rfl, rfl, fun _ => rfl, fun _ => rfl, fun _ => rfl, fun _ _ => rfl, rfl, fun _ => rfl,
      rfl, rfl, rfl⟩
  | millisecondCounterIncrement x => cases h; exact guarded fun _ => .inr (millisecond_sameOutputs s x)

theorem step_outputsFollow {s t : State} (hs : s.outputsFollow) (h : step s = .next t) : t.outputsFollow := by
  unfold step at h
  split at h
  · cases h; exact hs
  · exact exec_outputsFollow h hs

/-- Settles O54: the outputs by what each command does to them, the hold by the acts a command is made of. -/
theorem stepKeepsOutputsAndHold : Obligations.StepKeepsOutputsAndHold :=
  ⟨fun _ _ hs h => step_outputsFollow hs h, fun _ _ hs h => step_holdSafe hs h⟩

end Sys2Proof.Machine
end

section
/-! Tables kept in ascending order, and what an event of the Closure Table does to the state: a property that the single
changes of the table, the refused list, the orphan set and the request rows keep is kept by each of its operations. -/

namespace Sys2Proof.Machine

/-! ### Tables in ascending order -/

theorem rising_iff_pairwise (xs : List Nat) : rising xs = true ↔ xs.Pairwise (· < ·) := by
  induction xs with
  | nil => simp [rising]
  | cons x rest ih =>
    unfold rising
    rw [Bool.and_eq_true, ih, List.pairwise_cons]
    cases rest with
    | nil => simp
    | cons y ys =>
      refine and_congr_left fun h => ?_
      rw [decide_eq_true_eq]
      refine ⟨fun hxy z hz => ?_, fun h => h y List.mem_cons_self⟩
      rcases List.mem_cons.1 hz with rfl | hz
      · exact hxy
      · exact hxy.trans ((List.pairwise_cons.1 h).1 z hz)

/-- A value inserted at its place by a key, in place of any other with the key. -/
def insertBy {α : Type} (key : α → Nat) (x : α) : List α → List α
  | [] => [x]
  | y :: rest => if key x < key y then x :: y :: rest else if key x = key y then x :: rest else y :: insertBy key x rest

theorem insertRecord_eq (r : ClosureRecord) (rs : List ClosureRecord) : insertRecord r rs = insertBy ClosureRecord.id r rs := by
  induction rs with
  | nil => rfl
  | cons x rest ih => unfold insertRecord insertBy; rw [ih]

theorem insertCeiling_eq (c : Ceiling) (cs : List Ceiling) : insertCeiling c cs = insertBy Ceiling.id c cs := by
  induction cs with
  | nil => rfl
  | cons x rest ih => unfold insertCeiling insertBy; rw [ih]

theorem insertNeighbour_eq (e : Neighbour) (es : List Neighbour) :
    insertNeighbour e es = insertBy Neighbour.position e es := by
  induction es with
  | nil => rfl
  | cons x rest ih => unfold insertNeighbour insertBy; rw [ih]

section
variable {α : Type} (key : α → Nat) (x : α)

theorem length_insertBy_le (ys : List α) : (insertBy key x ys).length ≤ ys.length + 1 := by
  induction ys with
  | nil => exact le_rfl
  | cons y rest ih =>
    unfold insertBy
    split
    · exact le_rfl
    · split
      · simp
      · simpa using ih

theorem mem_of_mem_insertBy {ys : List α} {z : α} (h : z ∈ insertBy key x ys) : z = x ∨ z ∈ ys := by
  induction ys with
  | nil => exact .inl (List.mem_singleton.1 h)
  | cons y rest ih =>
    unfold insertBy at h
    split at h
    · exact List.mem_cons.1 h
    · split at h
      · exact (List.mem_cons.1 h).imp_right (List.mem_cons_of_mem y)
      · rcases List.mem_cons.1 h with rfl | h
        · exact .inr List.mem_cons_self
        · exact (ih h).imp_right (List.mem_cons_of_mem y)

variable {key} in
theorem pairwise_insertBy {ys : List α} (h : (ys.map key).Pairwise (· < ·)) :
    ((insertBy key x ys).map key).Pairwise (· < ·) := by
  induction ys with
  | nil => exact List.pairwise_singleton ..
  | cons y rest ih =>
    obtain ⟨hy, hrest⟩ := List.pairwise_cons.1 h
    unfold insertBy
    split
    case isTrue hlt =>
      refine List.pairwise_cons.2 ⟨fun k hk => ?_, h⟩
      rcases List.mem_cons.1 hk with rfl | hk
      · exact hlt
      · exact hlt.trans (hy k hk)
    case isFalse hlt =>
      split
      case isTrue heq => exact List.pairwise_cons.2 ⟨fun k hk => heq ▸ hy k hk, hrest⟩
      case isFalse hne =>
        refine List.pairwise_cons.2 ⟨fun k hk => ?_, ih hrest⟩
        obtain ⟨z, hz, rfl⟩ := List.mem_map.1 hk
        rcases mem_of_mem_insertBy key x hz with rfl | hz
        · omega
        · exact hy _ (List.mem_map_of_mem hz)

variable {key x} in
/-- A value takes the place of the one with its key. -/
theorem length_insertBy_of_mem {ys : List α} (h : (ys.map key).Pairwise (· < ·)) (hx : ∃ y ∈ ys, key y = key x) :
    (insertBy key x ys).length = ys.length := by
  induction ys with
  | nil => obtain ⟨y, hy, -⟩ := hx; cases hy
  | cons y rest ih =>
    obtain ⟨hy, hrest⟩ := List.pairwise_cons.1 h
    obtain ⟨z, hz, hzx⟩ := hx
    have hrec : key y ≠ key x → ∃ z ∈ rest, key z = key x := fun hne => by
      rcases List.mem_cons.1 hz with rfl | hz
      · exact absurd hzx hne
      · exact ⟨z, hz, hzx⟩
    unfold insertBy
    split
    case isTrue hlt =>
      obtain ⟨w, hw, hwx⟩ := hrec (by omega)
      have := hy _ (List.mem_map_of_mem hw)
      omega
    case isFalse =>
      split
      · rfl
      case isFalse hne =>
        rw [List.length_cons, List.length_cons, ih hrest (hrec fun h => hne h.symm)]

/-- A value stands in the table with its key, and the others as before. -/
theorem find_insertBy (ys : List α) (k : Nat) :
    (insertBy key x ys).find? (fun y => key y == k) = if k = key x then some x else ys.find? fun y => key y == k := by
  induction ys with
  | nil =>
    by_cases hk : k = key x
    · simp [insertBy, hk]
    · have hb : (key x == k) = false := by simpa using fun h => hk h.symm
      simp [insertBy, hk, hb]
  | cons y rest ih =>
    unfold insertBy
    by_cases hk : k = key x
    · rw [if_pos hk] at ih ⊢
      subst hk
      split
      · simp
      · split
        · simp
        case isFalse hne =>
          have hb : (key y == key x) = false := by simpa using fun h => hne h.symm
          rw [List.find?_cons_of_neg (by simp [hb]), ih]
    · rw [if_neg hk] at ih ⊢
      have hb : (key x == k) = false := by simpa using fun h => hk h.symm
      split
      · simp [List.find?_cons, hb]
      · split
        case isTrue heq =>
          have hby : (key y == k) = false := by rw [← heq]; exact hb
          simp [hb, hby]
        · rw [List.find?_cons, List.find?_cons, ih]

end

/-! ### The closure records -/

section
variable (s : State)

theorem putRecord_record (r : ClosureRecord) (id : Nat) :
    (s.putRecord r).record id = if id = r.id then some r else s.record id := by
  unfold State.record State.putRecord
  rw [insertRecord_eq]
  exact find_insertBy ..

theorem putRecord_record_same (r : ClosureRecord) : (s.putRecord r).record r.id = some r := by
  rw [putRecord_record, if_pos rfl]

theorem placeAll_record (reqs : List (Addr × Request)) (id : Nat) : (s.placeAll reqs).record id = s.record id := by
  unfold State.record; rw [(placeAll_same s reqs).clt]

theorem withdrawRecord_record (id k : Nat) : (s.withdrawRecord id).record k = s.record k := rfl

theorem mem_records_of_record {id : Nat} {r : ClosureRecord} (h : s.record id = some r) : r ∈ s.clt.records :=
  List.mem_of_find?_eq_some h

end

/-- The table holds a record with the id of `r`. -/
def Held (s : State) (r : ClosureRecord) : Prop := ∃ r0, s.record r.id = some r0

theorem held_of_record {s : State} {id : Nat} {r : ClosureRecord} (h : s.record id = some r) : Held s r :=
  ⟨r, by rw [record_id s h]; exact h⟩

/-- The table has a place for `r`: that of its id, a free one, or the one that an installation has made room for. -/
def HasSlot (P : State → Prop) (s : State) (r : ClosureRecord) : Prop :=
  Held s r ∨ s.clt.records.length < 8 ∨
    ∃ (u : State) (id : Nat), P u ∧ roomFor (u.clt.records.filter fun x => x.id != id) = some s.clt.records

/-! ### Properties that an event of the Closure Table keeps -/

/-- The single changes of an event of the Closure Table keep a property. -/
structure TableKept (P : State → Prop) : Prop where
  place : ∀ {s : State} (a : Addr) (q : Request), P s → P (s.place a q)
  keep : ∀ {s : State} (f : Addr → Request → Bool), P s → P (s.keepRequests f)
  put : ∀ {s : State} (r : ClosureRecord), HasSlot P s r → P s → P (s.putRecord r)
  room : ∀ {s : State} {id : Nat} {rs : List ClosureRecord},
    roomFor (s.clt.records.filter fun x => x.id != id) = some rs → P s → P { s with clt := { s.clt with records := rs } }
  drop : ∀ {s : State} (id : Nat), P s → P (s.dropRecord id)
  refuse : ∀ {s : State} (id : Nat), P s → P (s.refuse id)
  unrefuse : ∀ {s : State} (id : Nat), P s → P (s.unrefuse id)
  dropOrphan : ∀ {s : State} (l : Lane), P s → P (s.dropOrphan l)

namespace TableKept
variable {P : State → Prop} (K : TableKept P)
include K

theorem placeAll {s : State} (reqs : List (Addr × Request)) (h : P s) : P (s.placeAll reqs) := by
  induction reqs generalizing s with
  | nil => exact h
  | cons x reqs ih => exact ih (K.place x.1 x.2 h)

theorem putHeld {s : State} {r : ClosureRecord} (hr : Held s r) (h : P s) : P (s.putRecord r) := K.put r (.inl hr) h

theorem prove {w : Work} (id : Nat) (h : P w.s) : P (w.prove id).s := by
  unfold Work.prove
  split
  case h_1 => exact h
  case h_2 r hr =>
    split
    · have hheld : Held w.s r := held_of_record hr
      exact K.put _ (.inl hheld) h
    · exact h

theorem withdrawRecord {s : State} (id : Nat) (h : P s) : P (s.withdrawRecord id) := K.keep _ (K.keep _ h)

theorem substitute {w : Work} (id : Nat) (h : P w.s) : P (w.substitute id).s := by
  unfold Work.substitute
  split
  case h_1 => exact h
  case h_2 r hr =>
    dsimp only
    split
    · exact h
    · refine K.prove id (K.put _ (.inl ?_) (K.placeAll _ (K.keep _ h)))
      refine ⟨r, ?_⟩
      rw [placeAll_record]
      exact (congrArg w.s.record (record_id w.s hr)).trans hr

theorem leadGo {w : Work} {r : ClosureRecord} (hr : Held w.s r) (h : P w.s) : P (w.leadGo r).s := by
  refine K.prove r.id (K.put _ (.inl ?_) (K.placeAll _ h))
  obtain ⟨r0, hr0⟩ := hr
  exact ⟨r0, (placeAll_record ..).trans hr0⟩

theorem checkLead {w : Work} (id : Nat) (h : P w.s) : P (w.checkLead id).s := by
  unfold Work.checkLead
  split
  case h_1 => exact h
  case h_2 r hr =>
    split
    · exact K.leadGo (held_of_record hr) h
    · exact h

theorem bury {w : Work} {r : ClosureRecord} (hr : Held w.s r) (h : P w.s) : P (w.bury r).s :=
  K.put _ (.inl hr) (K.withdrawRecord r.id h)

theorem checkClear {w : Work} (id : Nat) (h : P w.s) : P (w.checkClear id).s := by
  unfold Work.checkClear
  split
  case h_1 => exact h
  case h_2 r hr =>
    split
    · exact K.bury (held_of_record hr) h
    · exact h

theorem release {w : Work} {r : ClosureRecord} (hr : Held w.s r) (h : P w.s) : P (w.release r).s := by
  unfold Work.release
  split
  · exact K.put r (.inl hr) h
  · split
    · exact K.bury hr h
    · exact K.checkClear r.id (K.put _ (.inl hr) h)

theorem startRole {w : Work} {r : ClosureRecord} (hr : HasSlot P w.s r) (h : P w.s) : P (w.startRole r).s := by
  unfold Work.startRole
  split
  · exact K.checkLead r.id (K.put _ hr h)
  · refine K.prove r.id (K.substitute r.id (K.put _ ?_ (K.placeAll _ h)))
    refine hr.imp (fun ⟨r0, hr0⟩ => ⟨r0, (placeAll_record ..).trans hr0⟩) (Or.imp (fun hlt => ?_) ?_)
    · rw [(placeAll_same ..).clt]; exact hlt
    · rw [(placeAll_same ..).clt]; exact id

theorem modifyLead {w : Work} {r : ClosureRecord} (hr : Held w.s r) (h : P w.s) : P (w.modifyLead r).s := by
  refine K.prove r.id (K.substitute r.id (K.put _ (.inl ?_) (K.placeAll _ (K.keep _ h))))
  obtain ⟨r0, hr0⟩ := hr
  exact ⟨r0, (placeAll_record ..).trans hr0⟩

theorem modifyAnchor {w : Work} {r : ClosureRecord} (hr : Held w.s r) (h : P w.s) : P (w.modifyAnchor r).s := by
  unfold Work.modifyAnchor
  split
  · exact K.checkLead r.id (K.put _ (.inl hr) h)
  · dsimp only
    split
    · exact K.leadGo (w := ⟨w.s.withdrawSurplus r, _⟩) hr (K.keep _ h)
    · exact K.checkLead r.id (K.put _ (.inl hr) (K.keep _ h))

theorem applyMod {w : Work} {r : ClosureRecord} (c : Closure) (hr : Held w.s r) (h : P w.s) : P (w.applyMod r c).s := by
  unfold Work.applyMod
  split
  · exact K.release hr h
  · dsimp only
    split
    · split
      · exact K.modifyAnchor hr h
      · exact K.modifyLead hr h
    · exact K.startRole (w := ⟨w.s.withdrawRecord r.id, _⟩) (.inl hr) (K.withdrawRecord r.id h)

theorem drain {w : Work} (id : Nat) (h : P w.s) : P (w.drain id).s := by
  unfold Work.drain
  split
  case h_1 => exact h
  case h_2 r hr =>
    split
    · exact h
    · split
      · have hheld : Held w.s r := held_of_record hr
        exact K.applyMod _ hheld h
      · exact h

theorem modify {w : Work} {r : ClosureRecord} (c : Closure) (b : Bool) (hr : Held w.s r) (h : P w.s) :
    P (w.modify r c b).s := by
  unfold Work.modify
  split
  · refine K.put _ (.inl ?_) h
    unfold ClosureRecord.defer
    split
    · exact hr
    · split <;> exact hr
  · exact K.drain r.id (K.applyMod c hr h)

theorem install {w : Work} (c : Closure) (h : P w.s) : P (w.install c).s := by
  unfold Work.install
  split
  · exact h
  · split
    case h_1 => exact K.refuse c.id h
    case h_2 rs hrs =>
      exact K.drain c.id (K.startRole
        (w := ⟨State.unrefuse { w.s with clt := { w.s.clt with records := rs } } c.id, w.tell⟩)
        (.inr (.inr ⟨w.s, c.id, h, hrs⟩)) (K.unrefuse c.id (K.room hrs h)))

theorem offer {w : Work} (c : Closure) (b : Bool) (h : P w.s) : P (w.offer c b).s := by
  unfold Work.offer
  split
  case h_1 => exact K.install c h
  case h_2 r hr =>
    split
    · split
      · exact K.modify c b (held_of_record hr) h
      · exact K.install c h
    · exact h

theorem releaseHeld {w : Work} {r : ClosureRecord} (g : Gen) (hr : Held w.s r) (h : P w.s) : P (w.releaseHeld r g).s := by
  unfold Work.releaseHeld
  split
  · split
    · exact K.release hr h
    · exact h
  · split
    · exact K.put _ (.inl hr) h
    · exact h

theorem takeRelease {w : Work} (f : ReleaseFields) (h : P w.s) : P (w.takeRelease f).s := by
  unfold Work.takeRelease
  split
  · exact h
  · split
    case h_1 r hr => exact K.releaseHeld f.gen (held_of_record hr) h
    case h_2 =>
      dsimp only
      split
      case isTrue hlt => exact K.put _ (.inr (.inl hlt.2.2)) (K.unrefuse f.id h)
      case isFalse => exact K.unrefuse f.id h

theorem adoptRelease {w : Work} (c : Closure) (h : P w.s) : P (w.adoptRelease c).s := by
  unfold Work.adoptRelease
  split
  case h_1 r hr => exact K.releaseHeld c.gen (held_of_record hr) h
  case h_2 =>
    dsimp only
    split
    · exact K.unrefuse c.id h
    · split
      case isTrue hlt => exact K.put _ (.inr (.inl hlt)) (K.unrefuse c.id h)
      case isFalse => exact K.unrefuse c.id h

theorem adopt {w : Work} (e : ClosureEntry) (h : P w.s) : P (w.adopt e).s := by
  unfold Work.adopt
  split
  · exact h
  · split
    · exact K.adoptRelease _ h
    · exact K.offer _ false h

theorem notice {w : Work} (k : Int) (id : Nat) (h : P w.s) : P (w.notice k id).s := by
  unfold Work.notice
  dsimp only
  have hsub : P (if k = 1 ∨ k = 2 then w.substitute id else w).s := by
    split
    · exact K.substitute id h
    · exact h
  refine K.drain id ?_
  split
  · exact K.checkLead id hsub
  · split
    · exact K.checkClear id hsub
    · exact hsub

theorem dropOrphans {s : State} (ls : List Lane) (h : P s) : P (ls.foldl State.dropOrphan s) := by
  induction ls generalizing s with
  | nil => exact h
  | cons l ls ih => exact ih (K.dropOrphan l h)

theorem absorb {w : Work} (os : List Lane) (id : Nat) (h : P w.s) : P (w.absorb os id).s := by
  unfold Work.absorb
  split
  case h_1 => exact h
  case h_2 r hr =>
    dsimp only
    split
    · have hrec : ∀ (ls : List Lane) (u : State), (ls.foldl State.dropOrphan u).record r.id = u.record r.id := fun ls u =>
        foldl_keeps (fun a b : State => b.record r.id = a.record r.id) (fun _ => rfl) (fun _ _ _ h g => g.trans h)
          State.dropOrphan (fun _ _ => rfl) ls u
      obtain ⟨r0, hr0⟩ := held_of_record hr
      exact K.drain id (K.leadGo (w := ⟨(r.localLanes.filter fun l => os.contains l).foldl State.dropOrphan w.s, w.tell⟩)
        ⟨r0, (hrec _ _).trans hr0⟩ (K.dropOrphans _ h))
    · exact h

/-- Each operation of an event of the Closure Table keeps what its single changes keep. -/
theorem workStep {w v : Work} (hs : WorkStep w v) (h : P w.s) : P v.s := by
  cases hs with
  | adopt e => exact K.adopt e h
  | notice k id => exact K.notice k id h
  | prove id => exact K.prove id h
  | drain id => exact K.drain id h
  | offer c b => exact K.offer c b h
  | takeRelease f => exact K.takeRelease f h
  | dropOrphan l => exact K.dropOrphan l h
  | absorb os id => exact K.absorb os id h
  | release r hr => exact K.release ⟨r, hr⟩ h
  | bury r hr => exact K.bury ⟨r, hr⟩ h
  | leadGo r hr => exact K.leadGo ⟨r, hr⟩ h
  | dropRecord r => exact K.drop r.id h

theorem workRun {w v : Work} (hr : WorkRun w v) (h : P w.s) : P v.s :=
  reflTransGen_keeps (R := WorkStep) (P := fun w => P w.s) (fun _ _ => K.workStep) hr h

end TableKept

/-! ### What an event of the Closure Table leaves alone -/

/-- Blocks other than CLT, and in ASA all but the rows, stay. -/
theorem tableKept_blocks (m : Msu) (p : Spc) (q : List Group) (t : Tag) :
    TableKept fun s => s.msu = m ∧ s.spc = p ∧ s.asa.queue = q ∧ s.asa.nextTag = t where
  place _ _ h := h
  keep _ h := h
  put _ _ h := h
  room _ h := h
  drop _ h := h
  refuse _ h := h
  unrefuse _ h := h
  dropOrphan _ h := h

theorem WorkRun.msu {w v : Work} (h : WorkRun w v) : v.s.msu = w.s.msu :=
  ((tableKept_blocks _ _ _ _).workRun h ⟨rfl, rfl, rfl, rfl⟩).1

theorem WorkRun.spc {w v : Work} (h : WorkRun w v) : v.s.spc = w.s.spc :=
  ((tableKept_blocks _ _ _ _).workRun h ⟨rfl, rfl, rfl, rfl⟩).2.1

theorem WorkRun.queue {w v : Work} (h : WorkRun w v) : v.s.asa.queue = w.s.asa.queue :=
  ((tableKept_blocks _ _ _ _).workRun h ⟨rfl, rfl, rfl, rfl⟩).2.2.1

end Sys2Proof.Machine
end

section
/-! What the acts of a step do to MSU's lanes: a property of a lane that its few changes of window and ring keep is kept by
every act. The bounds of the current windows and of the rings (R21, R22, R28, R29) are such properties. -/

namespace Sys2Proof.Machine

/-! ### The changes of a lane -/

/-- The three counts of a window that R22 raises. -/
def Accum.counts (w : Accum) : Nat × Nat × Nat := (w.count, w.speedCount, w.speedSum)

/-- The ring and the window's counts stay. -/
def LaneAlike (m n : LaneState) : Prop := n.ring = m.ring ∧ n.window.map Accum.counts = m.window.map Accum.counts

theorem LaneAlike.refl (m : LaneState) : LaneAlike m m := ⟨rfl, rfl⟩

theorem LaneAlike.trans {m n o : LaneState} (h : LaneAlike m n) (g : LaneAlike n o) : LaneAlike m o :=
  ⟨g.1.trans h.1, g.2.trans h.2⟩

/-- A change of the window that leaves its counts. -/
theorem laneAlike_window (m : LaneState) (f : Accum → Accum) (h : ∀ w, (f w).counts = w.counts) :
    LaneAlike m { m with window := m.window.map f } := by
  refine ⟨rfl, ?_⟩
  show (m.window.map f).map Accum.counts = _
  rw [Option.map_map]
  exact congrArg (fun g => m.window.map g) (funext h)

theorem closeInterval_alike (m : LaneState) (t : Stamp) : LaneAlike m (m.closeInterval t) := by
  unfold LaneState.closeInterval
  split
  · exact .refl m
  · exact laneAlike_window m _ fun _ => rfl

theorem closeIntervalOn_alike (m : LaneState) (p : Loop) (t : Stamp) : LaneAlike m (m.closeIntervalOn p t) := by
  unfold LaneState.closeIntervalOn
  split
  · split
    · exact closeInterval_alike ..
    · exact .refl m
  · exact .refl m

theorem takeOccupancy_alike (m : LaneState) (x : LaneMode) (e : Edge) : LaneAlike m (m.takeOccupancy x e) := by
  unfold LaneState.takeOccupancy
  split
  · split
    · exact ⟨rfl, rfl⟩
    · exact .refl m
  · exact closeIntervalOn_alike ..

theorem loseEdge_alike (m : LaneState) (t : Stamp) : LaneAlike m (m.loseEdge t) :=
  (closeInterval_alike m t).trans (laneAlike_window (m.closeInterval t) _ fun _ => rfl)

theorem creditOpen_alike (m : LaneState) (t : Stamp) : LaneAlike m (m.creditOpen t) := by
  unfold LaneState.creditOpen
  split
  · exact laneAlike_window m _ fun _ => rfl
  · exact .refl m

/-- A vehicle's speed is 250 km/h at most (R10). -/
def VehicleRecord.sound (v : VehicleRecord) : Prop := ∀ x, v.speed = some x → x ≤ 250

/-- A property of a lane that its changes keep: those that leave ring and counts, a vehicle handed to the window, a
window that closes, a window that opens. -/
structure LaneKept (Q : LaneState → Prop) : Prop where
  alike : ∀ {m n : LaneState}, LaneAlike m n → Q m → Q n
  vehicle : ∀ {m : LaneState} (v : VehicleRecord), v.sound → Q m → Q (m.handVehicle v)
  push : ∀ {m : LaneState} {w : Accum}, m.window = some w → Q m →
    Q { m with window := none, ring := pushRecord m.ring w.record }
  fresh : ∀ {m : LaneState} {w : Accum}, w.counts = (0, 0, 0) → Q m → Q { m with window := some w }

/-! ### Vehicles -/

theorem vehicleSpeed_le {dd x : Nat} {v : Vehicle} (h : vehicleSpeed dd v = some x) : x ≤ 250 := by
  unfold vehicleSpeed at h
  split at h
  · split at h
    · cases h
    · cases h; exact Nat.min_le_right ..
  · cases h

/-- R9, R10: what the pairing machine hands to the window. -/
theorem pairStep_produced {dd x : Nat} {st : PairState} {v : Option Vehicle} {e : Edge}
    (h : (pairStep dd st v e).produced = some (some x)) : x ≤ 250 := by
  have irregular : ∀ lv, (irregularStep v lv).produced ≠ some (some x) := fun lv => by
    unfold irregularStep; dsimp only; split <;> simp
  unfold pairStep at h
  split at h
  · cases h
  · split at h
    · cases h
    · split at h
      · cases h
      · cases h
      · cases h
      · split at h
        · cases h
        · obtain ⟨u, -, hu⟩ := Option.bind_eq_some_iff.1 (Option.some.inj h)
          exact vehicleSpeed_le hu
      · exact absurd h (irregular _)

section
variable {Q : LaneState → Prop} (K : LaneKept Q)
include K

theorem LaneKept.takeEdge {m : LaneState} (dd : Nat) (x : LaneMode) (e : Edge) (h : Q m) : Q (m.takeEdge dd x e) := by
  have hpair : Q (m.takePairing dd x e) := by
    have h' : ∀ st v n, Q { m with pairing := st, vehicle := v, pairedCount := n } :=
      fun _ _ _ => K.alike (m := m) ⟨rfl, rfl⟩ h
    unfold LaneState.takePairing
    dsimp only
    split
    case h_1 _ sp hp =>
      refine K.vehicle _ (fun y hy => ?_) (h' _ _ _)
      obtain rfl : sp = some y := hy
      exact pairStep_produced hp
    case h_2 => exact h' _ _ _
  have hsingle : Q ((m.takePairing dd x e).takeSingle x e) := by
    unfold LaneState.takeSingle
    split
    · exact K.vehicle _ (fun y hy => by cases hy) hpair
    · exact hpair
  exact K.alike (takeOccupancy_alike _ x e) hsingle

theorem LaneKept.closeWindow {m : LaneState} (t : Stamp) (h : Q m) : Q (m.closeWindow t) := by
  have hc := K.alike (creditOpen_alike m t) h
  unfold LaneState.closeWindow
  dsimp only
  split
  case h_1 w hw => exact K.push hw hc
  case h_2 => exact hc

theorem LaneKept.openWindow {m : LaneState} (seq : Cycle) (t : Stamp) (start closed : Bool) (a b : FaultState) (h : Q m) :
    Q (m.openWindow (openAccum seq t start closed a b)) :=
  K.alike (m := { m with window := some (openAccum seq t start closed a b) }) ⟨rfl, rfl⟩ (K.fresh rfl h)

/-! ### The acts -/

/-- Every lane of a state has a property. -/
def State.allLanesHave (s : State) (Q : LaneState → Prop) : Prop := ∀ l, Q (s.lane l)

omit K in
theorem allLanesHave_setLane {s : State} {l : Lane} {m : LaneState} (hm : Q m) (h : s.allLanesHave Q) :
    (s.setLane l m).allLanesHave Q := by
  intro k
  rw [lane_setLane]
  split
  · exact hm
  · exact h k

omit K in
theorem allLanesHave_of_msu {s t : State} (hmsu : t.msu = s.msu) (h : s.allLanesHave Q) : t.allLanesHave Q := by
  intro l
  rw [State.lane, hmsu]
  exact h l

theorem LaneKept.settleTable {s : State} (h : s.allLanesHave Q) : s.settleTable.allLanesHave Q := by
  intro l
  have hl : s.settleTable.lane l =
      if (s.settleTable.display (laneAddr l)).winner = .redX ∧ (s.display (laneAddr l)).winner ≠ .redX then
        { s.lane l with window := (s.lane l).window.map fun w => { w with closedSeen := true } }
      else s.lane l := Per6.get_build ..
  rw [hl]
  split
  · exact K.alike (laneAlike_window _ _ fun _ => rfl) (h l)
  · exact h l

theorem LaneKept.signAct {s t : State} (hst : SignAct s t) (h : s.allLanesHave Q) : t.allLanesHave Q := by
  cases hst with
  | settleTable => exact K.settleTable h
  | setSpc a lv x => cases x <;> exact h
  | placeGroup k es => exact allLanesHave_of_msu (by unfold State.placeGroup; split <;> rfl) h
  | _ => exact h

theorem LaneKept.raiseFault {s : State} (l : Lane) (p : Loop) (k : FaultKind) (h : s.allLanesHave Q) :
    (s.raiseFault l p k).allLanesHave Q := by
  unfold State.raiseFault
  dsimp only
  split
  · exact h
  · exact allLanesHave_setLane
      (K.alike ((closeIntervalOn_alike (s.lane l) p s.lpi.ms).trans (laneAlike_window _ _ fun _ => rfl)) (h l)) h

theorem LaneKept.countPartner {s : State} (l : Lane) (p : Loop) (h : s.allLanesHave Q) :
    (s.countPartner l p).allLanesHave Q := by
  unfold State.countPartner
  dsimp only
  split
  · exact K.raiseFault _ _ _ h
  · split
    · exact K.raiseFault _ _ _ h
    · exact h

theorem LaneKept.recognise {s : State} (e : Edge) (h : s.allLanesHave Q) : (s.recognise e).allLanesHave Q := by
  unfold State.recognise
  dsimp only
  split
  · exact K.countPartner _ _ h
  · split
    · exact K.raiseFault _ _ _ h
    · exact h

theorem LaneKept.resyncTest {s : State} (l : Lane) (h : s.allLanesHave Q) : (s.resyncTest l).allLanesHave Q := by
  unfold State.resyncTest
  split
  · exact allLanesHave_setLane (K.alike (m := s.lane l) ⟨rfl, rfl⟩ (h l)) h
  · exact h

theorem LaneKept.offerEdge {s : State} (e : Edge) (h : s.allLanesHave Q) : (s.offerEdge e).allLanesHave Q := by
  refine K.resyncTest _ ?_
  split
  · exact h
  · exact allLanesHave_setLane (K.alike (loseEdge_alike ..) (h _)) h

theorem LaneKept.edgeTaken {s : State} (e : Edge) (rest : List Edge) (h : s.allLanesHave Q) :
    (s.takeEdge e rest).allLanesHave Q := by
  unfold State.takeEdge
  dsimp only
  split
  · exact K.resyncTest _ h
  · exact allLanesHave_setLane (K.takeEdge _ _ _ (h _)) h

theorem LaneKept.openWindows {s : State} (b : Bool) (h : s.allLanesHave Q) : (s.openWindows b).allLanesHave Q := by
  intro l
  have hl : (s.openWindows b).lane l = if l.val < s.lanes then
      (s.lane l).openWindow (openAccum s.msu.nextSeq s.lpi.ms b ((s.display (laneAddr l)).winner == .redX)
        (s.loop l .a).fault (s.loop l .b).fault) else s.lane l := Per6.get_build ..
  rw [hl]
  split
  · exact K.openWindow _ _ _ _ _ _ (h l)
  · exact h l

theorem LaneKept.endWindow {s : State} (h : s.allLanesHave Q) : s.endWindow.allLanesHave Q := by
  have hclose : s.closeWindows.allLanesHave Q := fun l => by
    have hl : s.closeWindows.lane l = if l.val < s.lanes then (s.lane l).closeWindow s.lpi.ms else s.lane l :=
      Per6.get_build ..
    rw [hl]
    split
    · exact K.closeWindow _ (h l)
    · exact h l
  have heval : s.closeWindows.evaluateLoops.allLanesHave Q := fun l => by
    have hl : s.closeWindows.evaluateLoops.lane l =
        if l.val < s.lanes then { s.closeWindows.lane l with pairedCount := 0 } else s.closeWindows.lane l :=
      Per6.get_build ..
    rw [hl]
    split
    · exact K.alike (m := s.closeWindows.lane l) ⟨rfl, rfl⟩ (hclose l)
    · exact hclose l
  have hopen := K.openWindows (s := s.closeWindows.evaluateLoops) false heval
  intro l
  have hl : s.endWindow.lane l = if l.val < s.lanes then
      { (s.closeWindows.evaluateLoops.openWindows false).lane l with
        fast := fastOf ((s.closeWindows.evaluateLoops.openWindows false).lane l).ring
        slow := slowOf ((s.closeWindows.evaluateLoops.openWindows false).lane l).ring }
      else (s.closeWindows.evaluateLoops.openWindows false).lane l := Per6.get_build ..
  rw [hl]
  split
  · exact K.alike (m := (s.closeWindows.evaluateLoops.openWindows false).lane l) ⟨rfl, rfl⟩ (hopen l)
  · exact hopen l

theorem LaneKept.signRun {s t : State} (hst : SignRun s t) (h : s.allLanesHave Q) : t.allLanesHave Q :=
  reflTransGen_keeps (R := SignAct) (P := fun s => s.allLanesHave Q) (fun _ _ => K.signAct) hst h

theorem LaneKept.joinAct {s t : State} (hst : JoinAct s t) (h : s.allLanesHave Q) : t.allLanesHave Q := by
  cases hst with
  | sign hs => exact K.signAct hs h
  | openWindows => exact K.openWindows true h
  | _ => exact h

theorem LaneKept.act {s t : State} (hst : Act s t) (h : s.allLanesHave Q) : t.allLanesHave Q := by
  cases hst with
  | sign hs => exact K.signAct hs h
  | edge e => exact K.offerEdge e (K.recognise e h)
  | raiseFault l p k => exact K.raiseFault l p k h
  | takeEdge e rest => exact K.edgeTaken e rest h
  | endWindow => exact K.endWindow h
  | closures w hw =>
    have hset : w.s.settle.allLanesHave Q := K.signRun (settle_run _) (allLanesHave_of_msu hw.msu h)
    split <;> exact hset
  | endDiscovery =>
    exact reflTransGen_keeps (R := JoinAct) (P := fun s => s.allLanesHave Q) (fun _ _ => K.joinAct) (endDiscovery_run s) h
  | _ => exact h

theorem LaneKept.released {s t : State} {st : Straps} (hr : Released s st t) (h : s.allLanesHave Q) : t.allLanesHave Q := by
  have hfollow : ∀ {u : State}, u.allLanesHave Q → u.followHold.allLanesHave Q := fun {u} hu =>
    allLanesHave_of_msu (by unfold State.followHold; split <;> rfl) hu
  have hanew : ∀ {u : State}, LoopsAnew (s.strapped st .discover) u → u.allLanesHave Q := fun {u} hu l =>
    K.alike (m := s.lane l) ⟨hu.ring l, by rw [hu.window l]; rfl⟩ (h l)
  cases hr with
  | stopped => exact hfollow (u := s.strapped st .stopped) h
  | held u hu => exact hfollow (hanew hu)
  | discover u hu => exact hanew (u := u) hu

theorem LaneKept.step {s t : State} (reset : Q LaneState.reset) (h : step s = .next t) (hs : s.allLanesHave Q) :
    t.allLanesHave Q :=
  step_keeps (P := fun s => s.allLanesHave Q)
    (fun s u _ l => by
      have hl : (s.atReset u).lane l = LaneState.reset := Per6.get_all ..
      rw [hl]; exact reset)
    (fun s st x _ hs => K.released (releaseReset_released s st x) hs) (fun _ _ => K.act) (fun _ _ hs => hs) h hs

end

/-! ### The bounds of windows and rings -/

/-- R21, R22: the bounds of a current window. -/
def LaneState.windowSound (m : LaneState) : Prop :=
  ∀ w, m.window = some w → w.speedCount ≤ w.count ∧ w.count ≤ 4095 ∧ w.speedSum ≤ 250 * w.speedCount

/-- R22, R28: the bounds of the records of a ring. -/
def LaneState.ringSound (m : LaneState) : Prop :=
  ∀ r ∈ m.ring, r.speedCount ≤ r.count ∧ r.count ≤ 4095 ∧ r.speedSum ≤ 250 * r.speedCount

theorem LaneAlike.windowSound {m n : LaneState} (h : LaneAlike m n) (hm : m.windowSound) : n.windowSound := by
  intro w hw
  have hc := h.2
  rw [hw] at hc
  obtain ⟨v, hv, hvw⟩ := Option.map_eq_some_iff.1 hc.symm
  obtain ⟨h1, h2, h3⟩ : v.count = w.count ∧ v.speedCount = w.speedCount ∧ v.speedSum = w.speedSum := by
    simpa [Accum.counts] using hvw
  rw [← h1, ← h2, ← h3]
  exact hm v hv

theorem handVehicle_windowSound {m : LaneState} {v : VehicleRecord} (hv : v.sound) (hm : m.windowSound) :
    (m.handVehicle v).windowSound := by
  intro w hw
  obtain ⟨u, hu, rfl⟩ := Option.map_eq_some_iff.1 hw
  obtain ⟨h1, h2, h3⟩ := hm u hu
  unfold Accum.addVehicle
  split
  · split
    case h_1 x hx =>
      have := hv x hx
      dsimp only
      omega
    case h_2 => dsimp only; omega
  · exact ⟨h1, h2, h3⟩

theorem fresh_windowSound {m : LaneState} {w : Accum} (hw : w.counts = (0, 0, 0)) :
    LaneState.windowSound { m with window := some w } := by
  intro v hv
  cases hv
  simp only [Accum.counts, Prod.mk.injEq] at hw
  omega

theorem laneKept_windowSound : LaneKept LaneState.windowSound where
  alike h hm := h.windowSound hm
  vehicle _ hv hm := handVehicle_windowSound hv hm
  push _ _ := fun _ hw => by cases hw
  fresh hw _ := fresh_windowSound hw

theorem mem_of_mem_pushRecord {ring : List WindowRecord} {r x : WindowRecord} (h : x ∈ pushRecord ring r) :
    x ∈ ring ∨ x = r := by
  have := List.mem_of_mem_drop h
  simpa using this

theorem length_pushRecord_le (ring : List WindowRecord) (r : WindowRecord) : (pushRecord ring r).length ≤ 8 := by
  unfold pushRecord
  rw [List.length_drop, List.length_append, List.length_singleton]
  omega

theorem laneKept_ringSound : LaneKept fun m => m.windowSound ∧ m.ringSound where
  alike h hm := ⟨h.windowSound hm.1, by unfold LaneState.ringSound; rw [h.1]; exact hm.2⟩
  vehicle _ hv hm := ⟨handVehicle_windowSound hv hm.1, hm.2⟩
  push hw hm := by
    refine ⟨(fun _ h => by cases h), fun r hr => ?_⟩
    rcases mem_of_mem_pushRecord hr with h | rfl
    · exact hm.2 r h
    · exact hm.1 _ hw
  fresh hw hm := ⟨fresh_windowSound hw, hm.2⟩

theorem laneKept_ringLength : LaneKept fun m => m.ring.length ≤ 8 where
  alike h hm := by rw [h.1]; exact hm
  vehicle _ _ hm := hm
  push _ _ := length_pushRecord_le ..
  fresh _ hm := hm

end Sys2Proof.Machine
end

section
/-! O55: the bounds of the queues, rings and lists, medium access, and the tables kept by id or position. -/

namespace Sys2Proof.Machine

/-! ### Blocks that few acts touch -/

theorem JoinAct.straps {s t : State} (h : JoinAct s t) : t.stu.straps = s.stu.straps := by
  cases h with
  | sign h => rw [h.same.stu]
  | _ => rfl

theorem JoinAct.nbt {s t : State} (h : JoinAct s t) : t.nbt = s.nbt := by
  cases h with
  | sign h => exact h.same.nbt
  | _ => rfl

theorem JoinAct.queue {s t : State} (h : JoinAct s t) : t.lpi.queue = s.lpi.queue := by
  cases h with
  | sign h => rw [h.same.lpi]
  | _ => rfl

theorem JoinAct.ceilings {s t : State} (h : JoinAct s t) : t.spc.ceilings = s.spc.ceilings := by
  cases h with
  | sign h => rw [h.same.spc]
  | drive => unfold State.drive; dsimp only; split <;> rfl
  | _ => rfl

theorem JoinAct.inReset {s t : State} (h : JoinAct s t) (ht : t.stu.station = .inReset) : s.stu.station = .inReset := by
  cases h with
  | sign h => rw [← h.same.stu]; exact ht
  | startJoin => cases ht
  | _ => exact ht

/-- What every act of a run of the end of discovery leaves, the run leaves. -/
theorem JoinRun.leaves {α : Type} (f : State → α) (act : ∀ s t, JoinAct s t → f t = f s) {s t : State} (h : JoinRun s t) :
    f t = f s :=
  reflTransGen_rel (R := JoinAct) (S := fun s t => f t = f s) (fun _ => rfl) (fun _ _ _ h g => g.trans h) act h

theorem JoinRun.inReset {s t : State} (h : JoinRun s t) (ht : t.stu.station = .inReset) : s.stu.station = .inReset :=
  reflTransGen_rel (R := JoinAct) (S := fun s t => t.stu.station = .inReset → s.stu.station = .inReset) (fun _ => id)
    (fun _ _ _ h g => h ∘ g) (fun _ _ => JoinAct.inReset) h ht

/-- R178: the straps are read at a release alone. -/
theorem Act.straps {s t : State} (h : Act s t) : t.stu.straps = s.stu.straps := by
  cases h with
  | sign h => rw [h.same.stu]
  | edge e => rw [(edge_same s e).stu]
  | raiseFault => rw [(raiseFault_same ..).stu]
  | takeEdge => rw [(takeEdge_same ..).stu]
  | closures w h => rw [(closures_same h).stu]
  | endDiscovery => exact (endDiscovery_run s).leaves (·.stu.straps) fun _ _ => JoinAct.straps
  | _ => rfl

/-- No act leads into RESET. -/
theorem Act.inReset {s t : State} (h : Act s t) (ht : t.stu.station = .inReset) : s.stu.station = .inReset := by
  cases h with
  | sign h => rw [← h.same.stu]; exact ht
  | enterRun => cases ht
  | edge e => rw [← (edge_same s e).stu]; exact ht
  | raiseFault l p k => rw [← (raiseFault_same s l p k).stu]; exact ht
  | takeEdge e rest => rw [← (takeEdge_same s e rest).stu]; exact ht
  | closures w h => rw [← (closures_same h).stu]; exact ht
  | endDiscovery => exact (endDiscovery_run s).inReset ht
  | _ => exact ht

/-! ### The edge queue (R4) -/

section
variable (s : State)

theorem raiseFault_queue (l : Lane) (p : Loop) (k : FaultKind) : (s.raiseFault l p k).lpi.queue = s.lpi.queue := by
  unfold State.raiseFault
  dsimp only
  split <;> rfl

theorem recognise_queue (e : Edge) : (s.recognise e).lpi.queue = s.lpi.queue := by
  unfold State.recognise
  dsimp only
  split
  · unfold State.countPartner
    dsimp only
    split
    · exact raiseFault_queue ..
    · split
      · exact raiseFault_queue ..
      · rfl
  · split
    · exact raiseFault_queue ..
    · rfl

theorem resyncTest_queue (l : Lane) : (s.resyncTest l).lpi.queue = s.lpi.queue := by
  unfold State.resyncTest; split <;> rfl

theorem offerEdge_queue (e : Edge) :
    (s.offerEdge e).lpi.queue = if s.lpi.queue.length < 64 then s.lpi.queue ++ [e] else s.lpi.queue := by
  unfold State.offerEdge
  rw [resyncTest_queue]
  split <;> rfl

theorem takeEdge_queue (e : Edge) (rest : List Edge) : (s.takeEdge e rest).lpi.queue = rest := by
  unfold State.takeEdge
  dsimp only
  split
  · exact resyncTest_queue ..
  · rfl

end

theorem Act.edgeQueue {s t : State} (h : Act s t) (hs : s.lpi.queue.length ≤ 64) : t.lpi.queue.length ≤ 64 := by
  cases h with
  | sign h => rw [h.same.lpi]; exact hs
  | edge e =>
    rw [offerEdge_queue, recognise_queue]
    split
    · rw [List.length_append, List.length_singleton]; omega
    · exact hs
  | raiseFault l p k => rw [raiseFault_queue]; exact hs
  | takeEdge e rest h => rw [takeEdge_queue]; rw [h] at hs; exact (Nat.le_succ _).trans hs
  | closures w h => rw [(closures_same h).lpi]; exact hs
  | endDiscovery =>
    rw [(endDiscovery_run s).leaves (·.lpi.queue) fun _ _ => JoinAct.queue]; exact hs
  | _ => exact hs

theorem followHold_lpi (s : State) : s.followHold.lpi = s.lpi := by unfold State.followHold; split <;> rfl

theorem Released.edgeQueue {s t : State} {st : Straps} (h : Released s st t) (hs : s.lpi.queue.length ≤ 64) :
    t.lpi.queue.length ≤ 64 := by
  cases h with
  | stopped => rw [drive_lpi, followHold_lpi]; exact hs
  | held u hu => rw [drive_lpi, followHold_lpi, hu.queue]; exact Nat.zero_le _
  | discover u hu => rw [drive_lpi]; exact hu.queue ▸ Nat.zero_le _

theorem step_edgeQueue {s t : State} (h : step s = .next t) (hs : s.lpi.queue.length ≤ 64) : t.lpi.queue.length ≤ 64 :=
  step_keeps (P := fun s => s.lpi.queue.length ≤ 64) (fun _ _ _ => Nat.zero_le _)
    (fun s st x _ hs => (releaseReset_released s st x).edgeQueue hs) (fun _ _ => Act.edgeQueue) (fun _ _ hs => hs) h hs

/-! ### The change queue (R149) -/

theorem length_mergeFirst (es : List ChangeEntry) (q : List Group) : (mergeFirst es q).length = q.length := by
  induction q with
  | nil => rfl
  | cons g rest ih => unfold mergeFirst; split <;> simp [ih]

theorem length_mergeLast (es : List ChangeEntry) (q : List Group) : (mergeLast es q).length = q.length := by
  unfold mergeLast
  split
  case h_1 g rest hq =>
    split
    · rfl
    · rw [← List.length_reverse (as := q), hq, List.length_reverse, List.length_cons, List.length_cons]
  case h_2 => rfl

theorem length_placeUrgent_le (g : Group) (q : List Group) (h : q.length ≤ 8) : (placeUrgent g q).length ≤ 8 := by
  unfold placeUrgent
  split
  · split
    · split <;> (simp only [List.length_cons] at *; omega)
    · simp
  · rw [length_mergeFirst]; exact h

theorem length_placeNormal_le (g : Group) (q : List Group) (h : q.length ≤ 8) : (placeNormal g q).length ≤ 8 := by
  unfold placeNormal
  split
  · rw [List.length_append, List.length_singleton]; omega
  · rw [length_mergeLast]; exact h

theorem SignAct.groups {s t : State} (h : SignAct s t) (hs : s.asa.queue.length ≤ 8) : t.asa.queue.length ≤ 8 := by
  cases h with
  | setSpc a lv x => cases x <;> exact hs
  | unqueue as =>
    refine (List.length_filter_le _ _).trans ?_
    rw [List.length_map]; exact hs
  | placeGroup k es =>
    unfold State.placeGroup
    split
    · exact hs
    · cases k
      · exact length_placeUrgent_le _ _ hs
      · exact length_placeNormal_le _ _ hs
  | leave => exact (List.length_filter_le _ _).trans hs
  | sendHead g rest a h => rw [h] at hs; exact hs
  | _ => exact hs

/-- A property of the Aspect Arbiter, given the lane count, that its own acts and the placements and withdrawals of the
Closure Table keep. -/
structure AsaKept (P : State → Prop) : Prop where
  congr : ∀ {s t : State}, t.stu.straps = s.stu.straps → t.asa = s.asa → P s → P t
  sign : ∀ {s t : State}, SignAct s t → P s → P t
  work : TableKept P
  ordered : ∀ {s : State}, P s → P s.takeOrdered

section
variable {P : State → Prop} (K : AsaKept P)
include K

theorem AsaKept.joinAct {s t : State} (h : JoinAct s t) (hs : P s) : P t := by
  cases h with
  | sign h => exact K.sign h hs
  | takeOrdered => exact K.ordered hs
  | placeOrphan l => exact K.work.place _ _ hs
  | _ => exact K.congr (s := s) rfl rfl hs

theorem AsaKept.signRun {s t : State} (h : SignRun s t) (hs : P s) : P t :=
  reflTransGen_keeps (R := SignAct) (P := P) (fun _ _ => K.sign) h hs

theorem AsaKept.act {s t : State} (h : Act s t) (hs : P s) : P t := by
  have hsame : t.asa = s.asa → P t := fun ht => K.congr h.straps ht hs
  cases h with
  | sign h => exact K.sign h hs
  | edge e => exact hsame (edge_same s e).asa
  | raiseFault l p k => exact hsame (raiseFault_same ..).asa
  | takeEdge e rest h => exact hsame (takeEdge_same ..).asa
  | closures w h =>
    have hset : P w.s.settle := K.signRun (settle_run w.s) (K.work.workRun h hs)
    split
    · exact K.congr (s := w.s.settle) rfl rfl hset
    · exact hset
  | endDiscovery =>
    exact reflTransGen_keeps (R := JoinAct) (P := P) (fun _ _ => K.joinAct) (endDiscovery_run s) hs
  | _ => exact hsame rfl

end

theorem followHold_asa (s : State) : s.followHold.asa = s.asa := by unfold State.followHold; split <;> rfl

/-- A release leaves the Aspect Arbiter as it is. -/
theorem Released.asa {s t : State} {st : Straps} (h : Released s st t) : t.asa = s.asa := by
  cases h with
  | stopped => rw [drive_asa, followHold_asa]; rfl
  | held u hu => rw [drive_asa, followHold_asa, hu.same.asa]; rfl
  | discover u hu => rw [drive_asa]; exact hu.same.asa

theorem AsaKept.step {P : Asa → Prop} (K : AsaKept fun s => P s.asa) (reset : P Asa.reset) {s t : State}
    (h : step s = .next t) (hs : P s.asa) : P t.asa :=
  step_keeps (P := fun s => P s.asa) (fun _ _ _ => reset)
    (fun s st x _ hs => by rw [(releaseReset_released s st x).asa]; exact hs) (fun _ _ => K.act) (fun _ _ hs => hs) h hs

/-- A property of the change queue that the Aspect Arbiter's acts keep. -/
theorem asaKept_of_queue {P : List Group → Prop} (sign : ∀ {s t : State}, SignAct s t → P s.asa.queue → P t.asa.queue) :
    AsaKept fun s => P s.asa.queue where
  congr _ ha h := by rw [ha]; exact h
  sign := sign
  work :=
    { place := fun _ _ h => h, keep := fun _ h => h, put := fun _ _ h => h, room := fun _ h => h, drop := fun _ h => h,
      refuse := fun _ h => h, unrefuse := fun _ h => h, dropOrphan := fun _ h => h }
  ordered h := h

theorem asaKept_groups : AsaKept fun s => s.asa.queue.length ≤ 8 :=
  asaKept_of_queue (P := fun q => q.length ≤ 8) SignAct.groups

/-! ### The closure records and the refused list (R95, R102) -/

theorem followHold_clt (s : State) : s.followHold.clt = s.clt := by unfold State.followHold; split <;> rfl

/-- A release leaves the closure table as it is. -/
theorem Released.clt {s t : State} {st : Straps} (h : Released s st t) : t.clt = s.clt := by
  cases h with
  | stopped => rw [drive_clt, followHold_clt]; rfl
  | held u hu => rw [drive_clt, followHold_clt, hu.same.clt]; rfl
  | discover u hu => rw [drive_clt]; exact hu.same.clt

/-- Records and refused list stay at the end of discovery. -/
theorem JoinAct.closures {s t : State} (h : JoinAct s t) :
    (t.clt.records, t.clt.refused) = (s.clt.records, s.clt.refused) := by
  cases h with
  | sign h => rw [h.same.clt]
  | _ => rfl

theorem endDiscovery_closures (s : State) :
    (s.endDiscovery.clt.records, s.endDiscovery.clt.refused) = (s.clt.records, s.clt.refused) :=
  (endDiscovery_run s).leaves (fun s => (s.clt.records, s.clt.refused)) fun _ _ => JoinAct.closures

theorem settle_clt (s : State) : s.settle.clt = s.clt := (settle_run s).same.clt

/-- A property of the closure table that its changes and the tick keep, and that does not speak of the orphan set. -/
structure CltKept (P : Clt → Prop) : Prop where
  work : TableKept fun s => P s.clt
  tick : ∀ s : State, P s.clt → P s.tick.clt
  same : ∀ c d : Clt, d.records = c.records → d.refused = c.refused → P c → P d

section
variable {P : Clt → Prop} (K : CltKept P)
include K

theorem CltKept.act {s t : State} (h : Act s t) (hs : P s.clt) : P t.clt := by
  cases h with
  | sign h => rw [h.same.clt]; exact hs
  | tick => exact K.tick s hs
  | edge e => rw [(edge_same s e).clt]; exact hs
  | raiseFault l p k => rw [(raiseFault_same ..).clt]; exact hs
  | takeEdge e rest h => rw [(takeEdge_same ..).clt]; exact hs
  | unrefuse id => exact K.work.unrefuse id hs
  | closures w h =>
    have hset : P w.s.settle.clt := by rw [settle_clt]; exact K.work.workRun h hs
    split <;> exact hset
  | endDiscovery =>
    obtain ⟨hr, hf⟩ := Prod.mk.injEq .. ▸ endDiscovery_closures s
    exact K.same _ _ hr hf hs
  | _ => exact hs

theorem CltKept.step (reset : P Clt.reset) {s t : State} (h : step s = .next t) (hs : P s.clt) : P t.clt :=
  step_keeps (P := fun s => P s.clt) (fun _ _ _ => reset)
    (fun s st x _ hs => by rw [(releaseReset_released s st x).clt]; exact hs) (fun _ _ => K.act) (fun _ _ hs => hs) h hs

end

theorem length_refusedAfter_le (rs : List Refused) (id : Nat) (h : rs.length ≤ 4) : (refusedAfter rs id).length ≤ 4 := by
  have hf : (rs.filter fun r => r.id != id).length ≤ rs.length := List.length_filter_le ..
  unfold refusedAfter
  dsimp only
  rw [List.length_append, List.length_singleton]
  split
  · omega
  · rw [List.length_drop]; omega

theorem tableKept_refused : TableKept fun s => s.clt.refused.length ≤ 4 where
  place _ _ h := h
  keep _ h := h
  put _ _ h := h
  room _ h := h
  drop _ h := h
  refuse id h := length_refusedAfter_le _ id h
  unrefuse _ h := (List.length_filter_le _ _).trans h
  dropOrphan _ h := h

theorem cltKept_refused : CltKept fun c => c.refused.length ≤ 4 where
  work := tableKept_refused
  tick s hs := by rw [show s.tick.clt.refused = s.clt.refused.map Refused.tick from rfl, List.length_map]; exact hs
  same _ _ _ hf hs := by rw [hf]; exact hs

/-- R95: at most 8 records, in ascending order of id. -/
def Clt.sound (c : Clt) : Prop := c.records.length ≤ 8 ∧ (c.records.map ClosureRecord.id).Pairwise (· < ·)

theorem closuresSound_iff (s : State) : s.closuresSound ↔ s.clt.sound :=
  and_congr_right fun _ => rising_iff_pairwise _

theorem oldestTombstone_mem {rs : List ClosureRecord} {r : ClosureRecord} (h : oldestTombstone rs = some r) : r ∈ rs := by
  induction rs generalizing r with
  | nil => cases h
  | cons x rest ih =>
    unfold oldestTombstone at h
    split at h
    · split at h
      · cases h
      · cases h; exact List.mem_cons_self
    case h_2 q hq =>
      split at h
      · cases h; exact List.mem_cons_self
      · cases h; exact List.mem_cons_of_mem _ (ih hq)

theorem length_filter_ne_lt {α : Type} {f : α → Nat} {xs : List α} {x : α} (h : x ∈ xs) :
    (xs.filter fun y => f y != f x).length < xs.length := by
  rw [List.length_filter_lt_length_iff_exists]
  exact ⟨x, h, by simp⟩

/-- R101: room is room for one. -/
theorem roomFor_length {rs qs : List ClosureRecord} (h : roomFor rs = some qs) (hrs : rs.length ≤ 8) : qs.length < 8 := by
  unfold roomFor at h
  split at h
  case isTrue hlt => cases h; exact hlt
  case isFalse =>
    obtain ⟨r, hr, rfl⟩ := Option.map_eq_some_iff.1 h
    exact (length_filter_ne_lt (f := ClosureRecord.id) (oldestTombstone_mem hr)).trans_le hrs

theorem roomFor_sublist {rs qs : List ClosureRecord} (h : roomFor rs = some qs) : qs.Sublist rs := by
  unfold roomFor at h
  split at h
  · cases h; exact .refl _
  · obtain ⟨r, -, rfl⟩ := Option.map_eq_some_iff.1 h
    exact List.filter_sublist

theorem Clt.sound.sublist {c : Clt} (h : c.sound) {rs : List ClosureRecord} (hrs : rs.Sublist c.records) :
    rs.length ≤ 8 ∧ (rs.map ClosureRecord.id).Pairwise (· < ·) :=
  ⟨hrs.length_le.trans h.1, h.2.sublist (hrs.map _)⟩

theorem tableKept_closuresSound : TableKept fun s => s.clt.sound where
  place _ _ h := h
  keep _ h := h
  put {s} r hslot h := by
    refine ⟨?_, ?_⟩
    · show (insertRecord r s.clt.records).length ≤ 8
      rw [insertRecord_eq]
      have hle := length_insertBy_le ClosureRecord.id r s.clt.records
      rcases hslot with ⟨r0, hr0⟩ | hlt | ⟨u, id, hu, hroom⟩
      · rw [length_insertBy_of_mem h.2 ⟨r0, mem_records_of_record s hr0, record_id s hr0⟩]
        exact h.1
      · omega
      · have := roomFor_length hroom ((List.length_filter_le _ _).trans hu.1)
        omega
    · show ((insertRecord r s.clt.records).map ClosureRecord.id).Pairwise (· < ·)
      rw [insertRecord_eq]
      exact pairwise_insertBy r h.2
  room hroom h := h.sublist ((roomFor_sublist hroom).trans List.filter_sublist)
  drop _ h := h.sublist List.filter_sublist
  refuse _ h := h
  unrefuse _ h := h
  dropOrphan _ h := h

theorem tick_recordIds (s : State) : s.tick.clt.records.map ClosureRecord.id = s.clt.records.map ClosureRecord.id := by
  show (s.clt.records.map ClosureRecord.tick).map ClosureRecord.id = _
  rw [List.map_map]
  exact congrArg (fun f => s.clt.records.map f) (funext fun _ => rfl)

theorem cltKept_sound : CltKept Clt.sound where
  work := tableKept_closuresSound
  tick s hs := by
    refine ⟨?_, by rw [tick_recordIds]; exact hs.2⟩
    rw [show s.tick.clt.records = s.clt.records.map ClosureRecord.tick from rfl, List.length_map]
    exact hs.1
  same c d hr _ hc := by unfold Clt.sound; rw [hr]; exact hc

theorem step_closuresSound {s t : State} (h : step s = .next t) (hs : s.closuresSound) : t.closuresSound := by
  rw [closuresSound_iff] at hs ⊢
  exact cltKept_sound.step ⟨Nat.zero_le _, List.Pairwise.nil⟩ h hs

/-! ### The Corridor Link (R40 to R43, R46) -/

/-- A property of the Corridor Link that its acts keep and that does not speak of its timer and of `announce owed`. -/
structure CrlKept (P : Crl → Prop) : Prop where
  act : ∀ {p : Nat} {c d : Crl}, CrlAct p c d → P c → P d
  timer : ∀ {c : Crl} (x : Option Nat) (b : Bool), P c → P { c with beatTimer := x, announceOwed := b }

theorem CrlKept.joinAct {P : Crl → Prop} (K : CrlKept P) {s t : State} (h : JoinAct s t) (hs : P s.crl) : P t.crl := by
  cases h with
  | sign h => rw [h.same.crl]; exact hs
  | startJoin => exact K.timer _ _ hs
  | _ => exact hs

theorem CrlKept.partAct {P : Crl → Prop} (K : CrlKept P) {s t : State} (h : Act s t) (hs : P s.crl) : P t.crl := by
  cases h with
  | sign h => rw [h.same.crl]; exact hs
  | tick => exact K.timer _ _ hs
  | edge e => rw [(edge_same s e).crl]; exact hs
  | raiseFault l p k => rw [(raiseFault_same ..).crl]; exact hs
  | takeEdge e rest h => rw [(takeEdge_same ..).crl]; exact hs
  | crl c h => exact K.act h hs
  | closures w h => rw [(closures_same h).crl]; exact hs
  | endDiscovery =>
    exact reflTransGen_keeps (R := JoinAct) (P := fun s => P s.crl) (fun _ _ => K.joinAct) (endDiscovery_run s) hs
  | _ => exact hs

theorem followHold_crl (s : State) : s.followHold.crl = s.crl := by unfold State.followHold; split <;> rfl

/-- A release leaves the Corridor Link as it is. -/
theorem Released.crl {s t : State} {st : Straps} (h : Released s st t) : t.crl = s.crl := by
  cases h with
  | stopped => rw [drive_crl, followHold_crl]; rfl
  | held u hu => rw [drive_crl, followHold_crl, hu.same.crl]; rfl
  | discover u hu => rw [drive_crl]; exact hu.same.crl

theorem CrlKept.step {P : Crl → Prop} (K : CrlKept P) (reset : P Crl.reset) {s t : State} (h : step s = .next t)
    (hs : P s.crl) : P t.crl :=
  step_keeps (P := fun s => P s.crl) (fun _ _ _ => reset)
    (fun s st x _ hs => by rw [(releaseReset_released s st x).crl]; exact hs) (fun _ _ => K.partAct) (fun _ _ hs => hs) h hs

theorem hand_clashTimer (c : Crl) (f : TxFrame) : (c.hand f).clashTimer = c.clashTimer := by
  unfold Crl.hand; split <;> rfl

theorem countRepeat_clashTimer (c : Crl) : c.countRepeat.clashTimer = c.clashTimer := by
  unfold Crl.countRepeat; split <;> rfl

theorem promote_clashTimer (c : Crl) : c.promote.clashTimer = c.clashTimer := by unfold Crl.promote; split <;> rfl

theorem sentFrame_clashTimer (c : Crl) : c.sentFrame.clashTimer = c.clashTimer := by
  unfold Crl.sentFrame
  rw [promote_clashTimer]
  split <;> rfl

theorem crlKept_clashTimer : CrlKept fun c => c.clashTimer ≤ 30 where
  act {p c d} h hc := by
    cases h with
    | line => exact hc
    | setClash => exact Nat.zero_le _
    | clearClash => exact Nat.zero_le _
    | oweFull => exact hc
    | beat es f =>
      rw [hand_clashTimer, countRepeat_clashTimer]
      show (if c.clash then satAdd 30 c.clashTimer else c.clashTimer) ≤ 30
      unfold satAdd
      split
      · split <;> omega
      · exact hc
    | start => exact hc
    | sent => show c.sentFrame.clashTimer ≤ 30; rw [sentFrame_clashTimer]; exact hc
    | collide =>
      show (c.collide p).clashTimer ≤ 30
      unfold Crl.collide
      split
      · rw [promote_clashTimer]; exact hc
      · exact hc
    | endBackoff => unfold Crl.endBackoff; split <;> exact hc
  timer _ _ h := h

/-- Medium access does not speak of the line, the frame's contents and the counts. -/
theorem accessSound_congr {c d : Crl} (hn : d.nextFrame = none ↔ c.nextFrame = none)
    (hp : d.pendingFrame = none ↔ c.pendingFrame = none) (hphase : d.phase = c.phase) (ha : d.attempt = c.attempt)
    (hb : d.backoff = c.backoff) (h : c.accessSound) : d.accessSound := by
  unfold Crl.accessSound
  rw [Ne, hn, hp, hphase, ha, hb]
  exact h

theorem promote_accessSound {c : Crl} (h : c.accessSound) : c.promote.accessSound := by
  obtain ⟨-, -, ha, -, -⟩ := h
  unfold Crl.promote
  split
  · exact ⟨fun h => absurd rfl h, ⟨nofun, nofun⟩, Nat.zero_le _, fun _ => Nat.zero_le _,
      nofun⟩
  case h_2 hn =>
    exact ⟨fun h => absurd hn h, ⟨fun _ => rfl, fun _ => rfl⟩, ha, nofun, nofun⟩

theorem hand_accessSound {c : Crl} (f : TxFrame) (hn : c.nextFrame ≠ none → c.phase = .sending)
    (hp : c.phase = .sending → c.pendingFrame ≠ none) (ha : c.attempt ≤ 6) : (c.hand f).accessSound := by
  unfold Crl.hand
  split
  case isTrue hs =>
    refine ⟨fun _ => hs, ⟨fun h => absurd h (hp hs), fun h => ?_⟩, ha, fun h => ?_, fun h => ?_⟩ <;>
      · have := hs.symm.trans h; cases this
  case isFalse hs =>
    exact ⟨fun h => absurd (hn h) hs, ⟨nofun, nofun⟩, Nat.zero_le _, fun _ => Nat.zero_le _,
      nofun⟩

theorem backoffSlots_bounds (p a : Nat) : 1 ≤ backoffSlots p a ∧ backoffSlots p a ≤ 16 := by
  unfold backoffSlots; omega

theorem CrlAct.accessSound {p : Nat} {c d : Crl} (h : CrlAct p c d) (hc : c.accessSound) : d.accessSound := by
  have ⟨hnext, hpend, hatt, hwait, hback⟩ := hc
  cases h with
  | line => exact hc
  | setClash => exact hc
  | clearClash => exact hc
  | oweFull => exact accessSound_congr Option.map_eq_none_iff Option.map_eq_none_iff rfl rfl rfl hc
  | beat es f =>
    have hrep : ∀ x : Crl, x.countRepeat.nextFrame = x.nextFrame ∧ x.countRepeat.phase = x.phase ∧
        x.countRepeat.pendingFrame = x.pendingFrame ∧ x.countRepeat.attempt = x.attempt := fun x => by
      unfold Crl.countRepeat; split <;> exact ⟨rfl, rfl, rfl, rfl⟩
    obtain ⟨h1, h2, h3, h4⟩ := hrep (c.beatStart.updateVersion es)
    refine hand_accessSound f ?_ ?_ ?_
    · rw [h1, h2]; exact hnext
    · rw [h2, h3]
      intro (hs : c.phase = .sending)
      show (if c.phase = .sending then c.pendingFrame else none) ≠ none
      rw [if_pos hs]
      intro hn
      rw [hpend.1 hn] at hs
      cases hs
    · rw [h4]; exact hatt
  | start hp hf =>
    have := hwait hp
    refine ⟨fun _ => rfl, ⟨fun h => absurd h hf, nofun⟩, ?_, nofun, nofun⟩
    show c.attempt + 1 ≤ 6
    omega
  | sent hs =>
    refine accessSound_congr (c := c.sentFrame) .rfl .rfl rfl rfl rfl ?_
    unfold Crl.sentFrame
    refine promote_accessSound ?_
    split <;> exact hc
  | collide hs =>
    refine accessSound_congr (c := c.collide p) .rfl .rfl rfl rfl rfl ?_
    unfold Crl.collide
    split
    · exact promote_accessSound hc
    case h_2 hn =>
      refine ⟨fun h => absurd hn h, ⟨fun h => ?_, nofun⟩, hatt, nofun,
        fun _ => backoffSlots_bounds ..⟩
      rw [hpend.1 h] at hs
      cases hs
  | endBackoff hs =>
    have hnone : c.nextFrame = none := by
      by_contra h
      rw [hnext h] at hs
      cases hs
    have hsome : c.pendingFrame ≠ none := fun h => by rw [hpend.1 h] at hs; cases hs
    unfold Crl.endBackoff
    split
    case isTrue hlt =>
      exact ⟨fun h => absurd hnone h, ⟨fun h => absurd h hsome, nofun⟩, hatt, fun _ => Nat.le_of_lt_succ hlt,
        nofun⟩
    case isFalse =>
      exact ⟨fun h => absurd hnone h, ⟨fun _ => rfl, fun _ => rfl⟩, hatt, nofun, nofun⟩

theorem crlKept_accessSound : CrlKept Crl.accessSound where
  act h hc := h.accessSound hc
  timer _ _ h := h

theorem reset_accessSound : Crl.reset.accessSound :=
  ⟨fun h => absurd rfl h, ⟨fun _ => rfl, fun _ => rfl⟩, Nat.zero_le _, nofun, nofun⟩

/-! ### The ceiling records (R79, R80) -/

/-- R79, R80: the ceiling table is sound. -/
def CeilingTable (cs : List Ceiling) : Prop :=
  cs.length ≤ 4 ∧ (cs.map Ceiling.id).Pairwise (· < ·) ∧ ∀ c ∈ cs, 1 ≤ c.id ∧ c.id ≤ 15 ∧ c.last ≤ 999 ∧ 1 ≤ c.first

theorem ceilingsSound_iff (s : State) : s.ceilingsSound ↔ CeilingTable s.spc.ceilings :=
  and_congr_right fun _ => and_congr_left fun _ => rising_iff_pairwise _

theorem CeilingTable.sublist {cs ds : List Ceiling} (h : CeilingTable cs) (hd : ds.Sublist cs) : CeilingTable ds :=
  ⟨hd.length_le.trans h.1, h.2.1.sublist (hd.map _), fun c hc => h.2.2 c (hd.subset hc)⟩

theorem soonest_mem {cs : List Ceiling} {c : Ceiling} (h : soonest cs = some c) : c ∈ cs := by
  induction cs generalizing c with
  | nil => cases h
  | cons x rest ih =>
    unfold soonest at h
    split at h
    · cases h; exact List.mem_cons_self
    case h_2 d hd =>
      split at h
      · cases h; exact List.mem_cons_self
      · cases h; exact List.mem_cons_of_mem _ (ih hd)

theorem soonest_isSome {cs : List Ceiling} (h : cs ≠ []) : ∃ c, soonest cs = some c := by
  cases cs with
  | nil => exact absurd rfl h
  | cons x rest =>
    unfold soonest
    split
    · exact ⟨_, rfl⟩
    · split <;> exact ⟨_, rfl⟩

theorem CeilingTable.insert {cs : List Ceiling} {c : Ceiling} (h : CeilingTable cs)
    (hc : 1 ≤ c.id ∧ c.id ≤ 15 ∧ c.last ≤ 999 ∧ 1 ≤ c.first) (hlen : (insertCeiling c cs).length ≤ 4) :
    CeilingTable (insertCeiling c cs) := by
  refine ⟨hlen, ?_, fun d hd => ?_⟩
  · rw [insertCeiling_eq]; exact pairwise_insertBy c h.2.1
  · rw [insertCeiling_eq] at hd
    rcases mem_of_mem_insertBy _ _ hd with rfl | hd
    · exact hc
    · exact h.2.2 d hd

theorem installCeiling_table {cs : List Ceiling} {c : Ceiling} (h : CeilingTable cs)
    (hc : 1 ≤ c.id ∧ c.id ≤ 15 ∧ c.last ≤ 999 ∧ 1 ≤ c.first) : CeilingTable (installCeiling c cs) := by
  have ⟨hlen, hids, _⟩ := h
  unfold installCeiling
  split
  case isTrue hroom =>
    refine h.insert hc ?_
    rw [insertCeiling_eq]
    rcases hroom with hany | hlt
    · obtain ⟨d, hd, hid⟩ := List.any_eq_true.1 hany
      rw [length_insertBy_of_mem hids ⟨d, hd, by simpa using hid⟩]
      exact hlen
    · have := length_insertBy_le Ceiling.id c cs
      omega
  case isFalse hfull =>
    have hne : cs ≠ [] := fun h0 => hfull (.inr (by rw [h0]; decide))
    obtain ⟨d, hd⟩ := soonest_isSome hne
    rw [hd]
    refine (h.sublist List.filter_sublist).insert hc ?_
    rw [insertCeiling_eq]
    have hlt : (cs.filter fun x => x.id != d.id).length < cs.length := length_filter_ne_lt (f := Ceiling.id) (soonest_mem hd)
    have := length_insertBy_le Ceiling.id c (cs.filter fun x => x.id != d.id)
    omega

theorem inForm_record_bounds {f : CeilingFields} {p : Nat} {c : CeilingInForm} (h : f.inForm p = some c) :
    1 ≤ c.record.id ∧ c.record.id ≤ 15 ∧ c.record.last ≤ 999 ∧ 1 ≤ c.record.first := by
  unfold CeilingFields.inForm at h
  split at h
  · cases h
  · cases h
    refine ⟨?_, ?_, Nat.min_le_right .., ?_⟩
    · show 1 ≤ f.id; omega
    · show f.id ≤ 15; omega
    · show 1 ≤ if min f.first f.last = 0 then 1 else min f.first f.last
      split <;> omega

theorem ceilingsAfter_table {f : CeilingFields} {p : Nat} {c : CeilingInForm} {cs ds : List Ceiling}
    (hf : f.inForm p = some c) (hd : ceilingsAfter c cs = some ds) (h : CeilingTable cs) : CeilingTable ds := by
  unfold ceilingsAfter at hd
  dsimp only at hd
  split at hd
  · split at hd
    · cases hd; exact h.sublist List.filter_sublist
    · cases hd
  · cases hd; exact installCeiling_table h (inForm_record_bounds hf)

theorem restage_ceilings (s : State) : s.restage.spc.ceilings = s.spc.ceilings := by
  show (s.spc.applyEvent _).ceilings = _
  unfold Spc.applyEvent; split <;> rfl

theorem restageWindow_ceilings (s : State) : s.restageWindow.spc.ceilings = s.spc.ceilings := by
  show (s.evaluateQueue.spc.applyWindow _ _).ceilings = _
  unfold Spc.applyWindow; dsimp only; split
  · rfl
  · split
    · rfl
    · split <;> rfl

theorem Act.ceilings {s t : State} (h : Act s t) (hs : CeilingTable s.spc.ceilings) : CeilingTable t.spc.ceilings := by
  cases h with
  | sign h => rw [h.same.spc]; exact hs
  | drive => rw [drive_ceilings]; exact hs
  | tick =>
    obtain ⟨hlen, hids, hc⟩ := hs
    refine ⟨by rw [show s.tick.spc.ceilings = s.spc.ceilings.map Ceiling.tick from rfl, List.length_map]; exact hlen, ?_, ?_⟩
    · show ((s.spc.ceilings.map Ceiling.tick).map Ceiling.id).Pairwise (· < ·)
      rw [List.map_map]
      exact hids
    · intro c hcm
      obtain ⟨d, hd, rfl⟩ := List.mem_map.1 hcm
      exact hc d hd
  | edge e => rw [(edge_same s e).spc]; exact hs
  | raiseFault l p k => rw [(raiseFault_same ..).spc]; exact hs
  | takeEdge e rest h => rw [(takeEdge_same ..).spc]; exact hs
  | restageWindow => rw [restageWindow_ceilings]; exact hs
  | restage => rw [restage_ceilings]; exact hs
  | installCeiling f c cs hf hc => rw [restage_ceilings]; exact ceilingsAfter_table hf hc hs
  | dropCeiling id => rw [restage_ceilings]; exact hs.sublist List.filter_sublist
  | closures w h =>
    have hset : CeilingTable w.s.settle.spc.ceilings := by rw [(settle_run w.s).same.spc, h.spc]; exact hs
    split
    · rw [restage_ceilings]; exact hset
    · exact hset
  | endDiscovery =>
    rw [(endDiscovery_run s).leaves (·.spc.ceilings) fun _ _ => JoinAct.ceilings]; exact hs
  | _ => exact hs

theorem followHold_spc (s : State) : s.followHold.spc = s.spc := by unfold State.followHold; split <;> rfl

/-- A release leaves the ceiling records as they are. -/
theorem Released.ceilings {s t : State} {st : Straps} (h : Released s st t) : t.spc.ceilings = s.spc.ceilings := by
  cases h with
  | stopped => rw [drive_ceilings, followHold_spc]; rfl
  | held u hu => rw [drive_ceilings, followHold_spc, hu.same.spc]; rfl
  | discover u hu => rw [drive_ceilings]; exact congrArg Spc.ceilings hu.same.spc

theorem step_ceilingsSound {s t : State} (h : step s = .next t) (hs : s.ceilingsSound) : t.ceilingsSound := by
  rw [ceilingsSound_iff] at hs ⊢
  exact step_keeps (P := fun s => CeilingTable s.spc.ceilings)
    (fun _ _ _ => ⟨Nat.zero_le _, List.Pairwise.nil, fun c hc => by cases hc⟩)
    (fun s st x _ hs => by rw [(releaseReset_released s st x).ceilings]; exact hs) (fun _ _ => Act.ceilings)
    (fun _ _ hs => hs) h hs

/-! ### The neighbour entries (R56) -/

/-- A property of the entries that speaks of the station's position and of RESET only. -/
theorem neighboursSound_congr {s t : State} (hst : t.stu.straps = s.stu.straps)
    (hr : t.stu.station = .inReset → s.stu.station = .inReset) (hn : t.nbt = s.nbt) (h : s.neighboursSound) :
    t.neighboursSound := by
  obtain ⟨hord, hin, hres⟩ := h
  refine ⟨by rw [hn]; exact hord, fun e he => ?_, fun h => by rw [hn]; exact hres (hr h)⟩
  have := hin e (hn ▸ he)
  unfold State.inRange State.offset State.position at this ⊢
  rw [hst]
  exact this

theorem Act.neighboursSound {s t : State} (h : Act s t) (hs : s.neighboursSound) : t.neighboursSound := by
  have hsame : t.nbt = s.nbt → t.neighboursSound := fun hn => neighboursSound_congr h.straps h.inReset hn hs
  obtain ⟨hord, hin, hres⟩ := hs
  rw [rising_iff_pairwise] at hord
  cases h with
  | sign h => exact hsame h.same.nbt
  | edge e => exact hsame (edge_same s e).nbt
  | raiseFault => exact hsame (raiseFault_same ..).nbt
  | takeEdge => exact hsame (takeEdge_same ..).nbt
  | putNeighbour e hb hr =>
    refine ⟨?_, fun x hx => ?_, fun h => ?_⟩
    · rw [rising_iff_pairwise]
      show ((insertNeighbour e s.nbt).map Neighbour.position).Pairwise (· < ·)
      rw [insertNeighbour_eq]
      exact pairwise_insertBy e hord
    · have hx' : x ∈ insertBy Neighbour.position e s.nbt := by rw [← insertNeighbour_eq]; exact hx
      rcases mem_of_mem_insertBy _ _ hx' with rfl | hx
      · exact hr
      · exact hin x hx
    · have : s.stu.station = .inReset := h
      rw [State.onBus, this] at hb
      cases hb
  | dropNeighbour p =>
    refine ⟨?_, fun x hx => hin x (List.mem_of_mem_filter hx), fun h => ?_⟩
    · rw [rising_iff_pairwise]; exact hord.sublist (List.filter_sublist.map _)
    · show s.nbt.filter _ = []
      rw [hres h]; rfl
  | mapNeighbours f h =>
    have hmap : (s.nbt.map f).map Neighbour.position = s.nbt.map Neighbour.position := by
      rw [List.map_map]; exact congrArg (fun g => s.nbt.map g) (funext h)
    refine ⟨?_, fun x hx => ?_, fun h => ?_⟩
    · show rising ((s.nbt.map f).map Neighbour.position) = true
      rw [hmap, rising_iff_pairwise]; exact hord
    · obtain ⟨e, he, rfl⟩ := List.mem_map.1 hx
      rw [h]
      exact hin e he
    · show s.nbt.map f = []
      rw [hres h]; rfl
  | closures w h => exact hsame (closures_same h).nbt
  | endDiscovery => exact hsame ((endDiscovery_run s).leaves (·.nbt) fun _ _ => JoinAct.nbt)
  | _ => exact hsame rfl

theorem followHold_nbt (s : State) : s.followHold.nbt = s.nbt := by unfold State.followHold; split <;> rfl

/-- A release leaves the neighbour entries as they are. -/
theorem Released.nbt {s t : State} {st : Straps} (h : Released s st t) : t.nbt = s.nbt := by
  cases h with
  | stopped => rw [drive_nbt, followHold_nbt]; rfl
  | held u hu => rw [drive_nbt, followHold_nbt, hu.same.nbt]; rfl
  | discover u hu => rw [drive_nbt]; exact hu.same.nbt

theorem neighboursSound_nil {s : State} (h : s.nbt = []) : s.neighboursSound := by
  refine ⟨by rw [h]; rfl, fun e he => ?_, fun _ => h⟩
  rw [h] at he
  cases he

theorem step_neighboursSound {s t : State} (h : step s = .next t) (hs : s.neighboursSound) : t.neighboursSound :=
  step_keeps (P := State.neighboursSound) (fun _ _ _ => neighboursSound_nil rfl)
    (fun s st x hr hs => neighboursSound_nil (by rw [(releaseReset_released s st x).nbt]; exact hs.2.2 hr))
    (fun _ _ => Act.neighboursSound) (fun _ _ hs => hs) h hs

/-! ### O55 -/

theorem reset_windowSound : LaneState.reset.windowSound := fun w hw => by cases hw

theorem step_bounded {s t : State} (h : step s = .next t) (hs : s.bounded) : t.bounded := by
  obtain ⟨hq, hring, href, hgroups, hclash⟩ := hs
  exact ⟨step_edgeQueue h hq, laneKept_ringLength.step (Nat.zero_le _) h hring, cltKept_refused.step (Nat.zero_le _) h href,
    asaKept_groups.step (P := fun x => x.queue.length ≤ 8) (Nat.zero_le _) h hgroups, crlKept_clashTimer.step (Nat.zero_le _) h hclash⟩

theorem step_windowsSound {s t : State} (h : step s = .next t) (hs : s.windowsSound) : t.windowsSound :=
  laneKept_windowSound.step reset_windowSound h hs

theorem step_ringsSound {s t : State} (h : step s = .next t) (hw : s.windowsSound) (hr : s.ringsSound) : t.ringsSound :=
  fun l => (laneKept_ringSound.step ⟨reset_windowSound, fun r hr => by cases hr⟩ h fun l => ⟨hw l, hr l⟩ : _) l |>.2

/-- Settles O55: the bounds and the tables, each by what the acts of a step do to its block. -/
theorem stepKeepsBoundsAndTables : Obligations.StepKeepsBoundsAndTables :=
  ⟨fun _ _ h => ⟨step_bounded h, step_windowsSound h, step_ringsSound h, crlKept_accessSound.step reset_accessSound h⟩,
    fun _ _ h => ⟨step_closuresSound h, step_ceilingsSound h, step_neighboursSound h⟩⟩

end Sys2Proof.Machine
end

section
/-! O59: the change queue (R148, R149, R162) and the order of the request rows (R139). -/

namespace Sys2Proof.Machine

/-! ### Request rows -/

theorem mem_of_mem_insertRequest {r q : Request} {row : List Request} (h : q ∈ insertRequest r row) : q = r ∨ q ∈ row := by
  induction row with
  | nil => exact .inl (List.mem_singleton.1 h)
  | cons x rest ih =>
    unfold insertRequest at h
    split at h
    · exact List.mem_cons.1 h
    · rcases List.mem_cons.1 h with rfl | h
      · exact .inr List.mem_cons_self
      · exact (ih h).imp_right (List.mem_cons_of_mem x)

/-- The requests of a row stand by level, highest first. -/
def RowSorted (row : List Request) : Prop := row.Pairwise fun q r => q.level.order ≤ r.level.order

theorem insertRequest_sorted (r : Request) {row : List Request} (h : RowSorted row) : RowSorted (insertRequest r row) := by
  induction row with
  | nil => exact List.pairwise_singleton ..
  | cons x rest ih =>
    obtain ⟨hx, hrest⟩ := List.pairwise_cons.1 h
    unfold insertRequest
    split
    case isTrue hb =>
      have hle : r.level.order ≤ x.level.order := by
        simp only [Request.before, Bool.or_eq_true, Bool.and_eq_true, decide_eq_true_eq, beq_iff_eq] at hb
        omega
      refine List.pairwise_cons.2 ⟨fun q hq => ?_, h⟩
      rcases List.mem_cons.1 hq with rfl | hq
      · exact hle
      · exact hle.trans (hx q hq)
    case isFalse hb =>
      have hle : x.level.order ≤ r.level.order := by
        simp only [Request.before, Bool.or_eq_true, Bool.and_eq_true, decide_eq_true_eq, beq_iff_eq] at hb
        omega
      refine List.pairwise_cons.2 ⟨fun q hq => ?_, ih hrest⟩
      rcases mem_of_mem_insertRequest hq with rfl | hq
      · exact hle
      · exact hx q hq

theorem placeIn_sorted (r : Request) {row : List Request} (h : RowSorted row) : RowSorted (placeIn row r) :=
  insertRequest_sorted r (h.filter _)

theorem enclosedRow_sorted (b : Bool) {row : List Request} (h : RowSorted row) : RowSorted (enclosedRow row b) := by
  cases b
  · exact h.filter _
  · exact placeIn_sorted _ h

/-- Every row of the request table is in order. -/
def Asa.rowsSorted (x : Asa) : Prop := ∀ a, RowSorted (x.modules.get a).row

theorem setDisplay_rowsSorted {s : State} {a : Addr} {d : Display} (hd : RowSorted d.row) (h : s.asa.rowsSorted) :
    (s.setDisplay a d).asa.rowsSorted := by
  intro b
  show RowSorted ((s.setDisplay a d).display b).row
  rw [display_setDisplay]
  split
  · exact hd
  · exact h b

theorem settledDisplay_sorted {s : State} (h : s.asa.rowsSorted) (a : Addr) : RowSorted (s.settledDisplay a).row := by
  unfold State.settledDisplay
  dsimp only
  split
  · split
    · exact enclosedRow_sorted _ (h a)
    · exact h a
  · split <;> exact h a

theorem placeGroup_modules (s : State) (k : GroupKind) (es : List ChangeEntry) :
    (s.placeGroup k es).asa.modules = s.asa.modules := by
  unfold State.placeGroup; split <;> rfl

theorem takeOrdered_row (s : State) (a : Addr) : (s.takeOrdered.display a).row = (s.display a).row := by
  unfold State.takeOrdered State.display
  rw [Per8.get_build]

theorem asaKept_rowsSorted : AsaKept fun s => s.asa.rowsSorted where
  congr _ ha h := by rw [ha]; exact h
  sign {s t} hst h := by
    cases hst with
    | setSpc a lv x =>
      cases x
      · exact setDisplay_rowsSorted ((h a).filter _) h
      · exact setDisplay_rowsSorted (placeIn_sorted _ (h a)) h
    | settleTable =>
      intro a
      rw [show s.settleTable.asa.modules.get a = s.settledDisplay a from settleTable_display s a]
      exact settledDisplay_sorted h a
    | order a => exact setDisplay_rowsSorted (h a) h
    | placeGroup k es => unfold Asa.rowsSorted; rw [placeGroup_modules]; exact h
    | _ => exact h
  work :=
    { place := fun a q h => setDisplay_rowsSorted (placeIn_sorted q (h a)) h
      keep := fun {s} f h a => by
        rw [show (s.keepRequests f).asa.modules.get a = { s.display a with row := (s.display a).row.filter (f a) } from
          Per8.get_build ..]
        exact (h a).filter _
      put := fun _ _ h => h
      room := fun _ h => h
      drop := fun _ h => h
      refuse := fun _ h => h
      unrefuse := fun _ h => h
      dropOrphan := fun _ h => setDisplay_rowsSorted ((h _).filter _) h }
  ordered {s} h a := (congrArg RowSorted (takeOrdered_row s a)).mpr (h a)

/-! ### The change queue -/

/-- R148, R149, R162: a change queue is sound. -/
structure QueueSound (q : List Group) : Prop where
  length : q.length ≤ 8
  head : ∀ g ∈ q.tail, g.beingSent = false
  waiting : ∀ g ∈ q, g.beingSent = false → g.entries ≠ [] ∧ ∀ e ∈ g.entries, e.sent = false
  urgent : (q.filter fun g => !g.beingSent).Pairwise fun g h => h.kind = .urgent → g.kind = .urgent
  unsent : ∀ a : Addr, (queueEntries q).countP (fun e => e.addr == a && !e.sent) ≤ 1
  order : ∀ g ∈ q, g.entries.Pairwise fun e f => e.addr < f.addr

theorem queueSound_iff (s : State) : s.queueSound ↔ QueueSound s.asa.queue := by
  constructor
  · rintro ⟨h1, h2, h3, h4, h5, h6⟩
    exact ⟨h1, h2, h3, h4, fun a => by rw [List.countP_eq_length_filter]; exact h5 a, h6⟩
  · rintro ⟨h1, h2, h3, h4, h5, h6⟩
    exact ⟨h1, h2, h3, h4, fun a => by rw [← List.countP_eq_length_filter]; exact h5 a, h6⟩

theorem queueSound_nil : QueueSound [] :=
  ⟨Nat.zero_le _, nofun, nofun, .nil, fun _ => Nat.zero_le _, nofun⟩

theorem mem_tail_filter {α : Type} {p : α → Bool} {xs : List α} {x : α} (h : x ∈ (xs.filter p).tail) : x ∈ xs.tail := by
  cases xs with
  | nil => cases h
  | cons y rest =>
    rw [List.filter_cons] at h
    split at h
    · exact List.mem_of_mem_filter h
    · exact List.mem_of_mem_filter (List.mem_of_mem_tail h)

/-- A queue whose groups lose entries, and that loses groups. -/
theorem QueueSound.shrink {q : List Group} (h : QueueSound q) (f : Group → Group) (p : Group → Bool)
    (hkind : ∀ g, (f g).kind = g.kind ∧ (f g).beingSent = g.beingSent)
    (hsub : ∀ g, (f g).entries.Sublist g.entries)
    (hne : ∀ g ∈ q, g.beingSent = false → p (f g) = true → (f g).entries ≠ []) : QueueSound ((q.map f).filter p) where
  length := (List.length_filter_le _ _).trans (by rw [List.length_map]; exact h.length)
  head g hg := by
    have hg' := mem_tail_filter hg
    rw [← List.map_tail] at hg'
    obtain ⟨x, hx, rfl⟩ := List.mem_map.1 hg'
    rw [(hkind x).2]
    exact h.head x hx
  waiting g hg hw := by
    obtain ⟨hin, hp⟩ := List.mem_filter.1 hg
    obtain ⟨x, hx, rfl⟩ := List.mem_map.1 hin
    rw [(hkind x).2] at hw
    exact ⟨hne x hx hw hp, fun e he => (h.waiting x hx hw).2 e ((hsub x).subset he)⟩
  urgent := by
    have hfilter : ((q.map f).filter p).filter (fun g => !g.beingSent) =
        ((q.map f).filter fun g => !g.beingSent).filter p := by
      rw [List.filter_filter, List.filter_filter]
      exact List.filter_congr fun g _ => Bool.and_comm ..
    rw [hfilter, List.filter_map,
      show ((fun g : Group => !g.beingSent) ∘ f) = (fun g => !g.beingSent) from funext fun g => by simp [(hkind g).2]]
    refine .filter _ (List.pairwise_map.2 (h.urgent.imp fun {x y} hxy => ?_))
    rw [(hkind x).1, (hkind y).1]
    exact hxy
  unsent a := by
    refine (List.Sublist.countP_le ?_).trans (h.unsent a)
    refine (List.Sublist.flatMap List.filter_sublist _).trans ?_
    unfold queueEntries
    rw [List.flatMap_map]
    exact List.Sublist.flatMap_right _ fun x _ => hsub x
  order g hg := by
    obtain ⟨x, hx, rfl⟩ := List.mem_map.1 (List.mem_of_mem_filter hg)
    exact (h.order x hx).sublist (hsub x)

theorem QueueSound.removeUnsent {q : List Group} (h : QueueSound q) (as : List Addr) : QueueSound (removeUnsent as q) :=
  h.shrink _ _ (fun _ => ⟨rfl, rfl⟩) (fun _ => List.filter_sublist) fun g _ _ hp => by simpa using hp

theorem QueueSound.leave {q : List Group} (h : QueueSound q) : QueueSound (leaveQueue q) := by
  have := h.shrink id (fun g => !(g.beingSent && g.entries.all (·.sent))) (fun _ => ⟨rfl, rfl⟩) (fun _ => .refl _)
    fun g hg hw _ => (h.waiting g hg hw).1
  rwa [List.map_id] at this

/-- R162: the head group goes on with its next SET. -/
theorem QueueSound.sendHead {g : Group} {rest : List Group} (h : QueueSound (g :: rest)) (a : Addr) :
    QueueSound (g.markSent a :: rest) where
  length := h.length
  head := h.head
  waiting x hx hw := by
    rcases List.mem_cons.1 hx with rfl | hx
    · cases hw
    · exact h.waiting x (List.mem_cons_of_mem _ hx) hw
  urgent := by
    rw [List.filter_cons_of_neg (by simp [Group.markSent])]
    have hsub : (rest.filter fun g => !g.beingSent).Sublist ((g :: rest).filter fun g => !g.beingSent) :=
      (List.sublist_cons_self g rest).filter _
    exact h.urgent.sublist hsub
  unsent b := by
    refine le_trans ?_ (h.unsent b)
    simp only [queueEntries, List.flatMap_cons, List.countP_append]
    refine Nat.add_le_add_right ?_ _
    show (g.entries.map _).countP _ ≤ _
    rw [List.countP_map]
    refine List.countP_mono_left fun e _ he => ?_
    simp only [Function.comp_apply, Bool.and_eq_true, beq_iff_eq, Bool.not_eq_true'] at he ⊢
    split at he
    · cases he.2
    · exact he
  order x hx := by
    rcases List.mem_cons.1 hx with rfl | hx
    · refine List.pairwise_map.2 ((h.order g List.mem_cons_self).imp fun {e f} hef => ?_)
      have haddr : ∀ e : ChangeEntry, (if e.addr = a then { e with sent := true } else e).addr = e.addr := fun e => by
        split <;> rfl
      rw [haddr, haddr]
      exact hef
    · exact h.order x (List.mem_cons_of_mem _ hx)

/-! ### A group placed (R148) -/

/-- No entry of a list waits in a queue for its module. -/
def NoneWaits (q : List Group) (es : List ChangeEntry) : Prop :=
  ∀ e ∈ es, ∀ f ∈ queueEntries q, f.addr = e.addr → f.sent = true

theorem noneWaits_of_entryWaits {s : State} {es : List ChangeEntry} (h : ∀ e ∈ es, s.entryWaits e.addr = false) :
    NoneWaits s.asa.queue es := by
  intro e he f hf hfe
  by_contra hsent
  have := entryWaits_iff.2 ⟨f, hf, hfe, by simpa using hsent⟩
  rw [h e he] at this
  cases this

/-- A module has at most one UNSENT entry after a placement too. -/
theorem unsent_of_perm {q r : List Group} {es : List ChangeEntry} (hes : FreshEntries es) (hfree : NoneWaits q es)
    (hq : ∀ a : Addr, (queueEntries q).countP (fun e => e.addr == a && !e.sent) ≤ 1)
    (hperm : (queueEntries r).Perm (es ++ queueEntries q) ∨ r = q) (a : Addr) :
    (queueEntries r).countP (fun e => e.addr == a && !e.sent) ≤ 1 := by
  rcases hperm with hperm | rfl
  · rw [hperm.countP_eq, List.countP_append]
    by_cases ha : ∃ e ∈ es, e.addr = a
    · obtain ⟨e, he, rfl⟩ := ha
      have hzero : (queueEntries q).countP (fun f => f.addr == e.addr && !f.sent) = 0 := by
        rw [List.countP_eq_zero]
        intro f hf
        by_cases hfe : f.addr = e.addr
        · simp [hfree e he f hf hfe]
        · simp [hfe]
      have hone : es.countP (fun f => f.addr == e.addr && !f.sent) ≤ 1 :=
        calc es.countP (fun f => f.addr == e.addr && !f.sent)
            ≤ es.countP (fun f => f.addr == e.addr) := List.countP_mono_left fun f _ hf => by simp_all
          _ = (es.map ChangeEntry.addr).count e.addr := by rw [List.count, List.countP_map]; rfl
          _ ≤ 1 := List.nodup_iff_count_le_one.1 hes.addr_nodup _
      omega
    · have hzero : es.countP (fun f => f.addr == a && !f.sent) = 0 := by
        rw [List.countP_eq_zero]
        intro f hf
        have : f.addr ≠ a := fun h => ha ⟨f, hf, h⟩
        simp [this]
      have := hq a
      omega
  · exact hq a

theorem insertEntry_order {e : ChangeEntry} {es : List ChangeEntry} (h : es.Pairwise fun e f => e.addr < f.addr)
    (hne : ∀ f ∈ es, f.addr ≠ e.addr) : (insertEntry e es).Pairwise fun e f => e.addr < f.addr := by
  induction es with
  | nil => exact List.pairwise_singleton ..
  | cons x rest ih =>
    obtain ⟨hx, hrest⟩ := List.pairwise_cons.1 h
    have hxe := hne x List.mem_cons_self
    unfold insertEntry
    split
    case isTrue hle =>
      have hlt : e.addr < x.addr := lt_of_le_of_ne hle hxe.symm
      refine List.pairwise_cons.2 ⟨fun f hf => ?_, h⟩
      rcases List.mem_cons.1 hf with rfl | hf
      · exact hlt
      · exact hlt.trans (hx f hf)
    case isFalse hle =>
      refine List.pairwise_cons.2 ⟨fun f hf => ?_, ih hrest fun f hf => hne f (List.mem_cons_of_mem x hf)⟩
      rcases List.mem_cons.1 ((insertEntry_perm e rest).mem_iff.1 hf) with rfl | hf
      · exact lt_of_not_ge hle
      · exact hx f hf

theorem mergeEntries_order {new old : List ChangeEntry} (hnew : new.Pairwise fun e f => e.addr < f.addr)
    (hold : old.Pairwise fun e f => e.addr < f.addr) (hne : ∀ e ∈ new, ∀ f ∈ old, f.addr ≠ e.addr) :
    (mergeEntries new old).Pairwise fun e f => e.addr < f.addr := by
  induction new with
  | nil => exact hold
  | cons e rest ih =>
    obtain ⟨he, hrest⟩ := List.pairwise_cons.1 hnew
    refine insertEntry_order (ih hrest fun f hf => hne f (List.mem_cons_of_mem e hf)) fun f hf => ?_
    rcases List.mem_append.1 ((mergeEntries_perm rest old).mem_iff.1 hf) with hf | hf
    · exact ((he f hf).ne').symm.symm
    · exact hne e List.mem_cons_self f hf

theorem queueEntries_middle (pre : List Group) (g : Group) (post : List Group) :
    (queueEntries (pre ++ g :: post)).Perm (g.entries ++ queueEntries (pre ++ post)) := by
  simp only [queueEntries, List.flatMap_append, List.flatMap_cons, ← List.append_assoc]
  exact List.perm_append_comm.append_right _

/-- R148: an urgent group stands behind urgent ones only, a normal one before normal ones only. -/
theorem urgent_middle {pre post : List Group} {g : Group}
    (h : ((pre ++ post).filter fun g => !g.beingSent).Pairwise fun g h => h.kind = .urgent → g.kind = .urgent)
    (hpre : ∀ x ∈ pre, x.beingSent = false → g.kind = .urgent → x.kind = .urgent)
    (hpost : ∀ x ∈ post, x.kind = .urgent → g.kind = .urgent) :
    ((pre ++ g :: post).filter fun g => !g.beingSent).Pairwise fun g h => h.kind = .urgent → g.kind = .urgent := by
  rw [List.filter_append, List.pairwise_append] at h ⊢
  obtain ⟨h1, h2, h3⟩ := h
  have hmem : ∀ {x : Group} {xs : List Group}, x ∈ xs.filter (fun g => !g.beingSent) → x ∈ xs ∧ x.beingSent = false :=
    fun hx => by simpa using List.mem_filter.1 hx
  rw [List.filter_cons]
  split
  · refine ⟨h1, List.pairwise_cons.2 ⟨fun x hx => hpost x (hmem hx).1, h2⟩, fun x hx y hy => ?_⟩
    rcases List.mem_cons.1 hy with rfl | hy
    · exact hpre x (hmem hx).1 (hmem hx).2
    · exact h3 x hx y hy
  · exact ⟨h1, h2, h3⟩

theorem mem_middle {pre post : List Group} {g x : Group} (hx : x ∈ pre ++ g :: post) : x = g ∨ x ∈ pre ++ post := by
  simp only [List.mem_append, List.mem_cons] at hx ⊢
  tauto

/-- The groups behind the head are those of the rest, unless the new group is the head. -/
theorem mem_tail_middle {pre post : List Group} {g x : Group} (hpre : pre ≠ []) (hx : x ∈ (pre ++ g :: post).tail) :
    x = g ∨ x ∈ (pre ++ post).tail := by
  cases pre with
  | nil => exact absurd rfl hpre
  | cons y pre => exact mem_middle hx

section
variable {pre post : List Group} {g : Group}

/-- New entries merged into a WAITING group. -/
theorem QueueSound.merge {es : List ChangeEntry} (k : GroupKind) (h : QueueSound (pre ++ g :: post)) (hes : FreshEntries es)
    (hfree : NoneWaits (pre ++ g :: post) es) (hg : g.beingSent = false)
    (hpre : ∀ x ∈ pre, x.beingSent = false → k = .urgent → x.kind = .urgent)
    (hpost : ∀ x ∈ post, x.kind = .urgent → k = .urgent) :
    QueueSound (pre ++ { g with kind := k, entries := mergeEntries es g.entries } :: post) := by
  have hgq : g ∈ pre ++ g :: post := by simp
  obtain ⟨hgne, hgunsent⟩ := h.waiting g hgq hg
  have hrest : (pre ++ post).Sublist (pre ++ g :: post) := (List.sublist_cons_self g post).append_left pre
  have hperm : (queueEntries (pre ++ { g with kind := k, entries := mergeEntries es g.entries } :: post)).Perm
      (es ++ queueEntries (pre ++ g :: post)) := by
    refine (queueEntries_middle ..).trans (((mergeEntries_perm es g.entries).append_right _).trans ?_)
    rw [List.append_assoc]
    exact (queueEntries_middle pre g post).symm.append_left es
  refine ⟨?_, fun x hx => ?_, fun x hx hw => ?_, urgent_middle (h.urgent.sublist (hrest.filter _)) hpre hpost,
    unsent_of_perm hes hfree h.unsent (.inl hperm), fun x hx => ?_⟩
  · simpa using h.length
  · by_cases hnil : pre = []
    · subst hnil
      exact h.head x hx
    · rcases mem_tail_middle hnil hx with rfl | hx
      · exact hg
      · exact h.head x (hrest.tail.subset hx)
  · rcases mem_middle hx with rfl | hin
    · refine ⟨fun hnil => hgne ?_, fun e he => ?_⟩
      · have hlen := (mergeEntries_perm es g.entries).length_eq
        rw [show mergeEntries es g.entries = [] from hnil, List.length_append, List.length_nil] at hlen
        exact List.length_eq_zero_iff.1 (by omega)
      · rcases List.mem_append.1 ((mergeEntries_perm es g.entries).mem_iff.1 he) with he | he
        · exact hes.2 e he
        · exact hgunsent e he
    · exact h.waiting x (hrest.subset hin) hw
  · rcases mem_middle hx with rfl | hin
    · refine mergeEntries_order hes.1 (h.order g hgq) fun e he f hf hfe => ?_
      have := hfree e he f (List.mem_flatMap.2 ⟨g, hgq, hf⟩) hfe
      rw [hgunsent f hf] at this
      cases this
    · exact h.order x (hrest.subset hin)

/-- A new WAITING group put into a queue with a free place. -/
theorem QueueSound.insert (h : QueueSound (pre ++ post)) (hlen : (pre ++ post).length < 8) (hes : FreshEntries g.entries)
    (hfree : NoneWaits (pre ++ post) g.entries) (hg : g.beingSent = false) (hne : g.entries ≠ [])
    (hhead : pre = [] → ∀ x ∈ post, x.beingSent = false)
    (hpre : ∀ x ∈ pre, x.beingSent = false → g.kind = .urgent → x.kind = .urgent)
    (hpost : ∀ x ∈ post, x.kind = .urgent → g.kind = .urgent) : QueueSound (pre ++ g :: post) := by
  refine ⟨?_, fun x hx => ?_, fun x hx hw => ?_, urgent_middle h.urgent hpre hpost,
    unsent_of_perm hes hfree h.unsent (.inl (queueEntries_middle ..)), fun x hx => ?_⟩
  · simp only [List.length_append, List.length_cons] at hlen ⊢
    omega
  · by_cases hnil : pre = []
    · subst hnil
      exact hhead rfl x hx
    · rcases mem_tail_middle hnil hx with rfl | hx
      · exact hg
      · exact h.head x hx
  · rcases mem_middle hx with rfl | hin
    · exact ⟨hne, hes.2⟩
    · exact h.waiting x hin hw
  · rcases mem_middle hx with rfl | hin
    · exact hes.1
    · exact h.order x hin

end

/-- R148, step 2: where the urgent entries of a full queue go. -/
theorem mergeFirst_split (es : List ChangeEntry) (q : List Group) :
    mergeFirst es q = q ∨ ∃ pre g post, q = pre ++ g :: post ∧ (∀ x ∈ pre, x.beingSent = true) ∧ g.beingSent = false ∧
      mergeFirst es q = pre ++ { g with kind := .urgent, entries := mergeEntries es g.entries } :: post := by
  induction q with
  | nil => exact .inl rfl
  | cons g rest ih =>
    unfold mergeFirst
    split
    case isTrue hg =>
      rcases ih with ih | ⟨pre, x, post, rfl, hpre, hx, ih⟩
      · exact .inl (by rw [ih])
      · refine .inr ⟨g :: pre, x, post, rfl, fun y hy => ?_, hx, by rw [ih]; rfl⟩
        rcases List.mem_cons.1 hy with rfl | hy
        · exact hg
        · exact hpre y hy
    case isFalse hg => exact .inr ⟨[], g, rest, rfl, nofun, by simpa using hg, rfl⟩

/-- R148, step 3: where the normal entries of a full queue go. -/
theorem mergeLast_split (es : List ChangeEntry) (q : List Group) :
    mergeLast es q = q ∨ ∃ pre g, q = pre ++ [g] ∧ g.beingSent = false ∧
      mergeLast es q = pre ++ [{ g with kind := g.kind, entries := mergeEntries es g.entries }] := by
  unfold mergeLast
  split
  case h_1 g rest hq =>
    split
    · exact .inl rfl
    case isFalse hg =>
      refine .inr ⟨rest.reverse, g, ?_, by simpa using hg, List.reverse_cons⟩
      rw [← List.reverse_reverse q, hq, List.reverse_cons]
  case h_2 => exact .inl rfl

section
variable {q : List Group} {g : Group} (h : QueueSound q) (hes : FreshEntries g.entries) (hne : g.entries ≠ [])
  (hg : g.beingSent = false) (hfree : NoneWaits q g.entries)
include h hes hne hg hfree

theorem QueueSound.placeUrgent (hk : g.kind = .urgent) : QueueSound (placeUrgent g q) := by
  unfold Machine.placeUrgent
  split
  case isTrue hlt =>
    split
    case h_1 x rest =>
      split
      case isTrue hx =>
        exact h.insert (pre := [x]) (post := rest) hlt hes hfree hg hne (nofun)
          (fun y hy hw => by rw [List.mem_singleton.1 hy, hx] at hw; cases hw) fun _ _ _ => hk
      case isFalse hx =>
        refine h.insert (pre := []) (post := x :: rest) hlt hes hfree hg hne (fun _ y hy => ?_) nofun fun _ _ _ => hk
        rcases List.mem_cons.1 hy with rfl | hy
        · simpa using hx
        · exact h.head y hy
    case h_2 => exact h.insert (pre := []) (post := []) hlt hes hfree hg hne (fun _ => nofun) nofun nofun
  case isFalse =>
    rcases mergeFirst_split g.entries q with heq | ⟨pre, x, post, rfl, hpre, hx, heq⟩
    · rw [heq]; exact h
    · rw [heq]
      exact h.merge .urgent hes hfree hx (fun y hy hw => by rw [hpre y hy] at hw; cases hw) fun _ _ _ => rfl

theorem QueueSound.placeNormal (hk : g.kind = .normal) : QueueSound (placeNormal g q) := by
  unfold Machine.placeNormal
  split
  case isTrue hlt =>
    rw [← List.append_nil q] at h hlt hfree
    rw [show q ++ [g] = q ++ g :: [] from rfl]
    exact h.insert hlt hes hfree hg hne (fun _ => nofun) (fun _ _ _ hu => by rw [hk] at hu; cases hu) nofun
  case isFalse =>
    rcases mergeLast_split g.entries q with heq | ⟨pre, x, rfl, hx, heq⟩
    · rw [heq]; exact h
    · rw [heq]
      refine h.merge x.kind hes hfree hx (fun y hy hw hu => ?_) nofun
      have hurgent := h.urgent
      rw [List.filter_append, List.pairwise_append] at hurgent
      exact hurgent.2.2 y (List.mem_filter.2 ⟨hy, by simp [hw]⟩) x (by simp [hx]) hu

end

theorem SignAct.queueSound {s t : State} (h : SignAct s t) (hs : QueueSound s.asa.queue) : QueueSound t.asa.queue := by
  cases h with
  | setSpc a lv x => cases x <;> exact hs
  | unqueue as => exact hs.removeUnsent as
  | placeGroup k es hes hfree =>
    have hfree' := noneWaits_of_entryWaits hfree
    unfold State.placeGroup
    split
    · exact hs
    case isFalse hne =>
      rw [List.isEmpty_iff] at hne
      cases k
      · exact hs.placeUrgent hes hne rfl hfree' rfl
      · exact hs.placeNormal hes hne rfl hfree' rfl
  | leave => exact hs.leave
  | sendHead g rest a h => rw [h] at hs; exact hs.sendHead a
  | _ => exact hs

/-! ### O59 -/

theorem asaKept_queueSound : AsaKept fun s => QueueSound s.asa.queue := asaKept_of_queue (P := QueueSound) SignAct.queueSound

theorem reset_rowsSorted : Asa.reset.rowsSorted := by unfold Asa.rowsSorted RowSorted; decide

/-- Settles O59, by what each act of the Aspect Arbiter makes of its queue and its rows. -/
theorem stepKeepsQueueSound : Obligations.StepKeepsQueueSound := fun s t h => by
  rw [queueSound_iff, queueSound_iff]
  exact ⟨asaKept_queueSound.step (P := fun x => QueueSound x.queue) queueSound_nil h,
    asaKept_rowsSorted.step (P := Asa.rowsSorted) reset_rowsSorted h⟩

end Sys2Proof.Machine
end

section
/-! O57: the lanterns follow the legend (R144), and no arrow points off the carriageway or into a red lane (R143). -/

namespace Sys2Proof.Machine

/-! ### Winners -/

/-- Winners and base winners stay. -/
def SameWinners (x y : Asa) : Prop :=
  ∀ a, (y.modules.get a).winner = (x.modules.get a).winner ∧ (y.modules.get a).baseWinner = (x.modules.get a).baseWinner

theorem SameWinners.of_modules {x y : Asa} (h : y.modules = x.modules) : SameWinners x y := fun a => by rw [h]; exact ⟨rfl, rfl⟩

theorem setDisplay_sameWinners (s : State) (a : Addr) (d : Display) (hw : d.winner = (s.display a).winner)
    (hb : d.baseWinner = (s.display a).baseWinner) : SameWinners s.asa (s.setDisplay a d).asa := fun b => by
  show ((s.setDisplay a d).display b).winner = (s.display b).winner ∧
    ((s.setDisplay a d).display b).baseWinner = (s.display b).baseWinner
  rw [display_setDisplay]
  split
  case isTrue h => rw [h]; exact ⟨hw, hb⟩
  case isFalse => exact ⟨rfl, rfl⟩

/-- Winners change in R138's settling alone. -/
theorem SignAct.winners {s t : State} (h : SignAct s t) : t = s.settleTable ∨ SameWinners s.asa t.asa := by
  cases h with
  | settleTable => exact .inl rfl
  | setSpc a lv x =>
    cases x
    · exact .inr (setDisplay_sameWinners s a _ rfl rfl)
    · exact .inr (setDisplay_sameWinners s a _ rfl rfl)
  | order a => exact .inr (setDisplay_sameWinners s a _ rfl rfl)
  | placeGroup k es => exact .inr (.of_modules (placeGroup_modules s k es))
  | unqueue => exact .inr (.of_modules rfl)
  | leave => exact .inr (.of_modules rfl)
  | sendHead => exact .inr (.of_modules rfl)

/-- A property of the winners, given the lane count, that their settling establishes. -/
theorem asaKept_of_winners {P : Nat → Asa → Prop} (settle : ∀ s : State, P s.lanes s.settleTable.asa)
    (congr : ∀ n x y, SameWinners x y → P n x → P n y) : AsaKept fun s => P s.lanes s.asa where
  congr hst ha h := by unfold State.lanes; rw [hst, ha]; exact h
  sign {s t} hst hs := by
    have hlanes : t.lanes = s.lanes := by unfold State.lanes; rw [hst.same.stu]
    rw [hlanes]
    rcases hst.winners with rfl | h
    · exact settle s
    · exact congr _ _ _ h hs
  work :=
    { place := fun {s} a _ h => congr s.lanes _ _ (setDisplay_sameWinners s a _ rfl rfl) h
      keep := fun {s} f h => congr s.lanes s.asa _ (fun a => by
        have hget : (s.keepRequests f).asa.modules.get a = { s.display a with row := (s.display a).row.filter (f a) } :=
          Per8.get_build ..
        rw [hget]
        exact ⟨rfl, rfl⟩) h
      put := fun _ _ h => h
      room := fun _ h => h
      drop := fun _ h => h
      refuse := fun _ h => h
      unrefuse := fun _ h => h
      dropOrphan := fun {s} _ h => congr s.lanes s.asa _ (setDisplay_sameWinners _ _ _ rfl rfl) h }
  ordered {s} h := by
    refine congr s.lanes s.asa _ (fun a => ?_) h
    unfold State.takeOrdered
    dsimp only
    rw [Per8.get_build]
    exact ⟨rfl, rfl⟩

/-! ### The lanterns (R144) -/

/-- R144: the lanterns' winner follows the legend's. -/
def Asa.lanternFollows (x : Asa) : Prop :=
  (x.modules.get lanternAddr).winner = lanternWinner (x.modules.get legendAddr).winner

theorem asaKept_lanternFollows : AsaKept fun s => s.asa.lanternFollows :=
  asaKept_of_winners (P := fun _ => Asa.lanternFollows)
    (fun s => by
      show (s.settleTable.display lanternAddr).winner = lanternWinner (s.settleTable.display legendAddr).winner
      rw [settleTable_display, settleTable_display]
      rfl)
    fun _ x y h hx => by
      unfold Asa.lanternFollows
      rw [(h lanternAddr).1, (h legendAddr).1]
      exact hx

/-! ### The arrows (R143) -/

/-- R143: an arrow that a lane shows is free. -/
theorem blocked_of_postPass {n : Nat} {bases : Per6 Aspect} {l : Lane} {a : Aspect} (h : postPass n bases l = a)
    (ha : a.isArrow = true) : blocked n bases l a = false := by
  unfold postPass at h
  dsimp only at h
  split at h
  case isTrue hnot => rw [← h] at ha; rw [ha] at hnot; cases hnot
  case isFalse =>
    split at h
    case isTrue hfree => rw [← h]; exact hfree
    case isFalse =>
      split at h
      case isTrue hfree => rw [← h]; exact hfree
      case isFalse => rw [← h] at ha; cases ha

/-- R143: no arrow of lanes 1 to n points off the carriageway or into a lane whose base winner is RED_X. -/
def Asa.noArrowIntoRed (n : Nat) (x : Asa) : Prop :=
  ∀ l : Lane, l.val < n →
    ((x.modules.get (laneAddr l)).winner = .arrowL →
      ∃ k : Lane, k.val < n ∧ k.val + 1 = l.val ∧ (x.modules.get (laneAddr k)).baseWinner ≠ some .redX) ∧
    ((x.modules.get (laneAddr l)).winner = .arrowR →
      ∃ k : Lane, k.val < n ∧ k.val = l.val + 1 ∧ (x.modules.get (laneAddr k)).baseWinner ≠ some .redX)

theorem mem_lanesInUse_iff (s : State) (l : Lane) : l ∈ s.lanesInUse ↔ l.val < s.lanes := by
  simp [State.lanesInUse, mem_allLanes]

theorem noArrowIntoRed_iff (s : State) : s.noArrowIntoRed ↔ s.asa.noArrowIntoRed s.lanes := by
  unfold State.noArrowIntoRed Asa.noArrowIntoRed
  simp only [mem_lanesInUse_iff]
  rfl

theorem noArrowIntoRed_congr {n : Nat} {x y : Asa} (h : SameWinners x y) (hx : x.noArrowIntoRed n) : y.noArrowIntoRed n := by
  intro l hl
  rw [(h (laneAddr l)).1]
  obtain ⟨hL, hR⟩ := hx l hl
  refine ⟨fun hw => ?_, fun hw => ?_⟩
  · obtain ⟨k, hk, hkl, hb⟩ := hL hw
    exact ⟨k, hk, hkl, by rw [(h (laneAddr k)).2]; exact hb⟩
  · obtain ⟨k, hk, hkl, hb⟩ := hR hw
    exact ⟨k, hk, hkl, by rw [(h (laneAddr k)).2]; exact hb⟩

theorem settleTable_noArrowIntoRed (s : State) : s.settleTable.asa.noArrowIntoRed s.lanes := by
  intro l hl
  have hshow : ∀ k : Lane, k.val < s.lanes →
      (s.settleTable.asa.modules.get (laneAddr k)).winner = postPass s.lanes s.baseWinners k ∧
        (s.settleTable.asa.modules.get (laneAddr k)).baseWinner = some (s.baseWinners.get k) := fun k hk => by
    have hd := (settleTable_display s (laneAddr k)).trans (settledDisplay_lane hk)
    exact ⟨congrArg Display.winner hd, congrArg Display.baseWinner hd⟩
  rw [(hshow l hl).1]
  refine ⟨fun hw => ?_, fun hw => ?_⟩
  · have hfree := blocked_of_postPass hw rfl
    unfold blocked at hfree
    rw [if_pos rfl] at hfree
    split at hfree
    case isTrue => cases hfree
    case isFalse h0 =>
      refine ⟨⟨l.val - 1, by omega⟩, ?_, ?_, ?_⟩
      · dsimp only; omega
      · dsimp only; omega
      · rw [(hshow _ (by dsimp only; omega)).2]
        simpa using hfree
  · have hfree := blocked_of_postPass hw rfl
    unfold blocked at hfree
    rw [if_neg (by decide)] at hfree
    split at hfree
    case isTrue hin =>
      refine ⟨⟨l.val + 1, hin.2⟩, hin.1, rfl, ?_⟩
      rw [(hshow _ hin.1).2]
      simpa using hfree
    case isFalse => cases hfree

theorem reset_noArrowIntoRed (n : Nat) : Asa.reset.noArrowIntoRed n := by
  have hblank : ∀ l : Lane, (Asa.reset.modules.get (laneAddr l)).winner = .blank := by decide
  intro l _
  rw [hblank]
  exact ⟨nofun, nofun⟩

theorem asaKept_noArrowIntoRed : AsaKept fun s => s.asa.noArrowIntoRed s.lanes :=
  asaKept_of_winners (P := fun n x => x.noArrowIntoRed n) settleTable_noArrowIntoRed fun _ _ _ => noArrowIntoRed_congr

/-! ### In RESET (R178) -/

/-- In RESET no command sets a sign. -/
theorem exec_inReset_asa {c : Instr} {s t : State} (h : exec c s = .next t) (hr : s.stu.station = .inReset)
    (ht : s.slc.transaction = none) : t.asa = s.asa ∨ t.asa = Asa.reset := by
  have hbus : s.onBus = false := by simp [State.onBus, hr]
  have hrun : s.running = false := by simp [State.running, hr]
  have guarded : ∀ {p : Prop} [Decidable p] {u : State}, exec c s = .next (if p then u else s) → (p → u.asa = s.asa) →
      t.asa = s.asa ∨ t.asa = Asa.reset := fun {p _ u} hc hu => by
    rw [hc] at h
    cases h
    split
    case isTrue hp => exact .inl (hu hp)
    case isFalse => exact .inl rfl
  have bus : ∀ {p : Prop} {u : State}, (p → s.onBus = true) → p → u.asa = s.asa := fun hp h => by
    rw [hp h] at hbus; cases hbus
  have run : ∀ {p : Prop} {u : State}, (p → s.running = true) → p → u.asa = s.asa := fun hp h => by
    rw [hp h] at hrun; cases hrun
  have received : ∀ k f, exec c s = .next (s.receive k f) → t.asa = s.asa ∨ t.asa = Asa.reset := fun k f hc => guarded hc (bus id)
  have expired : ∀ id due f, exec c s = .next (s.expire id due f) → t.asa = s.asa ∨ t.asa = Asa.reset := fun id due f hc => by
    rw [hc] at h
    cases h
    unfold State.expire
    split
    · rw [if_neg (by simp [hbus])]; exact .inl rfl
    · exact .inl rfl
  have replied : ∀ k r, exec c s = .next (s.complete k r) → t.asa = s.asa ∨ t.asa = Asa.reset := fun k r hc => by
    rw [hc, State.complete, ht] at h
    cases h
    exact .inl rfl
  cases c with
  | powerApplied | resetAsserted keep => cases h; exact .inr rfl
  | resetReleased st x => exact guarded rfl fun _ => (releaseReset_released s st x).asa
  | windowEnd | beat | entryStale p | entryRemoved p | transmissionStart n | ceilingExpiry id | refusedLifetimeExpiry id
  | lineActivityNotAFrame b => exact guarded rfl (bus And.left)
  | clashCleared => exact guarded rfl (bus id)
  | frameSent | collision | backoffEnd | requestGapTimeout | replyEnd => exact guarded rfl fun _ => rfl
  | stateReceived f | announceReceived f | closeReceived f | releaseReceived f | ceilingReceived f
  | orphanClearReceived f => exact received _ f rfl
  | closureExpiry id | tombstoneExpiry id | leadWaitExpiry id | clearWaitExpiry id => exact expired _ _ _ rfl
  | identComplete r | setComplete r | proofComplete r | refreshComplete r | blankComplete r => exact replied _ r rfl
  | transactionStart => exact guarded rfl (run And.left)
  | millisecondCounterIncrement x => exact guarded rfl (run id)
  | edgeRecognised n p =>
    cases h
    cases laneOf n with
    | none => exact .inl rfl
    | some l => left; show (s.edgeRecognised l p).asa = s.asa; rw [State.edgeRecognised, if_neg (by simp [hrun])]
  | stuckOn n p =>
    cases h
    cases laneOf n with
    | none => exact .inl rfl
    | some l => left; dsimp only; rw [if_neg (by simp [hrun])]
  | edgeTaken =>
    cases h
    left
    split
    · rw [if_neg (by simp [hrun])]
    · rfl
  | replyTimeout =>
    left
    have hidle : exec .replyTimeout s = .next s := by show Host.Outcome.next _ = _; rw [ht]
    rw [hidle] at h
    cases h
    rfl
  | proofPollDue n | refreshDue n | identRetryDue n =>
    cases h
    left
    cases addrOf n with
    | none => rfl
    | some a => dsimp only; split <;> rfl
  | discoveryProofTimeout n | discoveryProofResendDue n =>
    cases h
    left
    cases addrOf n with
    | none => rfl
    | some a => dsimp only; rw [if_neg (by simp [State.actingOn, hr])]
  | holdreqAsserted =>
    cases h
    left
    split
    · rfl
    · unfold State.assertHold; dsimp only; rw [hr]
  | holdreqDropped =>
    refine guarded rfl fun _ => ?_
    unfold State.dropHold State.endHold
    dsimp only
    split
    · rw [hr]; rfl
    · rfl
  | joinEnd => exact guarded rfl fun hj => by rw [hr] at hj; cases hj.1
  | requestByte b =>
    cases h
    left
    split <;> rfl

/-! ### O57 -/

theorem Run.inReset {s t : State} (h : Run s t) (ht : t.stu.station = .inReset) : s.stu.station = .inReset :=
  reflTransGen_rel (R := Act) (S := fun s t => t.stu.station = .inReset → s.stu.station = .inReset) (fun _ => id)
    (fun _ _ _ h g => h ∘ g) (fun _ _ => Act.inReset) h ht

theorem exec_arrows {c : Instr} {s t : State} (h : exec c s = .next t) (hs : s.arrowsSafe) :
    t.noArrowIntoRed ∧ (t.stu.station = .inReset → t.asa = Asa.reset) := by
  obtain ⟨harrow, ⟨-, -, -, hidle⟩, hreset⟩ := hs
  rw [noArrowIntoRed_iff] at harrow ⊢
  cases effect_of_exec h with
  | reset => exact ⟨reset_noArrowIntoRed _, fun _ => rfl⟩
  | release st x hr =>
    rw [(releaseReset_released s st x).asa, hreset hr]
    exact ⟨reset_noArrowIntoRed _, fun _ => rfl⟩
  | run hrun =>
    refine ⟨reflTransGen_keeps (R := Act) (P := fun s => s.asa.noArrowIntoRed s.lanes)
      (fun _ _ => asaKept_noArrowIntoRed.act) hrun harrow, fun ht => ?_⟩
    have hr := hrun.inReset ht
    have hnone : s.slc.transaction = none := (hidle (by simp [State.running, hr])).1
    rcases exec_inReset_asa h hr hnone with h | h
    · rw [h]; exact hreset hr
    · exact h

theorem step_arrowsSafe {s t : State} (h : step s = .next t) (hs : s.arrowsSafe) : t.arrowsSafe := by
  have hhold := step_holdSafe hs.2.1 h
  unfold step at h
  split at h
  · cases h; exact hs
  case h_2 c rest hq =>
    obtain ⟨harrow, hreset⟩ := exec_arrows (s := s.withPending rest) h hs
    exact ⟨harrow, hhold, hreset⟩

/-- Settles O57: the winners change in R138's settling alone, whose post-pass turns or blocks each arrow. -/
theorem stepKeepsArrowsSafe : Obligations.StepKeepsArrowsSafe := fun _ _ h =>
  ⟨asaKept_lanternFollows.step (P := Asa.lanternFollows) rfl h, step_arrowsSafe h⟩

end Sys2Proof.Machine
end

section
/-! O58: the reasons behind the red cross requests (R140). What a record backs is read from the lookup of records by id, so that
an operation that places requests first and puts the record in the table afterwards can be followed step by step. -/

namespace Sys2Proof.Machine

/-! ### Reasons -/

/-- A record whose own requests may stand at a CLOSED level: AT in SETTING, PROVEN or DEGRADED. -/
def ClosureRecord.backsOwn (r : ClosureRecord) : Prop :=
  r.role = some .atAnchor ∧ (r.stage = .setting ∨ r.stage = .proven ∨ r.stage = .degraded)

/-- A record that substitutes a red cross on a lane. -/
def ClosureRecord.backsSubst (r : ClosureRecord) (l : Lane) : Prop :=
  r.role = some .lead1 ∧ r.stage ≠ .released ∧ (l, .redX) ∈ r.substitution

theorem ClosureRecord.backsOwn.live {r : ClosureRecord} (h : r.backsOwn) : r.live = true := by
  rcases h.2 with hst | hst | hst <;> simp [ClosureRecord.live, hst]

theorem ClosureRecord.backsSubst.live {r : ClosureRecord} {l : Lane} (h : r.backsSubst l) : r.live = true := by
  simpa [ClosureRecord.live] using h.2.1

/-- R140: the reason behind a request at a lane's CLOSED level, given the records by id and the orphan set. -/
def Reason (ρ : Nat → Option ClosureRecord) (os : List Lane) (l : Lane) : Source → Prop
  | .closure id _ => ∃ r, ρ id = some r ∧ r.backsOwn
  | .substitution id _ => ∃ r, ρ id = some r ∧ r.backsSubst l
  | .orphan k => k = l ∧ l ∈ os
  | .enclosed => True
  | _ => False

/-- Every request at a CLOSED level has its reason. -/
def Reasoned (ρ : Nat → Option ClosureRecord) (os : List Lane) (x : Asa) : Prop :=
  ∀ (l : Lane) (q : Request), q ∈ (x.modules.get (laneAddr l)).row → q.level = .closed → Reason ρ os l q.source

theorem redCrossesReasoned_iff (s : State) : s.redCrossesReasoned ↔ Reasoned s.record s.clt.orphans s.asa := by
  refine forall_congr' fun l => forall_congr' fun q => imp_congr_right fun _ => imp_congr_right fun _ => ?_
  cases q.source <;> exact .rfl

section
variable {ρ σ : Nat → Option ClosureRecord} {os : List Lane} {x : Asa}

/-- A reason stays where the records that can back one do. -/
theorem Reason.mono {ps : List Lane} {l : Lane} {src : Source} (hos : ∀ l ∈ os, l ∈ ps)
    (hown : ∀ id r, ρ id = some r → r.backsOwn → ∃ r, σ id = some r ∧ r.backsOwn)
    (hsub : ∀ id r, ρ id = some r → r.backsSubst l → ∃ r, σ id = some r ∧ r.backsSubst l) (h : Reason ρ os l src) :
    Reason σ ps l src := by
  cases src with
  | closure id _ => obtain ⟨r, hr, hb⟩ := h; exact hown id r hr hb
  | substitution id _ => obtain ⟨r, hr, hb⟩ := h; exact hsub id r hr hb
  | orphan k => exact ⟨h.1, hos _ h.2⟩
  | enclosed => trivial
  | _ => exact h

/-- A lookup that keeps the live records. -/
theorem Reasoned.of_live (h : Reasoned ρ os x) (hlive : ∀ id r, ρ id = some r → r.live = true → σ id = some r) :
    Reasoned σ os x := by
  intro l q hq hc
  exact (h l q hq hc).mono (fun _ => id) (fun id r hr hb => ⟨r, hlive id r hr hb.live, hb⟩)
    fun id r hr hb => ⟨r, hlive id r hr hb.live, hb⟩

/-- The lookup with a record put in. -/
def upd (ρ : Nat → Option ClosureRecord) (r : ClosureRecord) (id : Nat) : Option ClosureRecord :=
  if id = r.id then some r else ρ id

/-- A record put in that backs the requests that stand of its id. -/
theorem Reasoned.upd_of_requests {r : ClosureRecord} (h : Reasoned ρ os x)
    (hr : ∀ (l : Lane) (q : Request), q ∈ (x.modules.get (laneAddr l)).row → q.level = .closed →
      (q.source.ownOf r.id = true → r.backsOwn) ∧ (q.source.substOf r.id = true → r.backsSubst l)) :
    Reasoned (upd ρ r) os x := by
  intro l q hq hc
  have hreq := hr l q hq hc
  have hold := h l q hq hc
  cases hsrc : q.source with
  | closure id a =>
    rw [hsrc] at hreq hold
    by_cases hid : id = r.id
    · exact ⟨r, if_pos hid, hreq.1 (by simp [Source.ownOf, hid])⟩
    · obtain ⟨r0, hr0, hb⟩ := hold
      exact ⟨r0, (if_neg hid).trans hr0, hb⟩
  | substitution id a =>
    rw [hsrc] at hreq hold
    by_cases hid : id = r.id
    · exact ⟨r, if_pos hid, hreq.2 (by simp [Source.substOf, hid])⟩
    · obtain ⟨r0, hr0, hb⟩ := hold
      exact ⟨r0, (if_neg hid).trans hr0, hb⟩
  | orphan k => rw [hsrc] at hold; exact hold
  | enclosed => trivial
  | _ => rw [hsrc] at hold; exact hold

/-- What backs a record's own red cross. -/
theorem Reasoned.own {l : Lane} {q : Request} {id : Nat} (h : Reasoned ρ os x)
    (hq : q ∈ (x.modules.get (laneAddr l)).row) (hc : q.level = .closed) (hid : q.source.ownOf id = true) :
    ∃ r, ρ id = some r ∧ r.backsOwn := by
  have hold := h l q hq hc
  cases hsrc : q.source with
  | closure k a =>
    rw [hsrc] at hid hold
    obtain rfl : k = id := by simpa [Source.ownOf] using hid
    exact hold
  | _ => rw [hsrc] at hid; cases hid

/-- What backs a record's substituted red cross. -/
theorem Reasoned.subst {l : Lane} {q : Request} {id : Nat} (h : Reasoned ρ os x)
    (hq : q ∈ (x.modules.get (laneAddr l)).row) (hc : q.level = .closed) (hid : q.source.substOf id = true) :
    ∃ r, ρ id = some r ∧ r.backsSubst l := by
  have hold := h l q hq hc
  cases hsrc : q.source with
  | substitution k a =>
    rw [hsrc] at hid hold
    obtain rfl : k = id := by simpa [Source.substOf] using hid
    exact hold
  | _ => rw [hsrc] at hid; cases hid

/-- A record put in that backs at least what the one before it did. -/
theorem Reasoned.upd_of_backs {r : ClosureRecord} (h : Reasoned ρ os x)
    (hr : ∀ r0, ρ r.id = some r0 → (r0.backsOwn → r.backsOwn) ∧ ∀ l, r0.backsSubst l → r.backsSubst l) :
    Reasoned (upd ρ r) os x :=
  h.upd_of_requests fun l q hq hc => by
    refine ⟨fun hid => ?_, fun hid => ?_⟩
    · obtain ⟨r0, hr0, hb⟩ := h.own hq hc hid
      exact (hr r0 hr0).1 hb
    · obtain ⟨r0, hr0, hb⟩ := h.subst hq hc hid
      exact (hr r0 hr0).2 l hb

end

/-! ### Placements and withdrawals -/

section
variable {ρ : Nat → Option ClosureRecord} {os : List Lane} {s : State}

theorem mem_of_mem_placeIn {q r : Request} {row : List Request} (h : q ∈ placeIn row r) : q = r ∨ q ∈ row :=
  (mem_of_mem_insertRequest h).imp_right List.mem_of_mem_filter

theorem Reasoned.setDisplay {a : Addr} {d : Display} (h : Reasoned ρ os s.asa)
    (hd : ∀ l, a = laneAddr l → ∀ q ∈ d.row, q.level = .closed → Reason ρ os l q.source) :
    Reasoned ρ os (s.setDisplay a d).asa := by
  intro l q hq hc
  have hq' : q ∈ ((s.setDisplay a d).display (laneAddr l)).row := hq
  rw [display_setDisplay] at hq'
  split at hq'
  case isTrue ha => exact hd l ha.symm q hq' hc
  case isFalse => exact h l q hq' hc

theorem Reasoned.place {a : Addr} {r : Request} (h : Reasoned ρ os s.asa)
    (hr : ∀ l, a = laneAddr l → r.level = .closed → Reason ρ os l r.source) : Reasoned ρ os (s.place a r).asa :=
  h.setDisplay fun l ha q hq hc => by
    rcases mem_of_mem_placeIn hq with rfl | hq
    · exact hr l ha hc
    · exact h l q (ha ▸ hq) hc

theorem Reasoned.placeAll {reqs : List (Addr × Request)} (h : Reasoned ρ os s.asa)
    (hr : ∀ x ∈ reqs, ∀ l, x.1 = laneAddr l → x.2.level = .closed → Reason ρ os l x.2.source) :
    Reasoned ρ os (s.placeAll reqs).asa := by
  induction reqs generalizing s with
  | nil => exact h
  | cons x reqs ih =>
    exact ih (h.place (hr x List.mem_cons_self)) fun y hy => hr y (List.mem_cons_of_mem x hy)

theorem keepRequests_row (s : State) (f : Addr → Request → Bool) (a : Addr) :
    ((s.keepRequests f).asa.modules.get a).row = (s.display a).row.filter (f a) := by
  unfold State.keepRequests
  rw [Per8.get_build]

theorem Reasoned.keep (f : Addr → Request → Bool) (h : Reasoned ρ os s.asa) : Reasoned ρ os (s.keepRequests f).asa := by
  intro l q hq hc
  rw [keepRequests_row] at hq
  exact h l q (List.mem_of_mem_filter hq) hc

/-- R138, step 2: the post-pass adds ENCLOSED requests only. -/
theorem Reasoned.settleTable (h : Reasoned ρ os s.asa) : Reasoned ρ os s.settleTable.asa := by
  intro l q hq hc
  have hq' : q ∈ (s.settledDisplay (laneAddr l)).row := by rw [← settleTable_display]; exact hq
  unfold State.settledDisplay at hq'
  rw [addrLane_laneAddr] at hq'
  dsimp only at hq'
  split at hq'
  · unfold enclosedRow at hq'
    split at hq'
    · rcases mem_of_mem_placeIn hq' with rfl | hq
      · trivial
      · exact h l q hq hc
    · exact h l q (List.mem_of_mem_filter hq') hc
  · exact h l q hq' hc

theorem SignAct.reasoned {t : State} (hst : SignAct s t) (h : Reasoned ρ os s.asa) : Reasoned ρ os t.asa := by
  cases hst with
  | setSpc a lv x hlv =>
    cases x
    · exact h.setDisplay fun l ha q hq hc => h l q (ha ▸ List.mem_of_mem_filter hq) hc
    · exact h.place fun _ _ hc => absurd hc hlv
  | settleTable => exact h.settleTable
  | order a => exact h.setDisplay fun l ha q hq hc => h l q (ha ▸ hq) hc
  | placeGroup k es => unfold Reasoned; rw [placeGroup_modules]; exact h
  | _ => exact h

theorem SignRun.reasoned {t : State} (hst : SignRun s t) (h : Reasoned ρ os s.asa) : Reasoned ρ os t.asa :=
  reflTransGen_keeps (R := SignAct) (P := fun s => Reasoned ρ os s.asa) (fun _ _ => SignAct.reasoned) hst h

end

/-! ### One event of the Closure Table -/

/-- R121, R122: no AT record of a lookup waits to clear. -/
def NoClearingAnchor (ρ : Nat → Option ClosureRecord) : Prop :=
  ∀ id r, ρ id = some r → r.role = some .atAnchor → r.stage ≠ .waitClear

/-- Every red cross has its reason, and no AT record waits to clear. -/
structure CrossesBacked (s : State) : Prop where
  reasoned : Reasoned s.record s.clt.orphans s.asa
  anchors : NoClearingAnchor s.record

/-- A record like the one that the table holds, in role, stage and substitution. -/
structure LikeHeld (s : State) (r : ClosureRecord) : Prop where
  like : ∃ r0, s.record r.id = some r0 ∧ r.role = r0.role ∧ r.stage = r0.stage ∧ r.substitution = r0.substitution

theorem likeHeld_of_record {s : State} {id : Nat} {r : ClosureRecord} (h : s.record id = some r) : LikeHeld s r :=
  ⟨r, by rw [record_id s h]; exact h, rfl, rfl, rfl⟩

/-- No request at a CLOSED level is of an id. -/
def NoCrossOf (s : State) (id : Nat) : Prop :=
  ∀ (l : Lane) (q : Request), q ∈ (s.asa.modules.get (laneAddr l)).row → q.level = .closed →
    q.source.ownOf id = false ∧ q.source.substOf id = false

namespace CrossesBacked
variable {s : State}

/-- A record put into the table. -/
theorem put {r : ClosureRecord} (h : CrossesBacked s) (hr : Reasoned (upd s.record r) s.clt.orphans s.asa)
    (ha : r.role = some .atAnchor → r.stage ≠ .waitClear) : CrossesBacked (s.putRecord r) where
  reasoned := by
    have hρ : (s.putRecord r).record = upd s.record r := funext fun id => putRecord_record s r id
    rw [hρ]
    exact hr
  anchors id x hx := by
    rw [putRecord_record] at hx
    split at hx
    · cases hx; exact ha
    · exact h.anchors id x hx

/-- A record that backs what the one in its place did. -/
theorem put_of_backs {r : ClosureRecord} (h : CrossesBacked s)
    (hr : ∀ r0, s.record r.id = some r0 → (r0.backsOwn → r.backsOwn) ∧ ∀ l, r0.backsSubst l → r.backsSubst l)
    (ha : r.role = some .atAnchor → r.stage ≠ .waitClear) : CrossesBacked (s.putRecord r) :=
  h.put (h.reasoned.upd_of_backs hr) ha

/-- A record like the one in its place. -/
theorem put_like {r : ClosureRecord} (h : CrossesBacked s) (hr : LikeHeld s r) : CrossesBacked (s.putRecord r) := by
  obtain ⟨r0, hr0, hrole, hstage, hsub⟩ := hr
  refine h.put_of_backs (fun x hx => ?_) fun ha => ?_
  · obtain rfl : r0 = x := Option.some.inj (hr0.symm.trans hx)
    unfold ClosureRecord.backsOwn ClosureRecord.backsSubst
    rw [hrole, hstage, hsub]
    exact ⟨id, fun _ => id⟩
  · rw [hrole] at ha
    rw [hstage]
    exact h.anchors _ r0 hr0 ha

/-- A record of an id without red crosses. -/
theorem put_of_noCross {r : ClosureRecord} (h : CrossesBacked s) (hr : NoCrossOf s r.id)
    (ha : r.role = some .atAnchor → r.stage ≠ .waitClear) : CrossesBacked (s.putRecord r) :=
  h.put (h.reasoned.upd_of_requests fun l q hq hc => by
    obtain ⟨h1, h2⟩ := hr l q hq hc
    rw [h1, h2]
    exact ⟨nofun, nofun⟩) ha

theorem keep (f : Addr → Request → Bool) (h : CrossesBacked s) : CrossesBacked (s.keepRequests f) :=
  ⟨h.reasoned.keep f, h.anchors⟩

theorem withdrawRecord (id : Nat) (h : CrossesBacked s) : CrossesBacked (s.withdrawRecord id) := (h.keep _).keep _

/-- Requests that have their reasons already. -/
theorem placeAll {reqs : List (Addr × Request)} (h : CrossesBacked s)
    (hr : ∀ x ∈ reqs, ∀ l, x.1 = laneAddr l → x.2.level = .closed → Reason s.record s.clt.orphans l x.2.source) :
    CrossesBacked (s.placeAll reqs) := by
  have hclt := (placeAll_same s reqs).clt
  have hρ : (s.placeAll reqs).record = s.record := funext fun id => placeAll_record s reqs id
  exact ⟨by rw [hρ, hclt]; exact h.reasoned.placeAll hr, by rw [hρ]; exact h.anchors⟩

/-- Requests placed, and then the record that gives them their reasons. -/
theorem placeAll_put {reqs : List (Addr × Request)} {r : ClosureRecord} (h : CrossesBacked s)
    (hr : Reasoned (upd s.record r) s.clt.orphans s.asa) (ha : r.role = some .atAnchor → r.stage ≠ .waitClear)
    (hreqs : ∀ x ∈ reqs, ∀ l, x.1 = laneAddr l → x.2.level = .closed →
      Reason (upd s.record r) s.clt.orphans l x.2.source) : CrossesBacked ((s.placeAll reqs).putRecord r) where
  reasoned := by
    have hρ : ((s.placeAll reqs).putRecord r).record = upd s.record r := funext fun id => by
      rw [putRecord_record, placeAll_record]; rfl
    have hclt : ((s.placeAll reqs).putRecord r).clt.orphans = s.clt.orphans := by
      show (s.placeAll reqs).clt.orphans = _
      rw [(placeAll_same s reqs).clt]
    rw [hρ, hclt]
    exact hr.placeAll hreqs
  anchors id x hx := by
    rw [putRecord_record, placeAll_record] at hx
    split at hx
    · cases hx; exact ha
    · exact h.anchors id x hx

theorem noCross_of_dead {id : Nat} (h : CrossesBacked s) (hd : ∀ r, s.record id = some r → r.live = false) :
    NoCrossOf s id := by
  refine fun l q hq hc => ⟨Bool.eq_false_iff.2 fun hid => ?_, Bool.eq_false_iff.2 fun hid => ?_⟩
  · obtain ⟨r, hr, hb⟩ := h.reasoned.own hq hc hid
    have := hd r hr
    rw [hb.live] at this
    cases this
  · obtain ⟨r, hr, hb⟩ := h.reasoned.subst hq hc hid
    have := hd r hr
    rw [hb.live] at this
    cases this

end CrossesBacked

theorem noCross_withdrawRecord (s : State) (id : Nat) : NoCrossOf (s.withdrawRecord id) id := by
  intro l q hq _
  unfold State.withdrawRecord State.withdrawSubst at hq
  rw [keepRequests_row] at hq
  obtain ⟨hq1, hsub⟩ := List.mem_filter.1 hq
  unfold State.withdrawOwn at hq1
  have hq2 : q ∈ ((s.keepRequests fun _ q => !(q.source.ownOf id)).asa.modules.get (laneAddr l)).row := hq1
  rw [keepRequests_row] at hq2
  exact ⟨by simpa using (List.mem_filter.1 hq2).2, by simpa using hsub⟩

/-! ### The operations -/

theorem stageAfterProof_cases (cs : List ProofClass) (st : Stage) :
    stageAfterProof cs st = .proven ∨ stageAfterProof cs st = st ∨ stageAfterProof cs st = .degraded := by
  unfold stageAfterProof
  split
  · exact .inl rfl
  · split
    · exact .inr (.inl rfl)
    · exact .inr (.inr rfl)

theorem proofRuns_iff (st : Stage) : st.proofRuns = true ↔ st = .setting ∨ st = .proven ∨ st = .degraded := by
  cases st <;> decide

theorem arrowOn_ne_redX (n : Nat) (ls : List Lane) (l : Lane) : arrowOn n ls l ≠ .redX := by
  unfold arrowOn
  dsimp only
  split
  · decide
  · split
    · decide
    · split <;> decide

/-- R129: a red cross is substituted by a live LEAD_1 record. -/
theorem substitutionOf_redX {s : State} {r : ClosureRecord} {l : Lane} (h : (l, Aspect.redX) ∈ s.substitutionOf r) :
    r.role = some .lead1 ∧ r.stage ≠ .released := by
  unfold State.substitutionOf at h
  split at h
  · cases h
  case isFalse hlive =>
    have hst : r.stage ≠ .released := by simpa [ClosureRecord.live] using hlive
    split at h
    case h_1 hrole => exact ⟨hrole, hst⟩
    case h_2 =>
      split at h
      · cases h
      · obtain ⟨k, -, hk⟩ := List.mem_map.1 h
        exact absurd (congrArg Prod.snd hk) (arrowOn_ne_redX s.lanes r.localLanes k)
    case h_3 => cases h

/-- R108: the request set's red crosses are those of an AT record. -/
theorem requestSet_closed {r : ClosureRecord} {n : Nat} {x : Addr × Request} (hx : x ∈ r.requestSet n)
    (hc : x.2.level = .closed) : r.role = some .atAnchor ∧ x.2.source = r.source := by
  unfold ClosureRecord.requestSet at hx
  rcases List.mem_append.1 hx with hx | hx
  · unfold ClosureRecord.laneRequests at hx
    split at hx
    case h_1 hrole =>
      obtain ⟨l, -, rfl⟩ := List.mem_map.1 hx
      exact ⟨hrole, rfl⟩
    case h_2 =>
      split at hx
      · cases hx
      · obtain ⟨l, -, rfl⟩ := List.mem_map.1 hx
        cases hc
    case h_3 => cases hx
  · obtain ⟨q, hq, rfl⟩ := List.mem_map.1 hx
    unfold ClosureRecord.legendRequest at hq
    split at hq
    · obtain ⟨p, hp, rfl⟩ := Option.map_eq_some_iff.1 (Option.mem_toList.1 hq)
      cases hc
    · split at hq
      · cases hq
      · cases hq
      · obtain rfl := Option.some.inj (Option.mem_toList.1 hq)
        cases hc

theorem laneAddr_inj {k l : Lane} (h : laneAddr k = laneAddr l) : k = l :=
  Fin.ext (by simpa [laneAddr] using congrArg Fin.val h)

theorem upd_same (ρ : Nat → Option ClosureRecord) (r : ClosureRecord) : upd ρ r r.id = some r := if_pos rfl

namespace CrossesBacked
variable {w : Work}

theorem prove (id : Nat) (h : CrossesBacked w.s) : CrossesBacked (w.prove id).s := by
  unfold Work.prove
  split
  · exact h
  case h_2 r hr =>
    split
    case isTrue hruns =>
      dsimp only
      have hst := (proofRuns_iff _).1 hruns.1
      have hnew : stageAfterProof (w.s.proofClasses id) r.stage = .setting ∨
          stageAfterProof (w.s.proofClasses id) r.stage = .proven ∨
          stageAfterProof (w.s.proofClasses id) r.stage = .degraded := by
        rcases stageAfterProof_cases (w.s.proofClasses id) r.stage with h | h | h
        · exact .inr (.inl h)
        · rw [h]; exact hst
        · exact .inr (.inr h)
      refine h.put_of_backs (r := { r with stage := stageAfterProof (w.s.proofClasses id) r.stage }) (fun r0 hr0 => ?_) ?_
      · obtain rfl : r = r0 := Option.some.inj (hr.symm.trans ((record_id w.s hr) ▸ hr0))
        refine ⟨fun hb => ⟨hb.1, hnew⟩, fun l hb => ⟨hb.1, ?_, hb.2.2⟩⟩
        dsimp only
        rcases hnew with hn | hn | hn <;> rw [hn] <;> decide
      · intro _
        dsimp only
        rcases hnew with hn | hn | hn <;> rw [hn] <;> decide
    case isFalse => exact h

/-- R131: the substitution's requests, put in place of the old ones. -/
theorem substitute (id : Nat) (h : CrossesBacked w.s) : CrossesBacked (w.substitute id).s := by
  unfold Work.substitute
  split
  · exact h
  case h_2 r hr =>
    dsimp only
    split
    · exact h
    · refine prove id ?_
      obtain rfl := record_id w.s hr
      have hk : CrossesBacked (w.s.withdrawSubst r.id) := h.keep _
      refine hk.placeAll_put (r := { r with substitution := w.s.substitutionOf r }) ?_ (h.anchors r.id r hr)
        fun x hx l hxl hc => ?_
      · refine hk.reasoned.upd_of_requests fun l q hq hc => ⟨fun hown => ?_, fun hsub => ?_⟩
        · obtain ⟨r0, hr0, hb⟩ := hk.reasoned.own hq hc hown
          obtain rfl : r = r0 := Option.some.inj (hr.symm.trans hr0)
          exact hb
        · unfold State.withdrawSubst at hq
          rw [keepRequests_row] at hq
          have hns := (List.mem_filter.1 hq).2
          rw [hsub] at hns
          cases hns
      · obtain ⟨⟨k, a⟩, hy, rfl⟩ := List.mem_map.1 hx
        obtain rfl : k = l := laneAddr_inj hxl
        have ha : a = .redX := by
          by_contra hne
          simp [ClosureRecord.substRequest, hne] at hc
        subst ha
        obtain ⟨hrole, hst⟩ := substitutionOf_redX hy
        exact ⟨_, upd_same _ { r with substitution := w.s.substitutionOf r }, hrole, hst, hy⟩

/-- R117: an AT record places its red crosses and stands in SETTING or past it. -/
theorem leadGo {r : ClosureRecord} (h : CrossesBacked w.s) (hheld : ∃ r0, w.s.record r.id = some r0 ∧ r0.role = some .atAnchor)
    (hrole : r.role = some .atAnchor) (hst : r.stage ≠ .waitClear ∧ r.stage ≠ .released) : CrossesBacked (w.leadGo r).s := by
  have hnew : ∀ st, st = (if r.stage = .waitLead then .setting else r.stage) →
      st = .setting ∨ st = .proven ∨ st = .degraded := by
    rintro _ rfl
    revert hst
    cases r.stage <;> decide
  have hbacks : ClosureRecord.backsOwn { r with
      stage := if r.stage = .waitLead then .setting else r.stage, waitTime := none, awaiting := [], legendWaits := false } :=
    ⟨hrole, hnew _ rfl⟩
  refine prove r.id (h.placeAll_put ?_ (fun _ => ?_) fun x hx l _ hc => ?_)
  · refine h.reasoned.upd_of_backs fun r0 hr0 => ⟨fun _ => hbacks, fun l hb => ?_⟩
    obtain ⟨r1, hr1, hat⟩ := hheld
    obtain rfl : r1 = r0 := Option.some.inj (hr1.symm.trans hr0)
    rw [hb.1] at hat
    cases hat
  · rcases hbacks.2 with h | h | h <;> exact fun hw => by rw [hw] at h; cases h
  · obtain ⟨-, hsrc⟩ := requestSet_closed hx hc
    rw [hsrc]
    exact ⟨_, upd_same _ _, hbacks⟩

theorem checkLead (id : Nat) (h : CrossesBacked w.s) : CrossesBacked (w.checkLead id).s := by
  unfold Work.checkLead
  split
  · exact h
  case h_2 r hr =>
    split
    case isTrue hw =>
      have hwaits := hw.1
      simp only [ClosureRecord.waitsForLead, Bool.and_eq_true, Bool.or_eq_true, beq_iff_eq] at hwaits
      obtain ⟨hrole, hst⟩ := hwaits
      refine h.leadGo ⟨r, by rw [record_id w.s hr]; exact hr, hrole⟩ hrole ?_
      rcases hst with hst | ⟨hst, -⟩ <;> rw [hst] <;> decide
    case isFalse => exact h

theorem bury (r : ClosureRecord) (h : CrossesBacked w.s) : CrossesBacked (w.bury r).s :=
  (h.withdrawRecord r.id).put_of_noCross (r := r.tombstone) (noCross_withdrawRecord w.s r.id) fun _ => by
    show Stage.released ≠ .waitClear; decide

theorem checkClear (id : Nat) (h : CrossesBacked w.s) : CrossesBacked (w.checkClear id).s := by
  unfold Work.checkClear
  split
  · exact h
  · split
    · exact h.bury _
    · exact h

theorem release {r : ClosureRecord} (h : CrossesBacked w.s) (hr : LikeHeld w.s r) : CrossesBacked (w.release r).s := by
  unfold Work.release
  split
  · exact h.put_like hr
  · split
    · exact h.bury r
    case isFalse hrole =>
      rw [not_or] at hrole
      obtain ⟨r0, hr0, hrole0, -, hsub0⟩ := hr
      refine checkClear r.id (h.put_of_backs
        (r := { r with stage := .waitClear, waitTime := some 10000, pendingMod := none }) (fun x hx => ?_) fun ha => ?_)
      · obtain rfl : r0 = x := Option.some.inj (hr0.symm.trans hx)
        refine ⟨fun hb => absurd (hrole0.trans hb.1) hrole.1, fun l hb => ⟨hrole0.trans hb.1, by dsimp only; decide, ?_⟩⟩
        exact hsub0 ▸ hb.2.2
      · exact absurd ha hrole.1

theorem startRole {r : ClosureRecord} (h : CrossesBacked w.s) (hr : NoCrossOf w.s r.id) : CrossesBacked (w.startRole r).s := by
  have hupd : ∀ x : ClosureRecord, x.id = r.id → Reasoned (upd w.s.record x) w.s.clt.orphans w.s.asa := fun x hx =>
    h.reasoned.upd_of_requests fun l q hq hc => by
      rw [hx, (hr l q hq hc).1, (hr l q hq hc).2]
      exact ⟨nofun, nofun⟩
  unfold Work.startRole
  split
  · exact checkLead r.id (h.put (hupd { r with stage := .waitLead, waitTime := some 10000 } rfl) fun _ => by dsimp only; decide)
  case h_2 hrole =>
    refine prove r.id (substitute r.id (h.placeAll_put (r := { r with stage := .setting }) (hupd _ rfl) (fun _ => by dsimp only; decide)
      fun x hx l _ hc => ?_))
    exact absurd (requestSet_closed hx hc).1 hrole

/-- R126: a LEAD record that stays in its role. -/
theorem modifyLead {r : ClosureRecord} (h : CrossesBacked w.s) (hr : LikeHeld w.s r) (hrole : r.role ≠ some .atAnchor) :
    CrossesBacked (w.modifyLead r).s := by
  obtain ⟨r0, hr0, hrole0, -, hsub0⟩ := hr
  have hk : CrossesBacked (w.s.withdrawOwn r.id) := h.keep _
  refine prove r.id (substitute r.id (hk.placeAll_put (r := { r with stage := .setting, waitTime := none })
    (hk.reasoned.upd_of_backs fun x hx => ?_) (fun _ => by dsimp only; decide) fun x hx l _ hc => ?_))
  · obtain rfl : r0 = x := Option.some.inj (hr0.symm.trans hx)
    exact ⟨fun hb => absurd (hrole0.trans hb.1) hrole, fun l hb => ⟨hrole0.trans hb.1, by dsimp only; decide, hsub0 ▸ hb.2.2⟩⟩
  · exact absurd (requestSet_closed hx hc).1 hrole

/-- R127: an AT record that stays at AT. -/
theorem modifyAnchor {r : ClosureRecord} (h : CrossesBacked w.s) (hr : LikeHeld w.s r) (hrole : r.role = some .atAnchor) :
    CrossesBacked (w.modifyAnchor r).s := by
  have ⟨r0, hr0, hrole0, hst0, hsub0⟩ := hr
  unfold Work.modifyAnchor
  split
  · exact checkLead r.id (h.put_like ⟨r0, hr0, hrole0, hst0, hsub0⟩)
  · dsimp only
    have hk : CrossesBacked (w.s.withdrawSurplus r) := h.keep _
    split
    · exact leadGo (w := ⟨w.s.withdrawSurplus r, _⟩) hk ⟨r0, hr0, hrole0.symm.trans hrole⟩ hrole ⟨by dsimp only; decide, by dsimp only; decide⟩
    · refine checkLead r.id (hk.put_of_backs (fun x hx => ?_) fun _ => by dsimp only; decide)
      obtain rfl : r0 = x := Option.some.inj (hr0.symm.trans hx)
      refine ⟨fun _ => ⟨hrole, .inl rfl⟩, fun l hb => ?_⟩
      have hlead := hrole0.trans hb.1
      rw [hrole] at hlead
      cases hlead

theorem applyMod {r : ClosureRecord} (c : Closure) (h : CrossesBacked w.s) (hr : LikeHeld w.s r) :
    CrossesBacked (w.applyMod r c).s := by
  have ⟨r0, hr0, hrole0, hst0, hsub0⟩ := hr
  unfold Work.applyMod
  split
  · exact release h ⟨r0, hr0, hrole0, hst0, hsub0⟩
  case h_2 role _ =>
    dsimp only
    split
    case isTrue hsame =>
      have hlike : LikeHeld w.s (r.takeFields w.s.lanes c (some role)) := ⟨r0, hr0, hsame.symm.trans hrole0, hst0, hsub0⟩
      split
      case isTrue hat => exact modifyAnchor (w := ⟨w.s, _⟩) h hlike (congrArg some hat)
      case isFalse hat => exact modifyLead (w := ⟨w.s, _⟩) h hlike fun hn => hat (Option.some.inj hn)
    case isFalse =>
      exact startRole (w := ⟨w.s.withdrawRecord r.id, _⟩) (h.withdrawRecord r.id) (noCross_withdrawRecord w.s r.id)

theorem drain (id : Nat) (h : CrossesBacked w.s) : CrossesBacked (w.drain id).s := by
  unfold Work.drain
  split
  · exact h
  case h_2 r hr =>
    split
    · exact h
    · split
      · obtain rfl := record_id w.s hr
        exact h.applyMod _ ⟨r, hr, rfl, rfl, rfl⟩
      · exact h

end CrossesBacked

end Sys2Proof.Machine
end

section
/-! O58, continued: installations, releases, orphans, and the step. -/

namespace Sys2Proof.Machine

open Relation (ReflTransGen)

/-! ### Lookups after a removal -/

theorem find_filter_ne {α : Type} (f : α → Nat) (xs : List α) {id k : Nat} (h : k ≠ id) :
    (xs.filter fun x => f x != id).find? (fun x => f x == k) = xs.find? fun x => f x == k := by
  rw [List.find?_filter]
  congr 1
  funext x
  by_cases hx : f x = k
  · simp [hx, h]
  · simp [hx]

theorem oldestTombstone_dead {rs : List ClosureRecord} {r : ClosureRecord} (h : oldestTombstone rs = some r) :
    r.live = false := by
  induction rs generalizing r with
  | nil => cases h
  | cons x rest ih =>
    unfold oldestTombstone at h
    split at h
    · split at h
      · cases h
      case isFalse hx => cases h; simpa using hx
    case h_2 q hq =>
      split at h
      case isTrue hx => cases h; exact hx.1
      case isFalse => cases h; exact ih hq

/-- In a table with one record for an id, each record is the one that its id finds. -/
theorem find_of_mem {rs : List ClosureRecord} {r : ClosureRecord} (h : (rs.map ClosureRecord.id).Pairwise (· < ·)) (hr : r ∈ rs) :
    rs.find? (fun x => x.id == r.id) = some r := by
  induction rs with
  | nil => cases hr
  | cons x rest ih =>
    obtain ⟨hx, hrest⟩ := List.pairwise_cons.1 h
    rcases List.mem_cons.1 hr with rfl | hr
    · simp
    · have hlt := hx _ (List.mem_map_of_mem hr)
      rw [List.find?_cons_of_neg (by simpa using hlt.ne), ih hrest hr]

theorem record_of_mem {s : State} {r : ClosureRecord} (h : s.clt.sound) (hr : r ∈ s.clt.records) : s.record r.id = some r :=
  find_of_mem h.2 hr

/-- R101: room for a closure costs no live record of another id. -/
theorem find_roomFor {rs qs : List ClosureRecord} {r : ClosureRecord} {id k : Nat} (hrs : (rs.map ClosureRecord.id).Pairwise (· < ·))
    (hroom : roomFor (rs.filter fun x => x.id != id) = some qs) (hk : k ≠ id) (hr : rs.find? (fun x => x.id == k) = some r)
    (hlive : r.live = true) : qs.find? (fun x => x.id == k) = some r := by
  have hr' : (rs.filter fun x => x.id != id).find? (fun x => x.id == k) = some r := by
    rw [find_filter_ne ClosureRecord.id rs hk]; exact hr
  unfold roomFor at hroom
  split at hroom
  · cases hroom; exact hr'
  · obtain ⟨t, ht, rfl⟩ := Option.map_eq_some_iff.1 hroom
    have hne : k ≠ t.id := by
      rintro rfl
      have htr := find_of_mem hrs (List.mem_of_mem_filter (oldestTombstone_mem ht))
      rw [hr] at htr
      cases htr
      rw [oldestTombstone_dead ht] at hlive
      cases hlive
    rw [find_filter_ne ClosureRecord.id _ hne]
    exact hr'

namespace CrossesBacked

/-- Records that leave the table, live ones not among them. -/
theorem of_records {s : State} {rs : List ClosureRecord} (h : CrossesBacked s) (hsub : ∀ k r, rs.find? (fun x => x.id == k) = some r → s.record k = some r)
    (hlive : ∀ k r, s.record k = some r → r.live = true → rs.find? (fun x => x.id == k) = some r) :
    CrossesBacked { s with clt := { s.clt with records := rs } } where
  reasoned := h.reasoned.of_live hlive
  anchors k r hr := h.anchors k r (hsub k r hr)

section
variable {w : Work}

theorem modify {r : ClosureRecord} (c : Closure) (b : Bool) (h : CrossesBacked w.s) (hr : LikeHeld w.s r) :
    CrossesBacked (w.modify r c b).s := by
  unfold Work.modify
  split
  · refine h.put_like ?_
    unfold ClosureRecord.defer
    split
    · exact ⟨hr.like⟩
    · split
      · exact ⟨hr.like⟩
      · exact hr
  · exact drain r.id (h.applyMod c ⟨hr.like⟩)

/-- R101: a closure that the table does not hold live. -/
theorem install (c : Closure) (h : CrossesBacked w.s) (hsound : w.s.clt.sound)
    (hdead : ∀ r, w.s.record c.id = some r → r.live = false) : CrossesBacked (w.install c).s := by
  unfold Work.install
  split
  · exact h
  · split
    · exact ⟨h.reasoned, h.anchors⟩
    case h_2 rs hrs =>
      have hne : ∀ k r, rs.find? (fun x => x.id == k) = some r → k ≠ c.id := fun k r hr => by
        have hm := List.mem_of_find?_eq_some hr
        have hid := List.find?_some hr
        rintro rfl
        have := (List.mem_filter.1 ((roomFor_sublist hrs).subset hm)).2
        simp_all
      have hroom : CrossesBacked { w.s with clt := { w.s.clt with records := rs } } := by
        refine h.of_records (fun k r hr => ?_) fun k r hr hlive => ?_
        · have hm := (roomFor_sublist hrs).subset (List.mem_of_find?_eq_some hr)
          have hid : r.id = k := by simpa using List.find?_some hr
          rw [← hid]
          exact record_of_mem hsound (List.mem_of_mem_filter hm)
        · refine find_roomFor hsound.2 hrs ?_ hr hlive
          rintro rfl
          rw [hdead r hr] at hlive
          cases hlive
      refine drain c.id (startRole (w := ⟨State.unrefuse { w.s with clt := { w.s.clt with records := rs } } c.id, w.tell⟩)
        ⟨hroom.reasoned, hroom.anchors⟩ ?_)
      exact h.noCross_of_dead hdead

theorem offer (c : Closure) (b : Bool) (h : CrossesBacked w.s) (hsound : w.s.clt.sound) : CrossesBacked (w.offer c b).s := by
  unfold Work.offer
  split
  case h_1 hnone => exact h.install c hsound fun r hr => by rw [hnone] at hr; cases hr
  case h_2 r hr =>
    split
    · split
      · exact h.modify c b (likeHeld_of_record hr)
      case isFalse hlive =>
        refine h.install c hsound fun x hx => ?_
        rw [hr] at hx
        cases hx
        simpa using hlive
    · exact h

theorem releaseHeld {r : ClosureRecord} (g : Gen) (h : CrossesBacked w.s) (hr : LikeHeld w.s r) :
    CrossesBacked (w.releaseHeld r g).s := by
  unfold Work.releaseHeld
  split
  · split
    · exact h.release ⟨hr.like⟩
    · exact h
  · split
    · exact h.put_like ⟨hr.like⟩
    · exact h

/-- A tombstone for an id that the table does not hold. -/
theorem put_unknown {s : State} {r : ClosureRecord} (h : CrossesBacked s) (hr : s.record r.id = none)
    (hst : r.stage = .released) : CrossesBacked (s.putRecord r) :=
  h.put_of_backs (fun r0 hr0 => by rw [hr] at hr0; cases hr0) fun _ hw => by rw [hst] at hw; cases hw

theorem unrefuse {s : State} (id : Nat) (h : CrossesBacked s) : CrossesBacked (s.unrefuse id) := ⟨h.reasoned, h.anchors⟩

theorem takeRelease (f : ReleaseFields) (h : CrossesBacked w.s) : CrossesBacked (w.takeRelease f).s := by
  unfold Work.takeRelease
  split
  · exact h
  · split
    case h_1 r hr => exact h.releaseHeld f.gen (likeHeld_of_record hr)
    case h_2 hnone =>
      dsimp only
      split
      · exact (h.unrefuse f.id).put_unknown (r := bareTombstone f) hnone rfl
      · exact h.unrefuse f.id

theorem adoptRelease (c : Closure) (h : CrossesBacked w.s) : CrossesBacked (w.adoptRelease c).s := by
  unfold Work.adoptRelease
  split
  case h_1 r hr => exact h.releaseHeld c.gen (likeHeld_of_record hr)
  case h_2 hnone =>
    dsimp only
    split
    · exact h.unrefuse c.id
    · split
      · exact (h.unrefuse c.id).put_unknown (r := (freshRecord _ c _).tombstone) hnone rfl
      · exact h.unrefuse c.id

theorem adopt (e : ClosureEntry) (h : CrossesBacked w.s) (hsound : w.s.clt.sound) : CrossesBacked (w.adopt e).s := by
  unfold Work.adopt
  split
  · exact h
  · split
    · exact h.adoptRelease _
    · exact h.offer _ false hsound

theorem notice (k : Int) (id : Nat) (h : CrossesBacked w.s) : CrossesBacked (w.notice k id).s := by
  unfold Work.notice
  dsimp only
  have hsub : CrossesBacked (if k = 1 ∨ k = 2 then w.substitute id else w).s := by
    split
    · exact h.substitute id
    · exact h
  refine drain id ?_
  split
  · exact hsub.checkLead id
  · split
    · exact hsub.checkClear id
    · exact hsub

/-- R104: an orphan leaves the set and takes its request with it. -/
theorem dropOrphan {s : State} (l : Lane) (h : CrossesBacked s) : CrossesBacked (s.dropOrphan l) where
  reasoned := by
    intro k q hq hc
    have hq' : q ∈ ((s.dropOrphan l).display (laneAddr k)).row := hq
    unfold State.dropOrphan State.withdraw at hq'
    rw [display_setDisplay] at hq'
    have hmem : q ∈ (s.display (laneAddr k)).row ∧ (k = l → q.source ≠ .orphan l) := by
      split at hq'
      case isTrue hk =>
        obtain ⟨hin, hkeep⟩ := List.mem_filter.1 hq'
        refine ⟨by rw [hk]; exact hin, fun _ hsrc => ?_⟩
        rw [hc, hsrc] at hkeep
        simp at hkeep
      case isFalse hk => exact ⟨hq', fun hkl => absurd (by rw [hkl]) hk⟩
    have hold := h.reasoned k q hmem.1 hc
    show Reason s.record (s.clt.orphans.filter fun x => x != l) k q.source
    cases hsrc : q.source with
    | orphan j =>
      rw [hsrc] at hold
      obtain ⟨rfl, hin⟩ := hold
      refine ⟨rfl, List.mem_filter.2 ⟨hin, ?_⟩⟩
      have : j ≠ l := fun hjl => hmem.2 hjl (hjl ▸ hsrc)
      simpa using this
    | _ => rw [hsrc] at hold; exact hold
  anchors := h.anchors

theorem dropOrphans {s : State} (ls : List Lane) (h : CrossesBacked s) : CrossesBacked (ls.foldl State.dropOrphan s) := by
  induction ls generalizing s with
  | nil => exact h
  | cons l ls ih => exact ih (h.dropOrphan l)

theorem dropOrphans_record (ls : List Lane) (s : State) (id : Nat) : (ls.foldl State.dropOrphan s).record id = s.record id :=
  foldl_keeps (fun a b : State => b.record id = a.record id) (fun _ => rfl) (fun _ _ _ h g => g.trans h)
    State.dropOrphan (fun _ _ => rfl) ls s

theorem absorb (os : List Lane) (id : Nat) (h : CrossesBacked w.s) : CrossesBacked (w.absorb os id).s := by
  unfold Work.absorb
  split
  · exact h
  case h_2 r hr =>
    dsimp only
    split
    case isTrue hlive =>
      obtain ⟨hlive, hrole, -⟩ := hlive
      refine drain id (leadGo (w := ⟨_, w.tell⟩) (h.dropOrphans _) ⟨r, ?_, hrole⟩ hrole ⟨h.anchors id r hr hrole, ?_⟩)
      · rw [dropOrphans_record, record_id w.s hr]
        exact hr
      · simpa [ClosureRecord.live] using hlive
    case isFalse => exact h

/-- R96: a tombstone leaves the table. -/
theorem dropRecord {s : State} {r : ClosureRecord} (h : CrossesBacked s) (hr : s.record r.id = some r)
    (hdead : r.live = false) : CrossesBacked (s.dropRecord r.id) := by
  have hfind : ∀ k, k ≠ r.id →
      (s.clt.records.filter fun x => x.id != r.id).find? (fun x => x.id == k) = s.record k := fun k hk =>
    find_filter_ne ClosureRecord.id _ hk
  refine h.of_records (fun k x hx => ?_) fun k x hx hlive => ?_
  · by_cases hk : k = r.id
    · subst hk
      have hm := List.mem_of_find?_eq_some hx
      have hid := List.find?_some hx
      have := (List.mem_filter.1 hm).2
      simp_all
    · rw [← hfind k hk]; exact hx
  · rw [hfind k, hx]
    rintro rfl
    rw [hr] at hx
    cases hx
    rw [hdead] at hlive
    cases hlive

theorem workStep {v : Work} (hwv : WorkStep w v) (hsound : w.s.clt.sound) (h : CrossesBacked w.s) : CrossesBacked v.s := by
  cases hwv with
  | adopt e => exact h.adopt e hsound
  | notice k id => exact h.notice k id
  | prove id => exact h.prove id
  | drain id => exact h.drain id
  | offer c b => exact h.offer c b hsound
  | takeRelease f => exact h.takeRelease f
  | dropOrphan l => exact h.dropOrphan l
  | absorb os id => exact h.absorb os id
  | release r hr => exact h.release (likeHeld_of_record hr)
  | bury r hr => exact h.bury r
  | leadGo r hr hl =>
    simp only [ClosureRecord.waitsForLead, Bool.and_eq_true, Bool.or_eq_true, beq_iff_eq] at hl
    obtain ⟨hrole, hst⟩ := hl
    refine h.leadGo ⟨r, hr, hrole⟩ hrole ?_
    rcases hst with hst | ⟨hst, -⟩ <;> rw [hst] <;> decide
  | dropRecord r hr hl => exact h.dropRecord hr hl

theorem workRun {v : Work} (hwv : WorkRun w v) (hsound : w.s.clt.sound) (h : CrossesBacked w.s) : CrossesBacked v.s :=
  (reflTransGen_keeps (R := WorkStep) (P := fun w => w.s.clt.sound ∧ CrossesBacked w.s)
    (fun _ _ hab ha => ⟨tableKept_closuresSound.workStep hab ha.1, workStep hab ha.1 ha.2⟩) hwv ⟨hsound, h⟩).2

end

end CrossesBacked

end Sys2Proof.Machine
end

section
/-! O58: what each act of a step does to the red crosses, before and after the entry to JOIN. -/

namespace Sys2Proof.Machine

/-! ### The bus and discovery (R181) -/

section
variable (s : State)

theorem enterJoin_station : s.enterJoin.stu.station = .join := by
  unfold State.enterJoin
  rw [(startSpeed_same _).stu, drive_station]
  rfl

theorem endDiscovery_station : s.endDiscovery.stu.station = .join := by
  unfold State.endDiscovery
  rw [drive_station]
  exact enterJoin_station _

theorem endDiscovery_onBus : s.endDiscovery.onBus = true := by rw [State.onBus, endDiscovery_station]; rfl

theorem JoinAct.discovery {s t : State} (h : JoinAct s t) (hs : s.slc.discovery = none) : t.slc.discovery = none := by
  cases h with
  | sign h => rw [h.same.slc]; exact hs
  | discovered => rfl
  | _ => exact hs

theorem endDiscovery_discovery : s.endDiscovery.slc.discovery = none :=
  reflTransGen_keeps (R := JoinAct) (P := fun s => s.slc.discovery = none) (fun _ _ => JoinAct.discovery)
    (afterDiscovery_run s) rfl

end

/-- An act leaves a station on the bus there, and takes one there at the end of discovery alone. -/
theorem Act.onBus {s t : State} (h : Act s t) : t.onBus = s.onBus ∨ t.onBus = true := by
  have hsame : t.stu = s.stu → t.onBus = s.onBus ∨ t.onBus = true := fun hst =>
    .inl (onBus_of_station s (by rw [hst]))
  cases h with
  | sign h => exact hsame h.same.stu
  | enterRun => exact .inr rfl
  | edge e => exact hsame (edge_same s e).stu
  | raiseFault => exact hsame (raiseFault_same ..).stu
  | takeEdge => exact hsame (takeEdge_same ..).stu
  | closures w h => exact hsame (closures_same h).stu
  | endDiscovery => exact .inr (endDiscovery_onBus s)
  | _ => exact .inl rfl

theorem Act.discoveryEnded {s t : State} (h : Act s t) (hs : s.discoveryEnded) : t.discoveryEnded := by
  have hslc : t.slc.discovery = s.slc.discovery → t.onBus = s.onBus → t.discoveryEnded := fun hd hb => by
    unfold State.discoveryEnded
    rw [hd, hb]
    exact hs
  have hsame : t.slc = s.slc → t.stu = s.stu → t.discoveryEnded := fun hc hst =>
    hslc (by rw [hc]) (onBus_of_station s (by rw [hst]))
  cases h with
  | sign h => exact hsame h.same.slc h.same.stu
  | enterRun h => exact fun _ => hs (by rw [State.onBus, h]; rfl)
  | tick =>
    intro hb
    have hd : s.slc.discovery = none := hs hb
    show (if s.slc.link = .owned then s.slc.discovery.map Discovery.tick else s.slc.discovery) = none
    rw [hd]
    split <;> rfl
  | edge e => exact hsame (edge_same s e).slc (edge_same s e).stu
  | raiseFault => exact hsame (raiseFault_same ..).slc (raiseFault_same ..).stu
  | takeEdge => exact hsame (takeEdge_same ..).slc (takeEdge_same ..).stu
  | closures w h => exact hsame (closures_same h).slc (closures_same h).stu
  | link x h =>
    cases h with
    | discovery d h =>
      intro hb
      have hb' : s.onBus = true := hb
      rcases h with h | h
      · exact absurd (hs hb') h
      · rw [hb'] at h; cases h
    | _ => exact hs
  | endDiscovery => exact fun _ => endDiscovery_discovery s
  | _ => exact hs

/-! ### Before the entry to JOIN -/

/-- R95: before the entry to JOIN there is no record and no orphan. -/
def QuietTable (s : State) : Prop := s.onBus = false → s.clt.records = [] ∧ s.clt.orphans = []

theorem Act.offBus {s t : State} (h : Act s t) (hb : t.onBus = false) : s.onBus = false := by
  rcases h.onBus with h | h
  · rw [← h]; exact hb
  · rw [hb] at h; cases h

/-- Before the entry to JOIN an act leaves an empty table empty, and the orphan set as it is. -/
theorem Act.emptyTable {s t : State} (h : Act s t) (hb : t.onBus = false) (hr : s.clt.records = []) :
    t.clt.records = [] ∧ t.clt.orphans = s.clt.orphans := by
  have hb0 := h.offBus hb
  have hsame : t.clt = s.clt → t.clt.records = [] ∧ t.clt.orphans = s.clt.orphans := fun h => by rw [h]; exact ⟨hr, rfl⟩
  cases h with
  | sign h => exact hsame h.same.clt
  | tick => exact ⟨by show s.clt.records.map _ = []; rw [hr]; rfl, rfl⟩
  | edge e => exact hsame (edge_same s e).clt
  | raiseFault => exact hsame (raiseFault_same ..).clt
  | takeEdge => exact hsame (takeEdge_same ..).clt
  | unrefuse => exact ⟨hr, rfl⟩
  | closures w h hbus =>
    rcases hbus with hbus | hidle
    · rw [hb0] at hbus; cases hbus
    · obtain rfl := hidle hr
      exact hsame (settle_clt s)
  | endDiscovery => rw [endDiscovery_onBus] at hb; cases hb
  | _ => exact ⟨hr, rfl⟩

theorem Act.quietTable {s t : State} (h : Act s t) (hs : QuietTable s) : QuietTable t := fun hb => by
  obtain ⟨hr, ho⟩ := hs (h.offBus hb)
  obtain ⟨hr', ho'⟩ := h.emptyTable hb hr
  exact ⟨hr', ho'.trans ho⟩

/-! ### The acts -/

theorem CrossesBacked.congr {s t : State} (h : CrossesBacked s) (ha : t.asa = s.asa) (hc : t.clt = s.clt) :
    CrossesBacked t := by
  have hρ : t.record = s.record := funext fun id => by unfold State.record; rw [hc]
  exact ⟨by rw [hρ, hc, ha]; exact h.reasoned, by rw [hρ]; exact h.anchors⟩

theorem CrossesBacked.signRun {s t : State} (h : CrossesBacked s) (hst : SignRun s t) : CrossesBacked t := by
  have hc := hst.same.clt
  have hρ : t.record = s.record := funext fun id => by unfold State.record; rw [hc]
  exact ⟨by rw [hρ, hc]; exact hst.reasoned h.reasoned, by rw [hρ]; exact h.anchors⟩

theorem tick_record (s : State) (id : Nat) : s.tick.record id = (s.record id).map ClosureRecord.tick :=
  List.find?_map ..

theorem CrossesBacked.tick {s : State} (h : CrossesBacked s) : CrossesBacked s.tick where
  reasoned l q hq hc := by
    refine (h.reasoned l q hq hc).mono (fun _ => id) (fun id r hr hb => ⟨r.tick, ?_, hb⟩) fun id r hr hb => ⟨r.tick, ?_, hb⟩
    · rw [tick_record, hr]; rfl
    · rw [tick_record, hr]; rfl
  anchors id r hr := by
    rw [tick_record] at hr
    obtain ⟨x, hx, rfl⟩ := Option.map_eq_some_iff.1 hr
    exact h.anchors id x hx

section
variable {ρ : Nat → Option ClosureRecord} {os : List Lane} {s : State}

theorem enterJoin_reasoned (h : Reasoned ρ os s.asa) : Reasoned ρ os s.enterJoin.asa :=
  (reviewRequests_run ((s.startJoin.openWindows true).drive).firstStages).reasoned h

theorem takeOrdered_reasoned (h : Reasoned ρ os s.asa) : Reasoned ρ os s.takeOrdered.asa := by
  intro l q hq hc
  have hq' : q ∈ (s.takeOrdered.display (laneAddr l)).row := hq
  rw [takeOrdered_row] at hq'
  exact h l q hq' hc

theorem enterJoin_clt (s : State) : s.enterJoin.clt = s.clt := by
  unfold State.enterJoin
  rw [(startSpeed_same _).clt, drive_clt]
  rfl

end

/-- R132: the lanes found lit RED_X. -/
def State.litRed (s : State) : List Lane := s.lanesInUse.filter fun l => (s.mod (laneAddr l)).discoveryLit == some .redX

theorem seedOrphans_eq (s : State) :
    s.seedOrphans = (State.placeAll { s with clt := { s.clt with orphans := s.litRed } }
      (s.litRed.map fun l => (laneAddr l, ⟨.closed, .orphan l, .redX⟩))).settle := rfl

/-- R132: every orphan request that is seeded stands on a lane of the orphan set. -/
theorem seedOrphans_reasoned {s : State} {ρ : Nat → Option ClosureRecord} (h : ∀ os, Reasoned ρ os s.asa) :
    Reasoned ρ s.seedOrphans.clt.orphans s.seedOrphans.asa := by
  rw [seedOrphans_eq, settle_clt, (placeAll_same ..).clt]
  refine (settle_run _).reasoned (Reasoned.placeAll (h _) fun x hx l hl _ => ?_)
  obtain ⟨k, hk, rfl⟩ := List.mem_map.1 hx
  obtain rfl := laneAddr_inj hl
  exact ⟨rfl, hk⟩

/-- R181: discovery ends with the orphans' red crosses alone. -/
theorem endDiscovery_crossesBacked {s : State} (h : CrossesBacked s) (hr : s.clt.records = []) (ho : s.clt.orphans = []) :
    CrossesBacked s.endDiscovery := by
  have hρ : ∀ {t : State}, t.clt.records = [] → t.record = fun _ => none := fun ht => funext fun id => by
    unfold State.record; rw [ht]; rfl
  have hrec : s.endDiscovery.clt.records = [] := by
    have hsame := congrArg Prod.fst (endDiscovery_closures s)
    dsimp only at hsame
    rw [hsame]
    exact hr
  have hstart : ∀ os, Reasoned (fun _ => none) os s.asa := fun os => by
    have hreason := h.reasoned
    rw [hρ hr, ho] at hreason
    exact fun l q hq hc =>
      (hreason l q hq hc).mono (fun _ h => by cases h) (fun _ _ h => by cases h) fun _ _ h => by cases h
  refine ⟨?_, fun id r h => ?_⟩
  · rw [hρ hrec]
    unfold State.endDiscovery
    rw [drive_asa, drive_clt, enterJoin_clt]
    refine enterJoin_reasoned ?_
    split
    · exact takeOrdered_reasoned (s := { s with slc := _ }) (hstart _)
    · exact seedOrphans_reasoned fun os => takeOrdered_reasoned (s := { s with slc := _ }) (hstart os)
  · rw [hρ hrec] at h; cases h

/-- Everything that the red crosses rest on. -/
structure CrossesKept (s : State) : Prop where
  backed : CrossesBacked s
  sound : s.clt.sound
  quiet : QuietTable s
  ended : s.discoveryEnded

theorem Act.crossesKept {s t : State} (h : Act s t) (hs : CrossesKept s) : CrossesKept t := by
  refine ⟨?_, cltKept_sound.act h hs.sound, h.quietTable hs.quiet, h.discoveryEnded hs.ended⟩
  have hsame : t.asa = s.asa → t.clt = s.clt → CrossesBacked t := hs.backed.congr
  cases h with
  | sign h => exact hs.backed.signRun (.single h)
  | tick => exact hs.backed.tick
  | edge e => exact hsame (edge_same s e).asa (edge_same s e).clt
  | raiseFault => exact hsame (raiseFault_same ..).asa (raiseFault_same ..).clt
  | takeEdge => exact hsame (takeEdge_same ..).asa (takeEdge_same ..).clt
  | unrefuse id => exact hs.backed.unrefuse id
  | closures w h =>
    have hset : CrossesBacked w.s.settle := (CrossesBacked.workRun h hs.sound hs.backed).signRun (settle_run _)
    split
    · exact hset.congr rfl rfl
    · exact hset
  | endDiscovery h =>
    have hb : s.onBus = false := Bool.eq_false_iff.2 fun hb => h (hs.ended hb)
    exact endDiscovery_crossesBacked hs.backed (hs.quiet hb).1 (hs.quiet hb).2
  | _ => exact hsame rfl rfl

/-! ### O58 -/

theorem followHold_stu (s : State) : s.followHold.stu = s.stu := by unfold State.followHold; split <;> rfl

/-- R179, R180: a release leads to DISCOVER or STOPPED. -/
theorem Released.station {s t : State} {st : Straps} (h : Released s st t) :
    t.stu.station = .discover ∨ t.stu.station = .stopped := by
  cases h with
  | stopped => right; rw [drive_station, followHold_stu]; rfl
  | held u hu => left; rw [drive_station, followHold_stu, hu.same.stu]; rfl
  | discover u hu => left; rw [drive_station]; exact congrArg Stu.station hu.same.stu

theorem Released.onBus {s t : State} {st : Straps} (h : Released s st t) : t.onBus = false := by
  rcases h.station with h | h <;> rw [State.onBus, h] <;> rfl

theorem Released.crossesKept {s t : State} {st : Straps} (h : Released s st t) (hr : s.stu.station = .inReset)
    (hs : CrossesKept s) : CrossesKept t where
  backed := hs.backed.congr h.asa h.clt
  sound := by rw [h.clt]; exact hs.sound
  quiet _ := by rw [h.clt]; exact hs.quiet (by rw [State.onBus, hr]; rfl)
  ended hb := by rw [h.onBus] at hb; cases hb

theorem reset_reasoned (ρ : Nat → Option ClosureRecord) (os : List Lane) : Reasoned ρ os Asa.reset := by
  have hrow : ∀ l : Lane, ∀ q ∈ (Asa.reset.modules.get (laneAddr l)).row, q.level ≠ .closed := by decide
  exact fun l q hq hc => absurd hc (hrow l q hq)

theorem atReset_crossesKept (s : State) (u : Stu) (hu : u.station = .inReset) : CrossesKept (s.atReset u) where
  backed := ⟨reset_reasoned _ _, fun id r h => by cases (h : none = some r)⟩
  sound := ⟨Nat.zero_le _, List.Pairwise.nil⟩
  quiet _ := ⟨rfl, rfl⟩
  ended hb := by
    have : (s.atReset u).stu.station = .inReset := hu
    rw [State.onBus, this] at hb
    cases hb

theorem crossesSafe_iff (s : State) : s.crossesSafe ↔ CrossesKept s := by
  constructor
  · rintro ⟨hred, hsound, hquiet, hanchor, hend⟩
    have hsound := (closuresSound_iff s).1 hsound
    exact ⟨⟨(redCrossesReasoned_iff s).1 hred, fun id r hr => hanchor r (mem_records_of_record s hr)⟩, hsound, hquiet, hend⟩
  · rintro ⟨hback, hsound, hquiet, hend⟩
    exact ⟨(redCrossesReasoned_iff s).2 hback.reasoned, (closuresSound_iff s).2 hsound, hquiet,
      fun r hr => hback.anchors r.id r (record_of_mem hsound hr), hend⟩

/-- Settles O58: each operation of the Closure Table leaves every red cross backed, each act of a step likewise. -/
theorem stepKeepsCrossesReasoned : Obligations.StepKeepsCrossesReasoned := fun s t hs h => by
  rw [crossesSafe_iff] at hs ⊢
  exact step_keeps (P := CrossesKept) atReset_crossesKept
    (fun s st x hr hs => (releaseReset_released s st x).crossesKept hr hs) (fun _ _ => Act.crossesKept)
    (fun s q hs => ⟨hs.backed.congr rfl rfl, hs.sound, hs.quiet, hs.ended⟩) h hs

end Sys2Proof.Machine
end

section
/-! O56: T stays within the closure ceiling, the operator ceiling and the own queue's 40 (R76 to R78, R82, R85, R86). An event of
the Closure Table either leaves every ceiling at T or above or tells the Speed Computer (R110), which then recomputes. -/

namespace Sys2Proof.Machine

open Relation (ReflTransGen)

/-! ### Least limits -/

theorem le_leastLimit_iff (n : Nat) (ls : List Limit) :
    n ≤ (leastLimit ls).num ↔ n ≤ Limit.unlimited.num ∧ ∀ l ∈ ls, n ≤ l.num := by
  induction ls with
  | nil => simp
  | cons l ls ih =>
    rw [leastLimit_cons, Limit.num_lower, le_min_iff, ih, List.forall_mem_cons]
    exact and_left_comm

/-- Every ceiling of a record is a number or more. -/
def CeilingsFrom (n : Nat) (s : State) : Prop := ∀ r ∈ s.clt.records, ∀ c, r.ceiling = some c → n ≤ c.num

theorem le_closureCeiling_iff (t : Limit) (s : State) : t.num ≤ s.closureCeiling.num ↔ CeilingsFrom t.num s := by
  unfold State.closureCeiling CeilingsFrom
  rw [le_leastLimit_iff, and_iff_right t.num_le_unlimited]
  simp only [List.mem_filterMap]
  exact ⟨fun h r hr c hc => h c ⟨r, hr, hc⟩, fun h c ⟨r, hr, hc⟩ => h r hr c hc⟩

/-! ### One event of the Closure Table (R110) -/

section
variable {t : Limit}

/-- The Speed Computer is to be told, or T is within every record's ceiling. -/
def ToldOrWithin (t : Limit) (w : Work) : Prop := w.tell = true ∨ CeilingsFrom t.num w.s

/-- The same for one record that is on its way into the table. -/
def Fits (t : Limit) (w : Work) (r : ClosureRecord) : Prop := w.tell = true ∨ ∀ c, r.ceiling = some c → t.num ≤ c.num

theorem Fits.congr {w v : Work} {r q : ClosureRecord} (h : Fits t w r) (hw : w.tell = true → v.tell = true)
    (hr : q.ceiling = r.ceiling) : Fits t v q :=
  h.imp hw fun h c hc => h c (hr ▸ hc)

theorem fits_of_dead {w : Work} {r : ClosureRecord} (h : r.live = false) : Fits t w r :=
  .inr fun c hc => by rw [ClosureRecord.ceiling, h] at hc; cases hc

theorem ceiling_eq {r q : ClosureRecord} (hl : q.live = r.live) (hr : q.role = r.role) (hs : q.leadSpeed = r.leadSpeed) :
    q.ceiling = r.ceiling := by
  unfold ClosureRecord.ceiling; rw [hl, hr, hs]

namespace ToldOrWithin
variable {w v : Work}

theorem told (h : w.tell = true) : ToldOrWithin t w := .inl h

theorem mono (h : ToldOrWithin t w) (ht : w.tell = true → v.tell = true)
    (hr : ∀ r ∈ v.s.clt.records, r ∈ w.s.clt.records) : ToldOrWithin t v :=
  h.imp ht fun h r hv => h r (hr r hv)

/-- A change of the requests. -/
theorem requests {s : State} (h : ToldOrWithin t w) (hc : s.clt.records = w.s.clt.records) : ToldOrWithin t ⟨s, w.tell⟩ :=
  h.mono id fun _ hr => hc ▸ hr

theorem telling (b : Bool) (h : ToldOrWithin t w) : ToldOrWithin t (w.telling b) :=
  h.mono (fun ht => by simp [Work.telling, ht]) fun _ => id

theorem put {r : ClosureRecord} (h : ToldOrWithin t w) (hr : Fits t w r) : ToldOrWithin t (w.put r) := by
  rcases h with h | h
  · exact .inl h
  · rcases hr with hr | hr
    · exact .inl hr
    · refine .inr fun x hx => ?_
      have hx' : x ∈ insertBy ClosureRecord.id r w.s.clt.records := by rw [← insertRecord_eq]; exact hx
      rcases mem_of_mem_insertBy _ _ hx' with rfl | hx
      · exact hr
      · exact h x hx

theorem fits {id : Nat} {r : ClosureRecord} (h : ToldOrWithin t w) (hr : w.s.record id = some r) : Fits t w r :=
  h.imp_right fun h => h r (mem_records_of_record w.s hr)

theorem prove (id : Nat) (h : ToldOrWithin t w) : ToldOrWithin t (w.prove id) := by
  unfold Work.prove
  split
  · exact h
  case h_2 r hr =>
    split
    case isTrue hruns =>
      refine telling _ (h.put ((h.fits hr).congr (fun h => h) (ceiling_eq ?_ rfl rfl)))
      have hst := (proofRuns_iff _).1 hruns.1
      have hlive : r.live = true := by rcases hst with hst | hst | hst <;> simp [ClosureRecord.live, hst]
      rw [hlive]
      rcases stageAfterProof_cases (w.s.proofClasses id) r.stage with hp | hp | hp <;>
        simp only [ClosureRecord.live, hp]
      · decide
      · exact hlive
      · decide
    case isFalse => exact h

theorem placeAll_records (s : State) (reqs : List (Addr × Request)) : (s.placeAll reqs).clt.records = s.clt.records := by
  rw [(placeAll_same s reqs).clt]

theorem substitute (id : Nat) (h : ToldOrWithin t w) : ToldOrWithin t (w.substitute id) := by
  unfold Work.substitute
  split
  · exact h
  case h_2 r hr =>
    dsimp only
    split
    · exact h
    · have hv := h.requests (s := (w.s.withdrawSubst id).placeAll ((w.s.substitutionOf r).map r.substRequest))
        (placeAll_records _ _)
      refine prove id (hv.put ?_)
      exact (h.fits hr).congr (fun h => h) rfl

theorem leadGo {r : ClosureRecord} (h : ToldOrWithin t w) (hr : Fits t w r) : ToldOrWithin t (w.leadGo r) := by
  refine prove r.id (telling _ ((h.requests (placeAll_records ..)).put (hr.congr id (ceiling_eq ?_ rfl rfl))))
  unfold ClosureRecord.live
  dsimp only
  split
  case isTrue hw => rw [hw]; rfl
  case isFalse => rfl

theorem checkLead (id : Nat) (h : ToldOrWithin t w) : ToldOrWithin t (w.checkLead id) := by
  unfold Work.checkLead
  split
  · exact h
  case h_2 r hr =>
    split
    · exact h.leadGo (h.fits hr)
    · exact h

theorem bury (r : ClosureRecord) (h : ToldOrWithin t w) : ToldOrWithin t (w.bury r) :=
  telling _ ((h.requests (s := w.s.withdrawRecord r.id) rfl).put (fits_of_dead rfl))

theorem checkClear (id : Nat) (h : ToldOrWithin t w) : ToldOrWithin t (w.checkClear id) := by
  unfold Work.checkClear
  split
  · exact h
  · split
    · exact h.bury _
    · exact h

theorem release {r : ClosureRecord} (h : ToldOrWithin t w) (hr : Fits t w r) : ToldOrWithin t (w.release r) := by
  unfold Work.release
  split
  · exact h.put hr
  · split
    · exact h.bury r
    · exact checkClear r.id (told (by simp [Work.telling]))

/-- R110: a fresh installation is told. -/
theorem startRole (r : ClosureRecord) : ToldOrWithin t (w.startRole r) := by
  unfold Work.startRole
  split
  · exact checkLead r.id (told (by simp [Work.telling]))
  · exact prove r.id (substitute r.id (told (by simp [Work.telling])))

theorem modifyLead {r : ClosureRecord} (h : ToldOrWithin t w) (hr : Fits t w r) : ToldOrWithin t (w.modifyLead r) := by
  refine prove r.id (substitute r.id ?_)
  by_cases hst : r.stage = .setting
  · have hv := h.requests (s := (w.s.withdrawOwn r.id).placeAll (r.requestSet w.s.lanes)) (placeAll_records _ _)
    refine telling _ (hv.put ?_)
    exact hr.congr id (ceiling_eq (by simp [ClosureRecord.live, hst]) rfl rfl)
  · exact told (by simp [Work.telling, hst])

theorem modifyAnchor {r : ClosureRecord} (h : ToldOrWithin t w) (hr : Fits t w r) : ToldOrWithin t (w.modifyAnchor r) := by
  unfold Work.modifyAnchor
  split
  · exact checkLead r.id (h.put (hr.congr id rfl))
  · dsimp only
    have hv : ToldOrWithin t (Work.telling ⟨w.s.withdrawSurplus r, w.tell⟩ (r.stage != .setting)) :=
      telling _ (h.requests rfl)
    have hfit : Fits t (Work.telling ⟨w.s.withdrawSurplus r, w.tell⟩ (r.stage != .setting)) { r with
        stage := .setting, awaiting := r.localLanes.filter fun l => !(w.s.holdsClosed r.id l)
        legendWaits := r.fullClosure && !(w.s.holdsRoadClosed r.id) } := by
      by_cases hst : r.stage = .setting
      · exact hr.congr (fun ht => by simp [Work.telling, ht]) (ceiling_eq (by simp [ClosureRecord.live, hst]) rfl rfl)
      · exact .inl (by simp [Work.telling, hst])
    split
    · exact hv.leadGo hfit
    · exact checkLead r.id (hv.put (hfit.congr id rfl))

theorem applyMod {r : ClosureRecord} (c : Closure) (h : ToldOrWithin t w) (hr : Fits t w r) : ToldOrWithin t (w.applyMod r c) := by
  unfold Work.applyMod
  split
  · exact h.release (hr.congr id rfl)
  case h_2 role _ =>
    dsimp only
    split
    case isTrue hrole =>
      have hfit : Fits t (w.telling (r.leadSpeed != c.leadSpeed)) (r.takeFields w.s.lanes c (some role)) := by
        by_cases hs : r.leadSpeed = c.leadSpeed
        · exact hr.congr (fun ht => by simp [Work.telling, ht]) (ceiling_eq rfl hrole.symm hs.symm)
        · exact .inl (by simp [Work.telling, hs])
      split
      · exact (telling _ h).modifyAnchor hfit
      · exact (telling _ h).modifyLead hfit
    case isFalse => exact startRole _

theorem drain (id : Nat) (h : ToldOrWithin t w) : ToldOrWithin t (w.drain id) := by
  unfold Work.drain
  split
  · exact h
  case h_2 r hr =>
    split
    · exact h
    · split
      · exact h.applyMod _ ((h.fits hr).congr (fun h => h) rfl)
      · exact h

theorem modify {r : ClosureRecord} (c : Closure) (b : Bool) (h : ToldOrWithin t w) (hr : Fits t w r) :
    ToldOrWithin t (w.modify r c b) := by
  unfold Work.modify
  split
  · refine h.put (hr.congr id ?_)
    unfold ClosureRecord.defer
    split
    · rfl
    · split <;> rfl
  · exact drain r.id (h.applyMod c (hr.congr id rfl))

theorem install (c : Closure) (h : ToldOrWithin t w) : ToldOrWithin t (w.install c) := by
  unfold Work.install
  split
  · exact h
  · split
    · exact h.requests rfl
    · exact drain c.id (startRole _)

theorem offer (c : Closure) (b : Bool) (h : ToldOrWithin t w) : ToldOrWithin t (w.offer c b) := by
  unfold Work.offer
  split
  case h_1 => exact h.install c
  case h_2 r hr =>
    split
    · split
      · exact h.modify c b (h.fits hr)
      · exact h.install c
    · exact h

theorem releaseHeld {r : ClosureRecord} (g : Gen) (h : ToldOrWithin t w) (hr : Fits t w r) :
    ToldOrWithin t (w.releaseHeld r g) := by
  unfold Work.releaseHeld
  split
  · split
    · exact h.release (hr.congr id rfl)
    · exact h
  · split
    · exact h.put (hr.congr id rfl)
    · exact h

theorem takeRelease (f : ReleaseFields) (h : ToldOrWithin t w) : ToldOrWithin t (w.takeRelease f) := by
  unfold Work.takeRelease
  split
  · exact h
  · split
    case h_1 r hr => exact h.releaseHeld f.gen (h.fits hr)
    case h_2 =>
      dsimp only
      have hv : ToldOrWithin t ⟨w.s.unrefuse f.id, w.tell⟩ := h.requests rfl
      split
      · exact hv.put (fits_of_dead rfl)
      · exact hv

theorem adoptRelease (c : Closure) (h : ToldOrWithin t w) : ToldOrWithin t (w.adoptRelease c) := by
  unfold Work.adoptRelease
  split
  case h_1 r hr => exact h.releaseHeld c.gen (h.fits hr)
  case h_2 =>
    dsimp only
    have hv : ToldOrWithin t ⟨w.s.unrefuse c.id, w.tell⟩ := h.requests rfl
    split
    · exact hv
    · split
      · exact hv.put (fits_of_dead rfl)
      · exact hv

theorem adopt (e : ClosureEntry) (h : ToldOrWithin t w) : ToldOrWithin t (w.adopt e) := by
  unfold Work.adopt
  split
  · exact h
  · split
    · exact h.adoptRelease _
    · exact h.offer _ false

theorem notice (k : Int) (id : Nat) (h : ToldOrWithin t w) : ToldOrWithin t (w.notice k id) := by
  unfold Work.notice
  dsimp only
  have hsub : ToldOrWithin t (if k = 1 ∨ k = 2 then w.substitute id else w) := by
    split
    · exact h.substitute id
    · exact h
  refine drain id ?_
  split
  · exact hsub.checkLead id
  · split
    · exact hsub.checkClear id
    · exact hsub

theorem dropOrphans_records (ls : List Lane) (s : State) : (ls.foldl State.dropOrphan s).clt.records = s.clt.records :=
  foldl_keeps (fun a b : State => b.clt.records = a.clt.records) (fun _ => rfl) (fun _ _ _ h g => g.trans h)
    State.dropOrphan (fun _ _ => rfl) ls s

theorem absorb (os : List Lane) (id : Nat) (h : ToldOrWithin t w) : ToldOrWithin t (w.absorb os id) := by
  unfold Work.absorb
  split
  · exact h
  case h_2 r hr =>
    dsimp only
    split
    · exact drain id ((h.requests (dropOrphans_records ..)).leadGo ((h.fits hr).congr (fun h => h) rfl))
    · exact h

theorem workStep (hwv : WorkStep w v) (h : ToldOrWithin t w) : ToldOrWithin t v := by
  cases hwv with
  | adopt e => exact h.adopt e
  | notice k id => exact h.notice k id
  | prove id => exact h.prove id
  | drain id => exact h.drain id
  | offer c b => exact h.offer c b
  | takeRelease f => exact h.takeRelease f
  | dropOrphan l => exact h.requests rfl
  | absorb os id => exact h.absorb os id
  | release r hr => exact h.release (h.fits hr)
  | bury r hr => exact h.bury r
  | leadGo r hr hl => exact h.leadGo (h.fits hr)
  | dropRecord r hr hl => exact h.mono id fun _ => List.mem_of_mem_filter

theorem workRun (hwv : WorkRun w v) (h : ToldOrWithin t w) : ToldOrWithin t v :=
  reflTransGen_keeps (R := WorkStep) (P := ToldOrWithin t) (fun _ _ => workStep) hwv h

end ToldOrWithin

end

end Sys2Proof.Machine
end

section
/-! O56: T after each act of a step. -/

namespace Sys2Proof.Machine

/-! ### What a recomputation establishes -/

/-- R76, R78, R82, R85: T is within the closure ceiling and the operator ceiling, and at 40 while the QUEUE flag is SET. -/
structure SpeedWithin (s : State) : Prop where
  closures : CeilingsFrom s.spc.target.num s
  operator : ∀ c ∈ s.spc.ceilings, s.spc.target.num ≤ c.limit.num
  queue : s.spc.queueFlag = true → s.spc.target = .v40

theorem le_operatorCeiling_iff (t : Limit) (s : State) :
    t.num ≤ s.operatorCeiling.num ↔ ∀ c ∈ s.spc.ceilings, t.num ≤ c.limit.num := by
  unfold State.operatorCeiling
  rw [le_leastLimit_iff, and_iff_right t.num_le_unlimited]
  simp

theorem SpeedWithin.congr {s t : State} (h : SpeedWithin s) (ht : t.spc.target = s.spc.target)
    (hc : t.spc.ceilings = s.spc.ceilings) (hq : t.spc.queueFlag = s.spc.queueFlag)
    (hr : t.clt.records = s.clt.records) : SpeedWithin t where
  closures := by unfold CeilingsFrom; rw [ht, hr]; exact h.closures
  operator := by rw [ht, hc]; exact h.operator
  queue := by rw [ht, hq]; exact h.queue

theorem Limit.num_injective {a b : Limit} : a.num = b.num → a = b := by
  cases a <;> cases b <;> decide

theorem Limit.next_num_le {a b : Limit} : a.num < b.num → a.next.num ≤ b.num := by
  cases a <;> cases b <;> decide

theorem Limit.eq_v40_of_le {a : Limit} : a.num ≤ Limit.v40.num → a = .v40 := by
  cases a <;> decide

theorem applyStep_num_le (s : State) (c : Limit) : (s.applyStep c).num ≤ c.num := by
  unfold State.applyStep
  split
  · exact le_rfl
  · split
    · rw [Limit.num_lower]; exact min_le_left ..
    · exact le_rfl

/-- R83, R84: C2 is within the four limits. -/
theorem c2_num_le (s : State) :
    s.stageValues.c2.num ≤ s.closureCeiling.num ∧ s.stageValues.c2.num ≤ s.operatorCeiling.num ∧
      s.stageValues.c2.num ≤ (queueCeiling s.queueDistance).num := by
  have hstep : s.stageValues.c2.num ≤ s.stageValues.c.num := applyStep_num_le ..
  have hleast := stageValues_c_num s
  have hlc : s.stageValues.lc.num = s.closureCeiling.num := rfl
  have hlop : s.stageValues.lop.num = s.operatorCeiling.num := rfl
  have hlq : s.stageValues.lq.num = (queueCeiling s.queueDistance).num := rfl
  omega

/-- R85, R86: a recomputation that leaves T at C2 or below. -/
theorem speedWithin_of_le_c2 {s t : State} (ht : t.spc.target.num ≤ s.stageValues.c2.num)
    (hc : t.spc.ceilings = s.spc.ceilings) (hq : t.spc.queueFlag = s.spc.queueFlag)
    (hr : t.clt.records = s.clt.records) : SpeedWithin t := by
  obtain ⟨hlc, hlop, hlq⟩ := c2_num_le s
  refine ⟨?_, ?_, fun hflag => ?_⟩
  · have h := (le_closureCeiling_iff _ s).1 (ht.trans hlc)
    unfold CeilingsFrom
    rw [hr]
    exact h
  · rw [hc]
    exact (le_operatorCeiling_iff _ s).1 (ht.trans hlop)
  · have hd : s.queueDistance = some 0 := if_pos (hq ▸ hflag)
    rw [hd] at hlq
    exact Limit.eq_v40_of_le (ht.trans hlq)

theorem applyEvent_le (p : Spc) (c2 : Limit) : (p.applyEvent c2).target.num ≤ c2.num := by
  unfold Spc.applyEvent
  split
  · exact le_rfl
  case isFalse h => exact Nat.le_of_not_lt h

theorem applyWindow_le (p : Spc) (c2 : Limit) (b : Bool) : (p.applyWindow c2 b).target.num ≤ c2.num := by
  unfold Spc.applyWindow
  dsimp only
  split
  · exact le_rfl
  case isFalse hge =>
    split
    case isTrue heq => rw [heq]
    case isFalse hne =>
      have hlt : p.target.num < c2.num :=
        lt_of_le_of_ne (Nat.le_of_not_lt hge) fun h => hne (Limit.num_injective h.symm)
      split
      · exact Limit.next_num_le hlt
      · exact hlt.le

theorem restage_queueFlag (s : State) : s.restage.spc.queueFlag = s.spc.queueFlag := by
  show (s.spc.applyEvent _).queueFlag = _
  unfold Spc.applyEvent; split <;> rfl

theorem restage_within (s : State) : SpeedWithin s.restage :=
  speedWithin_of_le_c2 (applyEvent_le ..) (restage_ceilings s) (restage_queueFlag s) rfl

theorem restageWindow_queueFlag (s : State) : s.restageWindow.spc.queueFlag = s.evaluateQueue.spc.queueFlag := by
  show (s.evaluateQueue.spc.applyWindow _ _).queueFlag = _
  unfold Spc.applyWindow; dsimp only; split
  · rfl
  · split
    · rfl
    · split <;> rfl

theorem restageWindow_within (s : State) : SpeedWithin s.restageWindow :=
  speedWithin_of_le_c2 (s := s.evaluateQueue) (applyWindow_le ..) (restageWindow_ceilings s) (restageWindow_queueFlag s) rfl

/-! ### Before the entry to JOIN -/

/-- R79, R75: before the entry to JOIN there is no ceiling and no QUEUE flag. -/
def QuietSpeed (s : State) : Prop := s.onBus = false → s.spc.ceilings = [] ∧ s.spc.queueFlag = false

theorem JoinAct.queueFlag {s t : State} (h : JoinAct s t) : t.spc.queueFlag = s.spc.queueFlag := by
  cases h with
  | sign h => rw [h.same.spc]
  | drive => exact drive_queueFlag s
  | _ => rfl

theorem Act.quietSpeed {s t : State} (h : Act s t) (hs : QuietSpeed s) : QuietSpeed t := by
  intro hb
  have hb0 := h.offBus hb
  obtain ⟨hc, hq⟩ := hs hb0
  have hsame : t.spc = s.spc → t.spc.ceilings = [] ∧ t.spc.queueFlag = false := fun h => by rw [h]; exact ⟨hc, hq⟩
  have hrestage : ∀ u : State, u.spc = s.spc → u.restage.spc.ceilings = [] ∧ u.restage.spc.queueFlag = false := fun u hu => by
    rw [restage_ceilings, restage_queueFlag, hu]; exact ⟨hc, hq⟩
  cases h with
  | sign h => exact hsame h.same.spc
  | drive => rw [drive_ceilings, drive_queueFlag]; exact ⟨hc, hq⟩
  | tick => exact ⟨by show s.spc.ceilings.map _ = []; rw [hc]; rfl, hq⟩
  | edge e => exact hsame (edge_same s e).spc
  | raiseFault => exact hsame (raiseFault_same ..).spc
  | takeEdge => exact hsame (takeEdge_same ..).spc
  | restageWindow hbus => rw [hb0] at hbus; cases hbus
  | restage => exact hrestage s rfl
  | installCeiling f c cs hf hc hbus => rw [hb0] at hbus; cases hbus
  | dropCeiling id =>
    rw [restage_ceilings, restage_queueFlag]
    exact ⟨by show s.spc.ceilings.filter _ = []; rw [hc]; rfl, hq⟩
  | closures w h =>
    have hspc : w.s.settle.spc = s.spc := (settle_run w.s).same.spc.trans h.spc
    split
    · exact hrestage _ hspc
    · rw [hspc]; exact ⟨hc, hq⟩
  | endDiscovery => rw [endDiscovery_onBus] at hb; cases hb
  | _ => exact ⟨hc, hq⟩

/-! ### The acts -/

/-- Everything that T's bounds rest on. -/
structure TargetKept (s : State) : Prop where
  within : SpeedWithin s
  table : s.onBus = false → s.clt.records = []
  quiet : QuietSpeed s
  ended : s.discoveryEnded

theorem speedWithin_of_empty {s : State} (hr : s.clt.records = []) (hc : s.spc.ceilings = [])
    (hq : s.spc.queueFlag = false) : SpeedWithin s :=
  ⟨fun r h => by (rw [hr] at h; cases h), fun c h => by (rw [hc] at h; cases h), fun h => by (rw [hq] at h; cases h)⟩

theorem SpeedWithin.tick {s : State} (h : SpeedWithin s) : SpeedWithin s.tick where
  closures r hr := by
    obtain ⟨x, hx, rfl⟩ := List.mem_map.1 hr
    exact h.closures x hx
  operator c hc := by
    obtain ⟨x, hx, rfl⟩ := List.mem_map.1 hc
    exact h.operator x hx
  queue := h.queue

/-- R110: an event of the Closure Table that is not told leaves every ceiling at T or above. -/
theorem closures_within {s : State} {w : Work} (h : WorkRun ⟨s, false⟩ w) (hs : SpeedWithin s) :
    SpeedWithin (if w.tell then w.s.settle.restage else w.s.settle) := by
  split
  · exact restage_within _
  case isFalse htell =>
    have hspc : w.s.settle.spc = s.spc := (settle_run w.s).same.spc.trans h.spc
    have hceil := (ToldOrWithin.workRun h (t := s.spc.target) (.inr hs.closures)).resolve_left htell
    refine ⟨?_, by rw [hspc]; exact hs.operator, by rw [hspc]; exact hs.queue⟩
    unfold CeilingsFrom
    rw [hspc, settle_clt]
    exact hceil

theorem Act.speedWithin {s t : State} (h : Act s t) (hs : TargetKept s) : SpeedWithin t := by
  have hsame : t.spc = s.spc → t.clt = s.clt → SpeedWithin t := fun hp hc =>
    hs.within.congr (by rw [hp]) (by rw [hp]) (by rw [hp]) (by rw [hc])
  cases h with
  | sign h => exact hsame h.same.spc h.same.clt
  | drive => exact hs.within.congr (drive_target s) (drive_ceilings s) (drive_queueFlag s) (by rw [drive_clt])
  | tick => exact hs.within.tick
  | edge e => exact hsame (edge_same s e).spc (edge_same s e).clt
  | raiseFault => exact hsame (raiseFault_same ..).spc (raiseFault_same ..).clt
  | takeEdge => exact hsame (takeEdge_same ..).spc (takeEdge_same ..).clt
  | restageWindow => exact restageWindow_within s
  | restage => exact restage_within s
  | installCeiling => exact restage_within _
  | dropCeiling => exact restage_within _
  | unrefuse => exact hs.within.congr rfl rfl rfl rfl
  | closures w h => exact closures_within h hs.within
  | endDiscovery h =>
    have hb : s.onBus = false := Bool.eq_false_iff.2 fun hb => h (hs.ended hb)
    obtain ⟨hc, hq⟩ := hs.quiet hb
    refine speedWithin_of_empty ?_ ?_ ?_
    · have hsame := congrArg Prod.fst (endDiscovery_closures s)
      dsimp only at hsame
      rw [hsame]; exact hs.table hb
    · rw [(endDiscovery_run s).leaves (·.spc.ceilings) fun _ _ => JoinAct.ceilings]; exact hc
    · rw [(endDiscovery_run s).leaves (·.spc.queueFlag) fun _ _ => JoinAct.queueFlag]; exact hq
  | _ => exact hsame rfl rfl

theorem Act.targetKept {s t : State} (h : Act s t) (hs : TargetKept s) : TargetKept t :=
  ⟨h.speedWithin hs, fun hb => (h.emptyTable hb (hs.table (h.offBus hb))).1, h.quietSpeed hs.quiet, h.discoveryEnded hs.ended⟩

/-! ### O56 -/

theorem Released.queueFlag {s t : State} {st : Straps} (h : Released s st t) : t.spc.queueFlag = s.spc.queueFlag := by
  cases h with
  | stopped => rw [drive_queueFlag, followHold_spc]; rfl
  | held u hu => rw [drive_queueFlag, followHold_spc, hu.same.spc]; rfl
  | discover u hu => rw [drive_queueFlag]; exact congrArg Spc.queueFlag hu.same.spc

theorem Released.targetKept {s t : State} {st : Straps} (h : Released s st t) (hr : s.stu.station = .inReset)
    (hs : TargetKept s) : TargetKept t := by
  have hb : s.onBus = false := by rw [State.onBus, hr]; rfl
  obtain ⟨hc, hq⟩ := hs.quiet hb
  have hr' : t.clt.records = [] := by rw [h.clt]; exact hs.table hb
  have hc' : t.spc.ceilings = [] := h.ceilings.trans hc
  have hq' : t.spc.queueFlag = false := h.queueFlag.trans hq
  exact ⟨speedWithin_of_empty hr' hc' hq', fun _ => hr', fun _ => ⟨hc', hq'⟩, fun hb => by rw [h.onBus] at hb; cases hb⟩

theorem atReset_targetKept (s : State) (u : Stu) (hu : u.station = .inReset) : TargetKept (s.atReset u) :=
  ⟨speedWithin_of_empty rfl rfl rfl, fun _ => rfl, fun _ => ⟨rfl, rfl⟩, (atReset_crossesKept s u hu).ended⟩

theorem targetWithin_iff (s : State) : s.targetWithin ↔ TargetKept s := by
  constructor
  · rintro ⟨hon, hoff, hend⟩
    refine ⟨?_, fun hb => (hoff hb).1, fun hb => (hoff hb).2, hend⟩
    cases hb : s.onBus
    · obtain ⟨hr, hc, hq⟩ := hoff hb
      exact speedWithin_of_empty hr hc hq
    · obtain ⟨hlc, hlop, hq⟩ := hon hb
      exact ⟨(le_closureCeiling_iff _ s).1 hlc, (le_operatorCeiling_iff _ s).1 hlop, hq⟩
  · rintro ⟨hw, hr, hq, hend⟩
    exact ⟨fun _ => ⟨(le_closureCeiling_iff _ s).2 hw.closures, (le_operatorCeiling_iff _ s).2 hw.operator, hw.queue⟩,
      fun hb => ⟨hr hb, hq hb⟩, hend⟩

/-- Settles O56: every recomputation leaves T at C2 or below, and an event that lowers a ceiling recomputes. -/
theorem stepKeepsTargetWithin : Obligations.StepKeepsTargetWithin := fun s t hs h => by
  rw [targetWithin_iff] at hs ⊢
  exact step_keeps (P := TargetKept) atReset_targetKept
    (fun s st x hr hs => (releaseReset_released s st x).targetKept hr hs) (fun _ _ => Act.targetKept)
    (fun s q hs => ⟨hs.within.congr rfl rfl rfl rfl, hs.table, hs.quiet, hs.ended⟩) h hs

end Sys2Proof.Machine
end

section
/-! O1, O3 and O60, and the frames in the words of the statements. -/

namespace Sys2Proof.Machine

/-! ### Frames (`State.sameBut`) -/

theorem State.sameBut.trans {s t u : State} {bs : List Block} (h : s.sameBut bs t) (g : t.sameBut bs u) : s.sameBut bs u := by
  unfold State.sameBut at *
  refine ⟨?_, ?_, ?_, ?_, ?_, ?_, ?_, ?_, ?_, ?_, ?_, ?_⟩ <;> grind

theorem State.sameBut.mono {s t : State} {bs cs : List Block} (h : s.sameBut bs t) (hsub : bs ⊆ cs) : s.sameBut cs t := by
  unfold State.sameBut at *
  refine ⟨?_, ?_, ?_, ?_, ?_, ?_, ?_, ?_, ?_, ?_, ?_, ?_⟩ <;> grind

theorem SameButLoops.sameBut {s t : State} (h : SameButLoops s t) : s.sameBut [.lpi, .msu] t := by
  simp [State.sameBut, h.stu, h.crl, h.nbt, h.spc, h.clt, h.asa, h.slc, h.mpt, h.pending, h.choices]

theorem SameButAsa.sameBut {s t : State} (h : SameButAsa s t) : s.sameBut [.msu, .asa] t := by
  simp [State.sameBut, h.stu, h.lpi, h.crl, h.nbt, h.spc, h.clt, h.slc, h.mpt, h.pending, h.choices]

theorem SameButSpeed.sameBut {s t : State} (h : SameButSpeed s t) : s.sameBut [.msu, .spc, .asa] t := by
  simp [State.sameBut, h.stu, h.lpi, h.crl, h.nbt, h.clt, h.slc, h.mpt, h.pending, h.choices]

theorem SameButClosures.sameBut {s t : State} (h : SameButClosures s t) : s.sameBut [.msu, .spc, .clt, .asa] t := by
  simp [State.sameBut, h.stu, h.lpi, h.crl, h.nbt, h.slc, h.mpt, h.pending, h.choices]

/-! ### The machine -/

/-- Settles O1. -/
theorem stepRunsFrontCommand : Obligations.StepRunsFrontCommand := ⟨fun _ _ _ => rfl, fun _ => rfl⟩

/-- Settles O3. -/
theorem resetAssertedClearsBlocks : Obligations.ResetAssertedClearsBlocks := fun _ => ⟨rfl, fun _ => rfl⟩

/-! ### The part after reset -/

theorem reset_outputsFollow : State.reset.outputsFollow := ⟨by decide, by decide, nofun⟩

theorem reset_holdSafe : State.reset.holdSafe :=
  ⟨by decide, by decide, by decide, fun _ => ⟨rfl, rfl, rfl⟩⟩

theorem reset_bounded : State.reset.bounded := by
  refine ⟨Nat.zero_le _, fun l => ?_, Nat.zero_le _, Nat.zero_le _, Nat.zero_le _⟩
  have hl : State.reset.lane l = LaneState.reset := Per6.get_all ..
  rw [hl]
  exact Nat.zero_le _

theorem reset_windowsSound : State.reset.windowsSound := fun l => by
  have hl : State.reset.lane l = LaneState.reset := Per6.get_all ..
  rw [hl]
  exact reset_windowSound

theorem reset_ringsSound : State.reset.ringsSound := fun l r hr => by
  have hl : State.reset.lane l = LaneState.reset := Per6.get_all ..
  rw [hl] at hr
  cases hr

theorem reset_ceilingsSound : State.reset.ceilingsSound := by
  rw [ceilingsSound_iff]
  exact ⟨Nat.zero_le _, List.Pairwise.nil, fun c hc => by cases hc⟩

theorem reset_targetWithin : State.reset.targetWithin := by
  rw [targetWithin_iff]
  exact ⟨speedWithin_of_empty rfl rfl rfl, fun _ => rfl, fun _ => ⟨rfl, rfl⟩, nofun⟩

theorem reset_arrowsSafe : State.reset.arrowsSafe :=
  ⟨by rw [noArrowIntoRed_iff]; exact reset_noArrowIntoRed _, reset_holdSafe, fun _ => rfl⟩

theorem reset_crossesSafe : State.reset.crossesSafe := by
  rw [crossesSafe_iff]
  exact ⟨⟨reset_reasoned _ _, fun id r h => by cases (h : none = some r)⟩, ⟨Nat.zero_le _, List.Pairwise.nil⟩,
    fun _ => ⟨rfl, rfl⟩, nofun⟩

/-- Settles O60. -/
theorem resetIsSafe : Obligations.ResetIsSafe :=
  ⟨reset_outputsFollow, reset_holdSafe, reset_bounded, reset_windowsSound, reset_ringsSound, reset_accessSound,
    ⟨Nat.zero_le _, rfl⟩, reset_ceilingsSound, neighboursSound_nil rfl, reset_targetWithin, rfl, reset_arrowsSafe,
    reset_crossesSafe, (queueSound_iff _).2 queueSound_nil, reset_rowsSorted⟩

end Sys2Proof.Machine
end

section
/-! O5: the millisecond (R2, R14) and the timers that run by it. -/

namespace Sys2Proof.Machine

theorem sample_eq (x : LoopState) (now : Stamp) (read : LoopLevel) :
    x.sample now read =
      { x with candidate := if read = x.level then none else if x.candidate = none then some now else x.candidate } := by
  unfold LoopState.sample
  split
  case isTrue => rfl
  case isFalse => cases hc : x.candidate <;> simp

theorem countOccupied_eq (x : LoopState) :
    x.countOccupied =
      { x with
        occupiedMs := if x.level = .occupied ∧ x.occupiedMs < 300000 then x.occupiedMs + 1 else x.occupiedMs } := by
  unfold LoopState.countOccupied satAdd
  split
  case isTrue h => simp [h]
  case isFalse h => simp [h]

/-- R2, R14: one millisecond of one loop. -/
theorem millisecond_eq (x : LoopState) (now : Stamp) (read : LoopLevel) :
    x.millisecond now read =
      { x with
        candidate := if read = x.level then none else if x.candidate = none then some now else x.candidate
        occupiedMs := if x.level = .occupied ∧ x.occupiedMs < 300000 then x.occupiedMs + 1 else x.occupiedMs } := by
  unfold LoopState.millisecond
  rw [countOccupied_eq, sample_eq]

theorem sampleLoops_loop (s : State) (sample : LoopSample) (l : Lane) (p : Loop) :
    (s.sampleLoops sample).loop l p =
      if l.val < s.lanes then (s.loop l p).millisecond (s.lpi.ms + 1) ((sample.get l).get p) else s.loop l p := by
  unfold State.sampleLoops State.loop
  dsimp only
  rw [Per6.get_build]
  split
  · cases p <;> rfl
  · rfl

theorem exec_millisecond_idle {s : State} (h : s.running = false) (sample : LoopSample) :
    exec (.millisecondCounterIncrement sample) s = .next s :=
  congrArg Host.Outcome.next (if_neg (by rw [h]; decide))

theorem exec_millisecond {s : State} (h : s.running = true) (sample : LoopSample) :
    exec (.millisecondCounterIncrement sample) s = .next (s.tick.sampleLoops sample) :=
  congrArg Host.Outcome.next (if_pos h)

/-- R97, R124: the expiry of a live record counts down. -/
theorem recordTick_eq (r : ClosureRecord) :
    r.tick =
      { r with
        expiry := if r.stage = .waitClear ∨ r.stage = .released then r.expiry else r.expiry.map (· - 1)
        tombTime := r.tombTime.map (· - 1), waitTime := r.waitTime.map (· - 1) } := by
  unfold ClosureRecord.tick
  cases h : r.stage <;> rfl

/-- R163, R167, R170, R177: the timers of one module. -/
theorem tick_mod (s : State) (a : Addr) :
    s.tick.mod a =
      { s.mod a with
        sinceSetEnd := (s.mod a).sinceSetEnd.map (· + 1)
        refresh :=
          if s.slc.link = .held ∨ s.waitsInRound a = true then (s.mod a).refresh
          else (s.mod a).refresh.map fun x => if x < 5000 then x + 1 else x
        identTimer := if (s.mod a).state = .failed then (s.mod a).identTimer.map (· - 1) else (s.mod a).identTimer } := by
  have hmod : s.tick.mod a = (s.mod a).tick (s.timersStopped a) := Per8.get_build ..
  rw [hmod]
  unfold Module.tick State.timersStopped
  simp only [Bool.or_eq_true, beq_iff_eq]
  rfl

theorem tick_slc (s : State) :
    s.tick.slc =
      { s.slc with
        modules := s.tick.slc.modules
        discovery :=
          if s.slc.link = .held then s.slc.discovery
          else s.slc.discovery.map fun d =>
            { d with firstReply := d.firstReply.map (· + 1), lastReply := d.lastReply.map (· + 1) } } := by
  show s.tickLink = _
  unfold State.tickLink
  cases h : s.slc.link <;> rfl

/-- Settles O5: a millisecond is the tick of the timers and then the sample of the loops. -/
theorem millisecondRunsLoopsAndTimers : Obligations.MillisecondRunsLoopsAndTimers := by
  refine ⟨fun s sample => ⟨fun h => exec_millisecond_idle h sample, fun h => ?_⟩, fun s sample h => ?_⟩
  · refine ⟨_, exec_millisecond h sample, rfl, rfl, fun l p hl => ?_, fun l p hl => ?_⟩
    · rw [sampleLoops_loop, if_neg (show ¬ l.val < s.tick.lanes from Nat.not_lt.2 hl)]
      rfl
    · rw [sampleLoops_loop, if_pos (show l.val < s.tick.lanes from hl)]
      exact millisecond_eq ..
  · have hframe : s.sameBut [.stu, .lpi, .msu, .crl, .spc, .clt, .slc] (s.tick.sampleLoops sample) := by
      simp [State.sameBut, State.sampleLoops, State.tick]
    exact ⟨_, exec_millisecond h sample, hframe, rfl, rfl, rfl, rfl, rfl, rfl,
      congrArg (fun f => s.clt.records.map f) (funext recordTick_eq), tick_mod s, tick_slc s⟩

end Sys2Proof.Machine
end

section
/-! The rules of the loops and of the lanes' machines: what a write changes, and R11's exit test. -/

namespace Sys2Proof.Machine

variable {s : State} {l : Lane} {p : Loop}

theorem loop_setLoop (x : LoopState) (k : Lane) (q : Loop) :
    (s.setLoop l p x).loop k q = if k = l ∧ q = p then x else s.loop k q := by
  by_cases hk : k = l
  case neg => rw [loop_setLoop_other (h := hk), if_neg fun h => hk h.1]
  case pos =>
    subst hk
    by_cases hq : q = p
    case neg => rw [loop_setLoop_partner (h := hq), if_neg fun h => hq h.2]
    case pos => subst hq; rw [loop_setLoop_same, if_pos ⟨rfl, rfl⟩]

theorem loop_setLoop_elsewhere (x : LoopState) {k : Lane} {q : Loop} (h : k ≠ l ∨ q ≠ p) :
    (s.setLoop l p x).loop k q = s.loop k q := by
  rw [loop_setLoop, if_neg fun ⟨hk, hq⟩ => h.elim (absurd hk) (absurd hq)]

theorem setLane_msu (m : LaneState) : (s.setLane l m).msu = { s.msu with lanes := (s.setLane l m).msu.lanes } := rfl

/-! ### The exit test of RESYNC (R11) -/

theorem resyncTest_lpi (s : State) (l : Lane) : (s.resyncTest l).lpi = s.lpi := by unfold State.resyncTest; split <;> rfl

theorem resyncTest_loop (s : State) (l : Lane) : (s.resyncTest l).loop = s.loop := by unfold State.resyncTest; split <;> rfl

theorem resyncTest_msu (s : State) (l : Lane) :
    (s.resyncTest l).msu = { s.msu with lanes := (s.resyncTest l).msu.lanes } := by
  unfold State.resyncTest; split <;> rfl

theorem laneQuiet_iff :
    s.laneQuiet l = true ↔
      (s.loop l .a).level = .clear ∧ (s.loop l .b).level = .clear ∧ ∀ e ∈ s.lpi.queue, e.lane ≠ l := by
  simp [State.laneQuiet, and_assoc]

theorem laneQuiet_congr {t : State} (h : t.lpi = s.lpi) (l : Lane) : t.laneQuiet l = s.laneQuiet l := by
  unfold State.laneQuiet State.loop; rw [h]

theorem resyncTest_lane (s : State) (l k : Lane) :
    (s.resyncTest l).lane k =
      if k = l ∧ (s.lane l).pairing = .resync ∧ s.laneQuiet l = true then
        { s.lane l with pairing := .empty, vehicle := none }
      else s.lane k := by
  unfold State.resyncTest
  by_cases h : (s.lane l).pairing = .resync ∧ s.laneQuiet l = true
  · rw [if_pos h, lane_setLane]; simp [h]
  · rw [if_neg h, if_neg fun g => h g.2]

theorem resyncTest_lane_other {k : Lane} (h : k ≠ l) : (s.resyncTest l).lane k = s.lane k := by
  rw [resyncTest_lane, if_neg fun g => h g.1]

theorem resyncTest_resyncTest_lane (s : State) (k l : Lane) :
    ((s.resyncTest k).resyncTest l).lane l = (s.resyncTest l).lane l := by
  have hquiet : (s.resyncTest k).laneQuiet l = s.laneQuiet l := laneQuiet_congr (resyncTest_lpi s k) l
  rw [resyncTest_lane _ l, hquiet]
  by_cases hk : l = k
  case neg => rw [resyncTest_lane_other hk, ← resyncTest_lane]
  case pos =>
    subst hk
    rw [resyncTest_lane s l]
    split <;> simp_all

/-- The exit test of every lane of a list: each lane's test is made once. -/
theorem foldl_resyncTest_lane (ls : List Lane) (s : State) (l : Lane) :
    (ls.foldl State.resyncTest s).lane l = if l ∈ ls then (s.resyncTest l).lane l else s.lane l := by
  induction ls generalizing s with
  | nil => rfl
  | cons k ls ih =>
    rw [List.foldl_cons, ih, resyncTest_resyncTest_lane]
    by_cases hl : l ∈ ls
    case pos => simp [hl]
    case neg =>
      rw [if_neg hl]
      by_cases hk : l = k
      case pos => simp [hk]
      case neg => simp [hk, hl, resyncTest_lane_other hk]

theorem foldl_resyncTest_keeps {β : Type} (f : State → β) (h : ∀ s l, f (s.resyncTest l) = f s) (ls : List Lane)
    (s : State) : f (ls.foldl State.resyncTest s) = f s := by
  induction ls generalizing s with
  | nil => rfl
  | cons k ls ih => exact (ih _).trans (h s k)

/-! ### The pairing machine (R9) -/

/-- Settles O10. -/
theorem irregularEdgeCountsOnce : Obligations.IrregularEdgeCountsOnce := by
  intro dd v lane x
  refine ⟨rfl, ?_, ?_, ?_⟩ <;> cases v <;> rfl

end Sys2Proof.Machine
end

section
/-! O4: the release of a reset (R179, R181). -/

namespace Sys2Proof.Machine

theorem exec_resetReleased {s : State} (h : s.stu.station = .inReset) (st : Straps) (sample : LoopSample) :
    exec (.resetReleased st sample) s = .next (s.releaseReset st sample) :=
  congrArg Host.Outcome.next (if_pos h)

theorem strapValidity_eq (st : Straps) :
    strapValidity st =
      if 1 ≤ st.position.toNat ∧ st.position.toNat ≤ 999 then
        if 2 ≤ st.laneCount.toNat ∧ st.laneCount.toNat ≤ 6 then .valid else .badLaneCount
      else if 2 ≤ st.laneCount.toNat ∧ st.laneCount.toNat ≤ 6 then .badPosition else .both := by
  unfold strapValidity
  simp only [Bool.and_eq_true, decide_eq_true_eq]
  grind

theorem strapValidity_valid {st : Straps} :
    strapValidity st = .valid ↔
      1 ≤ st.position.toNat ∧ st.position.toNat ≤ 999 ∧ 2 ≤ st.laneCount.toNat ∧ st.laneCount.toNat ≤ 6 := by
  rw [strapValidity_eq]; grind

/-! ### The entry to DISCOVER -/

/-- R19: LPI begins anew with the first sample, before the lanes' exit tests. -/
def State.firstSampled (s : State) (st : Straps) (sample : LoopSample) : State :=
  { s.strapped st .discover with lpi := { Lpi.reset with loops := firstSample st.laneCount.toNat sample } }

/-- R19, R11: the first sample and the exit test of every lane in use. -/
def State.beginLoops (s : State) (st : Straps) (sample : LoopSample) : State :=
  (s.firstSampled st sample).lanesInUse.foldl State.resyncTest (s.firstSampled st sample)

theorem releaseReset_valid {s : State} {st : Straps} (sample : LoopSample) (h : strapValidity st = .valid) :
    s.releaseReset st sample =
      (if s.slc.holdReq = true then (s.beginLoops st sample).followHold
        else (s.beginLoops st sample).startDiscovery).drive := by
  have hreq : (s.beginLoops st sample).slc.holdReq = s.slc.holdReq :=
    foldl_resyncTest_keeps (fun u => u.slc.holdReq) (fun u l => congrArg Slc.holdReq (resyncTest_same u l).slc) ..
  rw [← hreq]
  unfold State.releaseReset
  dsimp only
  rw [if_pos h]
  rfl

theorem firstSampled_loop (s : State) (st : Straps) (sample : LoopSample) (l : Lane) (p : Loop) :
    (s.firstSampled st sample).loop l p =
      { LoopState.reset with level := if l.val < st.laneCount.toNat then (sample.get l).get p else .clear } := by
  unfold State.firstSampled State.loop firstSample
  dsimp only
  rw [Per6.get_build]
  split <;> cases p <;> rfl

theorem beginLoops_same (s : State) (st : Straps) (sample : LoopSample) :
    SameButLoops (s.strapped st .discover) (s.beginLoops st sample) :=
  (sameButLoops_with (s.strapped st .discover) _ s.msu).trans (by
    show SameButLoops (s.firstSampled st sample) _
    unfold State.beginLoops
    generalize (s.firstSampled st sample).lanesInUse = ls
    generalize s.firstSampled st sample = u
    induction ls generalizing u with
    | nil => exact .refl u
    | cons l ls ih => exact (resyncTest_same u l).trans (ih _))

theorem beginLoops_lpi (s : State) (st : Straps) (sample : LoopSample) :
    (s.beginLoops st sample).lpi = (s.firstSampled st sample).lpi :=
  foldl_resyncTest_keeps State.lpi resyncTest_lpi ..

/-- Of MSU the entry to DISCOVER changes the lanes alone. -/
theorem beginLoops_msu (s : State) (st : Straps) (sample : LoopSample) :
    (s.beginLoops st sample).msu = { s.msu with lanes := (s.beginLoops st sample).msu.lanes } := by
  have hkeep := foldl_resyncTest_keeps (fun u => (u.msu.windowTimer, u.msu.nextSeq, u.msu.carriage))
    (fun u l => by rw [resyncTest_msu u l]) (s.firstSampled st sample).lanesInUse (s.firstSampled st sample)
  obtain ⟨htimer, hseq, hcarriage⟩ : _ ∧ _ ∧ _ := by simpa only [Prod.mk.injEq] using hkeep
  show (s.beginLoops st sample).msu = Msu.mk _ _ _ _
  rw [← show (s.beginLoops st sample).msu.windowTimer = s.msu.windowTimer from htimer,
    ← show (s.beginLoops st sample).msu.nextSeq = s.msu.nextSeq from hseq,
    ← show (s.beginLoops st sample).msu.carriage = s.msu.carriage from hcarriage]

theorem beginLoops_lane {s : State} (h : s.msu = Msu.reset) (st : Straps) (sample : LoopSample) (l : Lane) :
    (s.beginLoops st sample).lane l =
      { LaneState.reset with
        pairing := if l.val < st.laneCount.toNat ∧ sample.get l = ⟨.clear, .clear⟩ then .empty else .resync } := by
  have hreset : (s.firstSampled st sample).lane l = LaneState.reset := by
    show s.msu.lanes.get l = _
    rw [h]; exact Per6.get_all ..
  have hin : l ∈ (s.firstSampled st sample).lanesInUse ↔ l.val < st.laneCount.toNat := mem_lanesInUse_iff ..
  have hquiet : l.val < st.laneCount.toNat →
      ((s.firstSampled st sample).laneQuiet l = true ↔ sample.get l = ⟨.clear, .clear⟩) := fun hl => by
    rw [laneQuiet_iff, firstSampled_loop, firstSampled_loop, if_pos hl, if_pos hl]
    rcases sample.get l with ⟨a, b⟩
    exact ⟨fun ⟨ha, hb, _⟩ => congrArg₂ Pair.mk ha hb, fun h => ⟨congrArg Pair.a h, congrArg Pair.b h, nofun⟩⟩
  unfold State.beginLoops
  rw [foldl_resyncTest_lane, resyncTest_lane, hreset]
  by_cases hl : l.val < st.laneCount.toNat
  case neg => rw [if_neg (mt hin.1 hl), if_neg fun h => hl h.1]; rfl
  case pos =>
    rw [if_pos (hin.2 hl)]
    by_cases hq : sample.get l = ⟨.clear, .clear⟩
    · rw [if_pos ⟨rfl, rfl, (hquiet hl).2 hq⟩, if_pos ⟨hl, hq⟩]; rfl
    · rw [if_neg fun h => hq ((hquiet hl).1 h.2.2), if_neg fun h => hq h.2]; rfl

/-! ### Discovery -/

/-- R160: the module addresses of n lanes, in address order. -/
theorem moduleAddrs_eq {s : State} (h2 : 2 ≤ s.lanes) (h6 : s.lanes ≤ 6) :
    s.moduleAddrs = allAddrs.filter fun a => decide (a.val < s.lanes ∨ 6 ≤ a.val) := by
  unfold State.moduleAddrs State.lanesInUse
  generalize s.lanes = n at *
  interval_cases n <;> rfl

theorem startDiscovery_slc {u : State} {r : Bool} (h : u.slc = { Slc.reset with holdReq := r }) :
    u.startDiscovery.slc =
      { Slc.reset with
        holdReq := r
        discovery := some
          { identing := u.moduleAddrs, acting := [], firstReply := none, lastReply := none, proofDue := true } } := by
  have hmods : (Per8.build fun a => (u.mod a).rediscover) = Per8.all Module.reset := by
    have hmod : ∀ a, u.mod a = Module.reset := fun a => by
      unfold State.mod; rw [h]; exact Per8.get_all ..
    simp only [hmod]; rfl
  unfold State.startDiscovery
  rw [hmods, h]; rfl

theorem followHold_slc {u : State} (h : u.slc.holdReq = true) :
    u.followHold.slc = { u.slc with link := .held, holdAck := true } := by
  unfold State.followHold; rw [if_pos h]

/-! ### The statement -/

theorem drive_spc_offBus {s : State} (h : s.onBus = false) : s.drive.spc = s.spc := by
  unfold State.drive; rw [h]; rfl

theorem releaseReset_stopped {s : State} (st : Straps) (sample : LoopSample) (h : strapValidity st ≠ .valid) :
    s.releaseReset st sample =
      { s with
        stu :=
          { s.stu with
            station := .stopped, straps := st, runLit := false, faultLit := true, validity := strapValidity st }
        slc := if s.slc.holdReq then { s.slc with link := .held, holdAck := true } else s.slc } := by
  unfold State.releaseReset
  dsimp only
  rw [if_neg h]
  cases hq : s.slc.holdReq <;> simp [State.followHold, hq] <;> rfl

theorem releaseReset_discover {s : State} (st : Straps) (sample : LoopSample) (h : strapValidity st = .valid) :
    ∃ c, s.releaseReset st sample = ({ s.beginLoops st sample with slc := c } : State).drive ∧
      (s.slc.holdReq = true → c = { s.slc with link := .held, holdAck := true }) ∧
      (s.slc = { Slc.reset with holdReq := s.slc.holdReq } → s.slc.holdReq = false → 2 ≤ st.laneCount.toNat →
        st.laneCount.toNat ≤ 6 →
        c = { Slc.reset with
          discovery := some
            { identing := allAddrs.filter fun a => decide (a.val < st.laneCount.toNat ∨ 6 ≤ a.val), acting := [],
              firstReply := none, lastReply := none, proofDue := true } }) := by
  rw [releaseReset_valid sample h]
  have hsame := beginLoops_same s st sample
  have hslc : (s.beginLoops st sample).slc = s.slc := hsame.slc
  by_cases hq : s.slc.holdReq = true
  · rw [if_pos hq]
    refine ⟨(s.beginLoops st sample).followHold.slc, ?_, fun _ => ?_, fun _ hn => absurd (hn.symm.trans hq) (by decide)⟩
    · unfold State.followHold; rw [hslc, if_pos hq]
    · rw [followHold_slc (by rw [hslc]; exact hq), hslc]
  · rw [if_neg hq]
    refine ⟨(s.beginLoops st sample).startDiscovery.slc, rfl, fun h => absurd h hq, fun hr hn h2 h6 => ?_⟩
    have hlanes : (s.beginLoops st sample).lanes = st.laneCount.toNat := congrArg (·.straps.laneCount.toNat) hsame.stu
    rw [startDiscovery_slc (hslc.trans hr), hn, moduleAddrs_eq (by rw [hlanes]; exact h2) (by rw [hlanes]; exact h6), hlanes]
    rfl

/-- Settles O4. -/
theorem releaseEntersDiscoverOrStopped : Obligations.ReleaseEntersDiscoverOrStopped := by
  refine ⟨fun s st sample hs hmsu hslc hp1 hp2 hn1 hn2 => ?_, fun s st sample hs hbad => ?_⟩
  · have hv : strapValidity st = .valid := strapValidity_valid.2 ⟨hp1, hp2, hn1, hn2⟩
    obtain ⟨c, heq, hheld, hdiscovery⟩ := releaseReset_discover (s := s) st sample hv
    have hsame := beginLoops_same s st sample
    have hstu := hsame.stu
    have hmsu' := beginLoops_msu s st sample
    have hlpi := beginLoops_lpi s st sample
    have hbus : ({ s.beginLoops st sample with slc := c } : State).onBus = false := by
      show (s.beginLoops st sample).onBus = false
      unfold State.onBus; rw [hstu]; rfl
    refine ⟨_, (exec_resetReleased hs st sample).trans (congrArg _ heq), ?_, ?_⟩
    · have hspc := (drive_spc_offBus hbus).trans hsame.spc
      exact ⟨.inl (by simp), .inl (by simp), .inl (by simp), .inr hsame.crl, .inr hsame.nbt, .inr hspc, .inr hsame.clt,
        .inr hsame.asa, .inl (by simp), .inr hsame.mpt, .inr hsame.pending, .inr hsame.choices⟩
    · have hvalid : (s.strapped st .discover).stu.validity = .valid := hv
      have hrun : ({ s.beginLoops st sample with slc := c } : State).runLevel = false := by
        show ((s.beginLoops st sample).stu.station == .run) = false
        rw [hstu]; rfl
      refine ⟨congrArg Stu.station hstu, congrArg Stu.straps hstu, (congrArg Stu.validity hstu).trans hv,
        (congrArg Stu.restart hstu :), hrun, (congrArg Stu.joinTimer hstu :), congrArg Lpi.ms hlpi, congrArg Lpi.queue hlpi,
        fun l p => ?_, beginLoops_lane hmsu st sample, ?_, ?_, ?_, fun hq => ?_, fun hq => ?_⟩
      · exact (congrArg (fun x : Lpi => (x.loops.get l).get p) hlpi).trans (firstSampled_loop s st sample l p)
      · exact (congrArg Msu.windowTimer hmsu').trans (by rw [hmsu]; rfl)
      · exact (congrArg Msu.nextSeq hmsu').trans (by rw [hmsu]; rfl)
      · exact (congrArg Msu.carriage hmsu').trans (by rw [hmsu]; rfl)
      · exact (hheld hq).trans (by rw [hslc, hq])
      · exact ⟨_, hdiscovery hslc hq hn1 hn2, rfl, rfl⟩
  · have hv : strapValidity st ≠ .valid := mt strapValidity_valid.1 hbad
    rw [exec_resetReleased hs, releaseReset_stopped st sample hv]
    have hcases : strapValidity st =
        if 2 ≤ st.laneCount.toNat ∧ st.laneCount.toNat ≤ 6 then .badPosition
        else if 1 ≤ st.position.toNat ∧ st.position.toNat ≤ 999 then .badLaneCount else .both := by
      rw [strapValidity_eq]; grind
    rw [hcases]

end Sys2Proof.Machine
end

section
/-! O15, O16 and O17: CLASH, medium access, and activity that is discarded (R40 to R46, R189). -/

namespace Sys2Proof.Machine

variable {s : State} {f : RxFrame} {r : Received}

/-! ### Reception -/

/-- The command by which a frame of a kind is received. -/
def FrameKind.received (k : FrameKind) (f : RxFrame) : Instr :=
  match k with
  | .state => .stateReceived f
  | .announce => .announceReceived f
  | .close => .closeReceived f
  | .release => .releaseReceived f
  | .ceiling => .ceilingReceived f
  | .orphanClear => .orphanClearReceived f

theorem exec_received (k : FrameKind) (f : RxFrame) (s : State) : exec (k.received f) s = .next (s.receive k f) := by
  cases k <;> rfl

theorem receive_of_checkFrame_none (hbus : s.onBus = true) (hcalm : ∀ e ∈ s.nbt, e.gone = false ∧ e.newlyStale = false)
    (hf : checkFrame f = none) (k : FrameKind) : s.receive k f = (s.lineAfter f).drive := by
  simp [State.receive, hbus, settleAges_calm hcalm, hf]

theorem receive_of_kind_ne (hbus : s.onBus = true) (hcalm : ∀ e ∈ s.nbt, e.gone = false ∧ e.newlyStale = false)
    (hf : checkFrame f = some r) {k : FrameKind} (hk : r.kind ≠ k) :
    s.receive k f = State.drive { s with crl := { s.crl with receiver := .ready, idleBits := 10 } } := by
  simp [State.receive, hbus, settleAges_calm hcalm, hf, lineAfter_of_checkFrame hf, hk]

/-- R44, R190: the kind's reader takes nothing from the payload. -/
def Received.unread (r : Received) : Prop :=
  (r.kind = .state → stateFrameOf r = none) ∧ (r.kind = .announce → announceOf r.payload = none) ∧
    (r.kind = .close → closeOf r.payload = none) ∧ (r.kind = .release → releaseOf r.payload = none) ∧
    (r.kind = .ceiling → ceilingOf r.payload = none) ∧ (r.kind = .orphanClear → orphanClearOf r.payload = none)

theorem takeFrame_unread (h : r.unread) : s.takeFrame r = s := by
  obtain ⟨hstate, hannounce, hclose, hrelease, hceiling, horphan⟩ := h
  unfold State.takeFrame
  cases hk : r.kind with
  | state => rw [hstate hk]; rfl
  | announce => rw [hannounce hk]; rfl
  | close => rw [hclose hk]; rfl
  | release => rw [hrelease hk]; rfl
  | ceiling => rw [hceiling hk]; rfl
  | orphanClear => rw [horphan hk]; rfl

/-- Settles O17. -/
theorem badActivityDiscarded : Obligations.BadActivityDiscarded := by
  intro s b f hbus hcalm
  refine ⟨fun hb => congrArg Host.Outcome.next (if_pos ⟨hbus, hb⟩), fun hf c hc => ?_, fun r hf => ?_⟩
  · have hdone : ∀ k : FrameKind, exec (k.received f) s = .next (s.lineAfter f).drive := fun k => by
      rw [exec_received, receive_of_checkFrame_none hbus hcalm hf]
    simp only [List.mem_cons, List.not_mem_nil, or_false] at hc
    rcases hc with rfl | rfl | rfl | rfl | rfl | rfl
    · exact hdone .state
    · exact hdone .announce
    · exact hdone .close
    · exact hdone .release
    · exact hdone .ceiling
    · exact hdone .orphanClear
  · intro unread x hx h
    have hdone : ∀ k : FrameKind, r.unread ∨ r.kind ≠ k → exec (k.received f) s = .next (State.drive
        { s with crl := { s.crl with receiver := .ready, idleBits := 10 } }) := fun k hk => by
      rw [exec_received]
      by_cases hkind : r.kind = k
      · rw [← hkind, receive_of_checkFrame hbus hcalm hf, takeFrame_unread (hk.resolve_right (absurd hkind))]
      · rw [receive_of_kind_ne hbus hcalm hf hkind]
    simp only [List.mem_cons, List.not_mem_nil, or_false] at hx
    rcases hx with rfl | rfl | rfl | rfl | rfl | rfl
    · exact hdone .state h
    · exact hdone .announce h
    · exact hdone .close h
    · exact hdone .release h
    · exact hdone .ceiling h
    · exact hdone .orphanClear h

/-! ### CLASH (R45, R46) -/

theorem clashOver_iff {c : Crl} : c.clashOver = true ↔ c.clash = true ∧ 30 ≤ c.clashTimer := by
  simp [Crl.clashOver]

theorem exec_clashCleared (hbus : s.onBus = true) : exec .clashCleared s = .next s.clearClash.drive :=
  congrArg Host.Outcome.next (if_pos hbus)

theorem takeFrame_ownState (hk : r.kind = .state) (hown : r.sender = s.position) (hf : stateFrameOf r ≠ none) :
    s.takeFrame r = s.setClash := by
  obtain ⟨g, hg⟩ := Option.ne_none_iff_exists'.1 hf
  have hsender : g.sender = r.sender := by
    unfold stateFrameOf at hg
    grind
  simp [State.takeFrame, hk, hg, State.takeState, hsender, hown]

theorem takeFrame_ownAnnounce (hk : r.kind = .announce) (hown : r.sender = s.position) (hf : announceOf r.payload ≠ none) :
    s.takeFrame r = s.setClash := by
  obtain ⟨g, hg⟩ := Option.ne_none_iff_exists'.1 hf
  simp [State.takeFrame, hk, hg, State.takeAnnounce, hown]

/-- Settles O15. -/
theorem ownPositionSetsClash : Obligations.OwnPositionSetsClash := by
  refine ⟨fun s f r hbus hcalm hf hown => ⟨fun ⟨hk, hg⟩ => ?_, fun ⟨hk, hg⟩ => ?_⟩, fun s hbus hclash => ⟨fun h => ?_, fun h => ?_⟩⟩
  · rw [show Instr.stateReceived f = r.kind.received f from by rw [hk]; rfl, exec_received,
      receive_of_checkFrame hbus hcalm hf]
    exact congrArg (fun u : State => Host.Outcome.next u.drive) (takeFrame_ownState hk hown hg)
  · rw [show Instr.announceReceived f = r.kind.received f from by rw [hk]; rfl, exec_received,
      receive_of_checkFrame hbus hcalm hf]
    exact congrArg (fun u : State => Host.Outcome.next u.drive) (takeFrame_ownAnnounce hk hown hg)
  · rw [exec_clashCleared hbus, State.clearClash, if_pos (clashOver_iff.2 ⟨hclash, h⟩)]
  · rw [exec_clashCleared hbus, State.clearClash, if_neg fun g => absurd (clashOver_iff.1 g).2 (by omega)]

/-! ### Medium access (R40 to R43) -/

theorem promote_eq (c : Crl) :
    c.promote =
      { c with
        pendingFrame := c.nextFrame, nextFrame := none
        attempt := if c.nextFrame = none then c.attempt else 0
        phase := if c.nextFrame = none then .quiet else .waitIdle } := by
  unfold Crl.promote
  cases h : c.nextFrame <;> simp

/-- Settles O16. -/
theorem mediumAccessPhases : Obligations.MediumAccessPhases := by
  refine ⟨fun s n hbus hphase hpend => ⟨fun h => ?_, fun h => ?_⟩, fun s f hphase hf => ?_,
    fun s hphase => ⟨fun hnext => ?_, fun f hnext => ?_⟩, fun s hphase => ⟨fun h => ?_, fun h => ?_⟩⟩
  · exact congrArg Host.Outcome.next (if_pos ⟨hbus, hphase, hpend, h⟩)
  · exact congrArg Host.Outcome.next (if_neg fun g => absurd g.2.2.2 (by omega))
  · refine (congrArg Host.Outcome.next (if_pos hphase)).trans ?_
    rw [Crl.sentFrame, hf]
    dsimp only
    rw [promote_eq]
    rfl
  · refine (congrArg Host.Outcome.next (if_pos hphase)).trans ?_
    simp only [Crl.collide, hnext]
    rfl
  · refine (congrArg Host.Outcome.next (if_pos hphase)).trans ?_
    simp only [Crl.collide, hnext, promote_eq]
    rfl
  · refine (congrArg Host.Outcome.next (if_pos hphase)).trans ?_
    rw [Crl.endBackoff, if_pos h]
  · refine (congrArg Host.Outcome.next (if_pos hphase)).trans ?_
    rw [Crl.endBackoff, if_neg (by omega)]

end Sys2Proof.Machine
end

section
/-! O49 and O50: what falls due on the sign link (R161, R163, R167, R170), and HOLDREQ (R171 to R174). -/

namespace Sys2Proof.Machine

variable {s : State} {n : Nat} {a : Addr}

/-! ### Frames -/

theorem drive_sameBut (s : State) : s.sameBut [.stu, .spc] s.drive := by simp [State.sameBut]

theorem drive_sameBut_offBus (h : s.onBus = false) : s.sameBut [.stu] s.drive := by
  simp [State.sameBut, drive_spc_offBus h]

theorem sameBut_slc (s : State) (c : Slc) : s.sameBut [.slc] { s with slc := c } := by simp [State.sameBut]

theorem sameBut_slc_drive_offBus (h : s.onBus = false) (c : Slc) :
    s.sameBut [.stu, .slc] ({ s with slc := c } : State).drive :=
  ((sameBut_slc s c).mono (by simp)).trans ((drive_sameBut_offBus (s := { s with slc := c }) h).mono (by simp))

theorem faultLevel_of_failed {l : Lane} (hs : s.stu.station ≠ .inReset) (hl : l ∈ s.lanesInUse)
    (hf : (s.mod (laneAddr l)).state = .failed) : s.faultLevel = true := by
  have hfailed : s.faultFailed = true := List.any_eq_true.2 ⟨l, hl, by rw [hf]; rfl⟩
  simp [State.faultLevel, hs, hfailed]

/-! ### Polls, refreshes and IDENT retries -/

theorem inFlight_idle (ht : s.slc.transaction = none) (hr : s.slc.retry = none) (a : Addr) (f : Transaction → Bool) :
    s.inFlight a f = false := by
  simp [State.inFlight, ht, hr]

theorem exec_proofPollDue (hn : addrOf n = some a) :
    exec (.proofPollDue n) s = .next (if s.pollFalls a then
      s.setMod a { s.mod a with nextPoll := some (s.mod a).pollIndex, pollDue := true } else s) := by
  show execProofPollDue n s = _
  unfold execProofPollDue; rw [hn]

theorem exec_refreshDue (hn : addrOf n = some a) :
    exec (.refreshDue n) s = .next (if s.refreshFalls a then s.setMod a { s.mod a with refreshDue := true } else s) := by
  show execRefreshDue n s = _
  unfold execRefreshDue; rw [hn]

theorem exec_identRetryDue (hn : addrOf n = some a) :
    exec (.identRetryDue n) s = .next (if s.identFalls a then s.setMod a { s.mod a with identDue := true } else s) := by
  show execIdentRetryDue n s = _
  unfold execIdentRetryDue; rw [hn]

/-- R163: a poll has come at its own time, whichever later poll the time has reached. -/
theorem pollTime_le_iff {m : Module} {x j : Nat} (hx : m.sinceSetEnd = some x) (hj : m.nextPoll = some j) :
    m.pollTime ≤ x ↔ m.transitionTime + 50 * j ≤ x := by
  simp only [Module.pollTime, Module.pollIndex, hx, hj, Option.getD_some]
  omega

section Idle

variable (hrun : s.running = true) (hown : s.slc.link = .owned) (hround : s.slc.round = none)
  (ht : s.slc.transaction = none) (hr : s.slc.retry = none)

include hround in
theorem inRound_none : s.inRound a = false := by simp [State.inRound, hround]

include hrun hown hround ht hr in
theorem pollFalls_iff {x j : Nat} (hc : (s.mod a).state = .changing) (hx : (s.mod a).sinceSetEnd = some x)
    (hj : (s.mod a).nextPoll = some j) : s.pollFalls a = true ↔ (s.mod a).transitionTime + 50 * j ≤ x := by
  rw [← pollTime_le_iff hx hj]
  simp [State.pollFalls, hrun, hown, inRound_none hround, hc, hx, State.pollInFlight, inFlight_idle ht hr]

include hrun hown hround in
theorem refreshFalls_iff (ha : (s.mod a).state ≠ .absent) : s.refreshFalls a = true ↔ (s.mod a).refresh = some 5000 := by
  simp [State.refreshFalls, State.waitsInRound, hrun, hown, inRound_none hround, ha]

include hrun ht hr in
theorem identFalls_iff (hf : (s.mod a).state = .failed) (ha : (s.mod a).answered = false) :
    s.identFalls a = true ↔ (s.mod a).identTimer = some 0 := by
  simp [State.identFalls, hrun, hf, ha, inFlight_idle ht hr]

end Idle

/-! ### Discovery's PROOF -/

theorem actingOn_of_head {b : Addr} {rest : List Addr} {d : Discovery} (hs : s.stu.station = .discover)
    (hown : s.slc.link = .owned) (hd : s.slc.discovery = some d) (hi : d.identing = []) (ha : d.acting = a :: b :: rest) :
    s.actingOn a = true := by
  simp [State.actingOn, hs, hown, hd, hi, ha]

theorem exec_discoveryProofResendDue (hn : addrOf n = some a) (hacting : s.actingOn a = true)
    (hfalls : s.resendFalls = true) :
    exec (.discoveryProofResendDue n) s = .next
      { s with slc := { s.slc with discovery := s.slc.discovery.map fun d => { d with proofDue := true } } } := by
  show execDiscoveryProofResendDue n s = _
  unfold execDiscoveryProofResendDue; rw [hn]
  exact congrArg Host.Outcome.next (if_pos ⟨hacting, hfalls⟩)

theorem exec_discoveryProofTimeout (hn : addrOf n = some a) (hacting : s.actingOn a = true)
    (hlate : s.discoveryLate a = true) :
    exec (.discoveryProofTimeout n) s = .next (s.dealtWith a (s.mod a).failDiscovery).drive := by
  show execDiscoveryProofTimeout n s = _
  unfold execDiscoveryProofTimeout; rw [hn]
  exact congrArg Host.Outcome.next (if_pos ⟨hacting, hlate⟩)

/-- R161: a module dealt with, another found one next. -/
theorem dealtWith_more {b : Addr} {rest : List Addr} {d : Discovery} (m : Module) (hd : s.slc.discovery = some d)
    (ha : d.acting = a :: b :: rest) :
    s.dealtWith a m =
      { s.setMod a m with slc :=
        { (s.setMod a m).slc with
          discovery := some { d with acting := b :: rest, firstReply := none, lastReply := none, proofDue := true } } } := by
  unfold State.dealtWith
  dsimp only
  rw [setMod_discovery, hd]
  dsimp only
  rw [ha, if_neg (by simp)]
  rfl

/-- Settles O49. -/
theorem linkWorkFallsDue : Obligations.LinkWorkFallsDue := by
  refine ⟨fun s n a hn hrun hown hround ht hr => ⟨fun x j hc hx hj => ?_, fun ha => ?_, fun hf ha => ?_⟩,
    fun s n a b rest d hn hs hown hd hi hacts => ?_⟩
  · have hiff := pollFalls_iff hrun hown hround ht hr hc hx hj
    rw [exec_proofPollDue hn]
    refine ⟨fun h => ?_, fun h => by rw [if_neg fun g => absurd (hiff.1 g) (by omega)]⟩
    rw [if_pos (hiff.2 h)]
    simp only [Module.pollIndex, hx, hj, Option.getD_some]
  · have hiff := refreshFalls_iff hrun hown hround ha
    rw [exec_refreshDue hn]
    exact ⟨fun h => by rw [if_pos (hiff.2 h)], fun h => by rw [if_neg (mt hiff.1 h)]⟩
  · have hiff := identFalls_iff hrun ht hr hf ha
    rw [exec_identRetryDue hn]
    exact ⟨fun h => by rw [if_pos (hiff.2 h)], fun h => by rw [if_neg (mt hiff.1 h)]⟩
  · have hacting := actingOn_of_head hs hown hd hi hacts
    refine ⟨fun x hx h50 ht hr => ?_, fun x hx hlate => ?_⟩
    · rw [exec_discoveryProofResendDue hn hacting (by simp [State.resendFalls, ht, hr, hd, hx, h50]), hd]
      rfl
    · refine ⟨_, exec_discoveryProofTimeout hn hacting (by simp [State.discoveryLate, hd, hx, hlate]), ?_⟩
      rw [dealtWith_more _ hd hacts]
      have hbus : s.onBus = false := by simp [State.onBus, hs]
      refine ⟨?_, hs, mod_setMod_same .., fun c hc => (mod_setMod ..).trans (if_neg hc), rfl, fun l hl hla => ?_⟩
      · exact sameBut_slc_drive_offBus hbus _
      · exact faultLevel_of_failed (by dsimp only [setMod_stu]; rw [hs]; decide) hl
          (by rw [hla]; exact congrArg Module.state (mod_setMod_same s a _))

/-! ### HOLDREQ -/

theorem exec_holdreqAsserted (h : s.slc.holdReq = false) : exec .holdreqAsserted s = .next s.assertHold :=
  congrArg Host.Outcome.next (if_neg (by rw [h]; decide))

theorem exec_holdreqDropped (h : s.slc.holdReq = true) : exec .holdreqDropped s = .next s.dropHold :=
  congrArg Host.Outcome.next (if_pos h)

theorem running_cases (h : s.running = true) :
    s.stu.station = .discover ∨ s.stu.station = .join ∨ s.stu.station = .run := by
  simpa [State.running, or_assoc] using h

theorem onBus_cases (h : s.onBus = true) : s.stu.station = .join ∨ s.stu.station = .run := by
  simpa [State.onBus] using h

/-- R173: the state at the end of a hold, before what follows it. -/
def State.linkBack (s : State) : State :=
  { s with slc := { s.slc with holdReq := false, holdPending := false, link := .owned, holdAck := false } }

theorem dropHold_of_onBus (hheld : s.slc.link = .held) (hbus : s.onBus = true) :
    s.dropHold = s.linkBack.startRound.reviewProof.drive := by
  unfold State.dropHold
  dsimp only
  rw [if_pos hheld, State.endHold]
  dsimp only
  rcases onBus_cases hbus with h | h <;> rw [h] <;> rfl

theorem dropHold_of_discover (hheld : s.slc.link = .held) (hs : s.stu.station = .discover) :
    s.dropHold = s.linkBack.startDiscovery.drive := by
  unfold State.dropHold
  dsimp only
  rw [if_pos hheld, State.endHold]
  dsimp only
  rw [hs]
  rfl

theorem dropHold_of_stopped (hheld : s.slc.link = .held) (hs : s.stu.station = .stopped) :
    s.dropHold = s.linkBack.drive := by
  unfold State.dropHold
  dsimp only
  rw [if_pos hheld, State.endHold]
  dsimp only
  rw [hs]
  rfl

theorem startRound_of_some (h : ∃ a ∈ s.moduleAddrs, (s.mod a).state ≠ .absent) :
    s.startRound = { s with slc := { s.slc with round := some (s.moduleAddrs.filter fun a => (s.mod a).state ≠ .absent) } } := by
  have haddrs : s.roundAddrs = s.moduleAddrs.filter fun a => decide ((s.mod a).state ≠ .absent) := by
    unfold State.roundAddrs
    congr 1; funext a
    cases (s.mod a).state <;> rfl
  obtain ⟨a, ha, hstate⟩ := h
  have hne : s.roundAddrs ≠ [] := List.ne_nil_of_mem (a := a) (by rw [haddrs]; exact List.mem_filter.2 ⟨ha, decide_eq_true hstate⟩)
  unfold State.startRound
  rw [if_neg hne, haddrs]

theorem startRound_of_none (h : ∀ a ∈ s.moduleAddrs, (s.mod a).state = .absent) : s.startRound = s.resync := by
  have hnil : s.roundAddrs = [] := List.filter_eq_nil_iff.2 fun a ha => by rw [h a ha]; decide
  unfold State.startRound
  rw [if_pos hnil]

/-- A review of the Closure Table's proof that follows a change of the link. -/
theorem reviewProof_drive_sameBut (s : State) : s.sameBut [.stu, .msu, .spc, .clt, .asa] s.reviewProof.drive :=
  ((reviewProof_same s).sameBut.mono (by simp)).trans ((drive_sameBut _).mono (by simp))

/-- Settles O50. -/
theorem holdreqTakesAndGivesLink : Obligations.HoldreqTakesAndGivesLink := by
  refine ⟨fun s hq => ?_, fun s hq => ?_⟩
  · rw [exec_holdreqAsserted hq, State.assertHold]
    refine ⟨fun hrun hown => ?_, fun hs => ?_, fun hs => ?_⟩
    · rcases running_cases hrun with h | h | h <;> simp [h, hown]
    · simp [hs, State.followHold]
    · simp [hs]
  · rw [exec_holdreqDropped hq]
    refine ⟨fun hown => ?_, fun hheld hbus hsome => ?_, fun hheld hbus hnone => ?_, fun hheld hs => ?_, fun hheld hs => ?_⟩
    · simp [State.dropHold, hown]
    · rw [dropHold_of_onBus hheld hbus, startRound_of_some (s := s.linkBack) hsome]
      exact ⟨_, rfl, ((sameBut_slc s _).mono (by simp)).trans ((reviewProof_drive_sameBut _).mono (by simp)),
        (reviewProof_same _).slc⟩
    · rw [dropHold_of_onBus hheld hbus, startRound_of_none (s := s.linkBack) hnone]
      have hresync := resync_same s.linkBack
      refine ⟨_, rfl, ?_, ?_, (reviewProof_same _).slc.trans hresync.slc⟩
      · exact ((sameBut_slc s _).mono (by simp)).trans
          ((hresync.sameBut.mono (by simp)).trans ((reviewProof_drive_sameBut _).mono (by simp)))
      · exact (congrArg Stu.station ((reviewProof_same _).stu.trans hresync.stu) :)
    · rw [dropHold_of_stopped hheld hs]
      rfl
    · rw [dropHold_of_discover hheld hs]
      have hbus : s.linkBack.startDiscovery.onBus = false := by
        show s.onBus = false
        simp [State.onBus, hs]
      exact ⟨_, _, rfl, ((sameBut_slc s _).mono (by simp)).trans ((drive_sameBut_offBus hbus).mono (by simp)), rfl, rfl, rfl,
        rfl⟩

end Sys2Proof.Machine
end

section
/-! O6 and O7: the recognition of an edge, and an edge lost to a full queue (R2, R4, R5, R11). -/

namespace Sys2Proof.Machine

variable {s : State} {l : Lane} {p : Loop} {e : Edge}

/-! ### Debounce (R2) -/

theorem sample_other {x : LoopState} {now : Stamp} {v : LoopLevel} (h : v ≠ x.level) :
    x.sample now v = { x with candidate := some (x.candidate.getD now) } := if_neg h

theorem ripe_of_candidate {x : LoopState} {now t : Stamp} (h : x.candidate = some t) :
    x.ripe now = if 4 ≤ (now - t).toNat then some t else none := by
  simp [LoopState.ripe, h]

/-- R2: the samples after a candidate's first leave it alone. -/
theorem sample_candidate {x : LoopState} {now t : Stamp} {v : LoopLevel} (h : v ≠ x.level) (hc : x.candidate = some t) :
    x.sample now v = x := by
  rw [sample_other h, hc]
  cases x; simp_all

/-! ### Recognition (R2, R14 to R16) -/

theorem exec_edgeRecognised {n : Nat} {t : Stamp} (hn : laneOf n = some l) (hrun : s.running = true) (hl : l.val < s.lanes)
    (hc : (s.loop l p).candidate = some t) (h4 : 4 ≤ (s.lpi.ms - t).toNat) {k : EdgeKind}
    (hk : k = if (s.loop l p).level = .clear then .occupy else .clear) :
    exec (.edgeRecognised n p) s = .next ((s.recognise ⟨l, p, k, t⟩).offerEdge ⟨l, p, k, t⟩).drive := by
  show execEdgeRecognised n p s = _
  have hripe : s.ripeEdge l p = some ⟨l, p, k, t⟩ := by
    unfold State.ripeEdge
    rw [ripe_of_candidate hc, if_pos h4, hk]
    rfl
  unfold execEdgeRecognised State.edgeRecognised
  rw [hn]
  dsimp only
  rw [if_pos ⟨hrun, hl⟩, hripe]

/-- R14, R15: the partner's counts after one more OCCUPY, while they are below their bound. -/
theorem partnerOccupied_eq {x : LoopState} (ho : x.partnerWhileOccupied < 255) (hc : x.partnerWhileClear < 255) :
    x.partnerOccupied =
      if x.level = .occupied then { x with partnerWhileOccupied := x.partnerWhileOccupied + 1 }
      else { x with partnerWhileClear := x.partnerWhileClear + 1 } := by
  unfold LoopState.partnerOccupied satAdd
  cases h : x.level <;> simp [ho, hc]

theorem stuckOn_iff {x : LoopState} :
    x.stuckOn = true ↔ x.level = .occupied ∧ 300000 ≤ x.occupiedMs ∧ 5 ≤ x.partnerWhileOccupied := by
  simp [LoopState.stuckOn, and_assoc]

theorem stuckOff_iff {x : LoopState} : x.stuckOff = true ↔ x.level = .clear ∧ 30 ≤ x.partnerWhileClear := by
  simp [LoopState.stuckOff]

theorem chatter_iff {x : LoopState} : x.chatter = true ↔ 21 ≤ x.shortOccupancies := by simp [LoopState.chatter]

/-- R14, R15: the partner's counts stay below the fault conditions. -/
theorem countPartner_calm (ho : (s.loop l p).partnerWhileOccupied < 4) (hc : (s.loop l p).partnerWhileClear < 29) :
    s.countPartner l p = s.setLoop l p (s.loop l p).partnerOccupied := by
  have hon : (s.loop l p).partnerOccupied.stuckOn = false := by
    rw [← Bool.not_eq_true, stuckOn_iff, partnerOccupied_eq (by omega) (by omega)]
    split <;> dsimp only <;> omega
  have hoff : (s.loop l p).partnerOccupied.stuckOff = false := by
    rw [← Bool.not_eq_true, stuckOff_iff, partnerOccupied_eq (by omega) (by omega)]
    split <;> dsimp only <;> omega
  unfold State.countPartner
  simp [hon, hoff]

/-- R2, R14, R15: an OCCUPY recognised at a loop whose partner stays clear of its fault conditions. -/
theorem recognise_occupy {t : Stamp} (ho : (s.loop l p.partner).partnerWhileOccupied < 4)
    (hc : (s.loop l p.partner).partnerWhileClear < 29) :
    s.recognise ⟨l, p, .occupy, t⟩ =
      (s.setLoop l p ((s.loop l p).occupyRecognised t)).setLoop l p.partner (s.loop l p.partner).partnerOccupied := by
  have hpartner : (s.setLoop l p ((s.loop l p).occupyRecognised t)).loop l p.partner = s.loop l p.partner :=
    loop_setLoop_elsewhere _ (.inr p.partner_ne)
  rw [← hpartner] at ho hc ⊢
  exact countPartner_calm ho hc

theorem clearRecognised_eq {x : LoopState} {t : Stamp} (h : x.shortOccupancies < 255) :
    x.clearRecognised t =
      { x with
        level := .clear, candidate := none, occupiedMs := 0
        shortOccupancies := if (t - x.occupyTime).toNat < 30 then x.shortOccupancies + 1 else x.shortOccupancies } := by
  unfold LoopState.clearRecognised satAdd
  simp [h]

/-- R2, R16: a CLEAR recognised at a loop that stays clear of CHATTER. -/
theorem recognise_clear {t : Stamp} (h : (s.loop l p).shortOccupancies < 20) :
    s.recognise ⟨l, p, .clear, t⟩ = s.setLoop l p ((s.loop l p).clearRecognised t) := by
  have hcalm : ((s.loop l p).clearRecognised t).chatter = false := by
    rw [← Bool.not_eq_true, chatter_iff, clearRecognised_eq (by omega)]
    dsimp only
    split <;> omega
  show (if _ then _ else _) = _
  rw [if_neg (by simp [hcalm])]

/-! ### The edge queue (R4, R5, R11) -/

/-- R4, R11: an edge that joins the queue keeps its lane from passing RESYNC's exit test. -/
theorem offerEdge_joins (h : s.lpi.queue.length < 64) :
    s.offerEdge e = { s with lpi := { s.lpi with queue := s.lpi.queue ++ [e] } } := by
  unfold State.offerEdge State.resyncTest
  rw [if_pos h, if_neg]
  rintro ⟨-, hq⟩
  exact (laneQuiet_iff.1 hq).2.2 e (by simp) rfl

theorem offerEdge_lost (h : s.lpi.queue.length = 64) :
    s.offerEdge e = (s.setLane e.lane ((s.lane e.lane).loseEdge e.time)).resyncTest e.lane := by
  unfold State.offerEdge
  rw [if_neg (by omega)]

/-- R5: what a lost edge makes of its lane. -/
theorem loseEdge_eq (m : LaneState) (t : Stamp) :
    m.loseEdge t =
      { m with
        pairing := .resync, vehicle := none, interval := none
        window := m.window.map fun w =>
          { (match m.interval with
              | some iv => w.credit iv t
              | none => w) with overflowSeen := true } } := by
  unfold LaneState.loseEdge LaneState.closeInterval
  cases hi : m.interval <;> cases hw : m.window <;> simp [hi, hw]

/-- R5, R11: the lane of a lost edge after RESYNC's exit test. -/
theorem lost_lane (t : Stamp) (k : Lane) :
    ((s.setLane l ((s.lane l).loseEdge t)).resyncTest l).lane k =
      if k = l then
        { (s.lane l).loseEdge t with pairing := if s.laneQuiet l = true then .empty else .resync }
      else s.lane k := by
  have hquiet : (s.setLane l ((s.lane l).loseEdge t)).laneQuiet l = s.laneQuiet l := laneQuiet_congr rfl l
  rw [resyncTest_lane, hquiet, lane_setLane_same, lane_setLane]
  by_cases hk : k = l
  · rw [if_pos hk, if_pos hk]
    by_cases hq : s.laneQuiet l = true
    · rw [if_pos ⟨hk, rfl, hq⟩, if_pos hq]; rfl
    · rw [if_neg fun h => hq h.2.2, if_neg hq]; rfl
  · rw [if_neg hk, if_neg hk, if_neg fun h => hk h.1]

theorem exec_edgeTaken {rest : List Edge} (hrun : s.running = true) (hq : s.lpi.queue = e :: rest) :
    exec .edgeTaken s = .next (s.takeEdge e rest) := by
  show execEdgeTaken s = _
  unfold execEdgeTaken
  rw [hq]
  exact congrArg Host.Outcome.next (if_pos hrun)

/-! ### The statements -/

/-- The loops after an OCCUPY has been recognised. -/
theorem recognise_occupy_loop {t : Stamp} (ho : (s.loop l p.partner).partnerWhileOccupied < 4)
    (hc : (s.loop l p.partner).partnerWhileClear < 29) (k : Lane) (q : Loop) :
    (s.recognise ⟨l, p, .occupy, t⟩).loop k q =
      if k = l then
        if q = p then (s.loop l p).occupyRecognised t else (s.loop l p.partner).partnerOccupied
      else s.loop k q := by
  rw [recognise_occupy ho hc, loop_setLoop, loop_setLoop]
  have hpartner : q = p.partner ↔ q ≠ p := by cases q <;> cases p <;> decide
  by_cases hk : k = l <;> by_cases hq : q = p <;> simp [hk, hq, hpartner, p.partner_ne.symm]

theorem recognise_clear_loop {t : Stamp} (h : (s.loop l p).shortOccupancies < 20) {k : Lane} {q : Loop}
    (hkq : k ≠ l ∨ q ≠ p) : (s.recognise ⟨l, p, .clear, t⟩).loop k q = s.loop k q := by
  rw [recognise_clear h, loop_setLoop_elsewhere _ hkq]

/-- Settles O6. -/
theorem edgeRecognisedJoinsQueue : Obligations.EdgeRecognisedJoinsQueue := by
  refine ⟨fun x ms v hc hv => ?_, fun s n l p t0 hn hrun hl hlevel hcand h4 hq ho hw => ?_,
    fun s n l p t0 hn hrun hl hlevel hcand h4 hq hshort => ?_⟩
  · have hfirst : x.sample (ms + 1) v = { x with candidate := some (ms + 1) } := by rw [sample_other hv, hc]; rfl
    have hstays : ∀ now, ({ x with candidate := some (ms + 1) } : LoopState).sample now v = { x with candidate := some (ms + 1) } :=
      fun now => sample_candidate hv rfl
    rw [hfirst]
    simp only [hstays]
    refine ⟨?_, ?_, fun n => ?_⟩
    · rw [ripe_of_candidate rfl, if_neg]
      bv_omega
    · rw [ripe_of_candidate rfl, if_pos]
      bv_omega
    · rw [sample_eq, if_pos rfl]
  · have hqueue : (s.recognise ⟨l, p, .occupy, t0⟩).lpi.queue = s.lpi.queue := recognise_queue ..
    have hloops := recognise_occupy_loop (t := t0) ho hw
    have hmsu : (s.recognise ⟨l, p, .occupy, t0⟩).msu = s.msu := by rw [recognise_occupy ho hw]; rfl
    have hms : (s.recognise ⟨l, p, .occupy, t0⟩).lpi.ms = s.lpi.ms := by rw [recognise_occupy ho hw]; rfl
    rw [exec_edgeRecognised hn hrun hl hcand h4 (k := .occupy) (by rw [if_pos hlevel]), offerEdge_joins (by rw [hqueue]; exact hq), hqueue]
    refine ⟨_, rfl, ?_, hms, rfl, ?_, ?_, fun k hk q => ?_⟩
    · rw [recognise_occupy ho hw]; simp [State.sameBut]
    · exact (hloops l p).trans (by simp; rfl)
    · exact (hloops l p.partner).trans (by
        rw [if_pos rfl, if_neg p.partner_ne, partnerOccupied_eq (by omega) (by omega)])
    · exact (hloops k q).trans (if_neg hk)
  · have hqueue : (s.recognise ⟨l, p, .clear, t0⟩).lpi.queue = s.lpi.queue := recognise_queue ..
    rw [exec_edgeRecognised hn hrun hl hcand h4 (k := .clear) (by rw [hlevel]; rfl), offerEdge_joins (by rw [hqueue]; exact hq), hqueue,
      recognise_clear hshort]
    refine ⟨_, rfl, ?_, rfl, rfl, ?_, fun k q hkq => ?_⟩
    · simp [State.sameBut]
    · exact (loop_setLoop_same ..).trans (clearRecognised_eq (by omega))
    · exact loop_setLoop_elsewhere _ hkq

/-! ### A lost edge (R5, R11) -/

theorem laneQuiet_iff_partner (p : Loop) :
    s.laneQuiet l = true ↔
      (s.loop l p).level = .clear ∧ (s.loop l p.partner).level = .clear ∧ ∀ e ∈ s.lpi.queue, e.lane ≠ l := by
  rw [laneQuiet_iff]
  cases p
  · rfl
  · exact and_left_comm

/-- R5: the lane of an edge lost at a state is that lane's own, apart from RESYNC's exit test. -/
theorem offerEdge_lost_lane (h : s.lpi.queue.length = 64) (k : Lane) :
    (s.offerEdge e).lane k =
      if k = e.lane then
        { (s.lane e.lane).loseEdge e.time with pairing := if s.laneQuiet e.lane = true then .empty else .resync }
      else s.lane k := by
  rw [offerEdge_lost h, lost_lane]

theorem offerEdge_lost_lpi (h : s.lpi.queue.length = 64) : (s.offerEdge e).lpi = s.lpi := by
  rw [offerEdge_lost h, resyncTest_lpi]; rfl

theorem offerEdge_lost_loop (h : s.lpi.queue.length = 64) : (s.offerEdge e).loop = s.loop := by
  unfold State.loop; rw [offerEdge_lost_lpi h]

theorem offerEdge_lost_msu (h : s.lpi.queue.length = 64) :
    (s.offerEdge e).msu = { s.msu with lanes := (s.offerEdge e).msu.lanes } := by
  rw [offerEdge_lost h]; exact resyncTest_msu ..

theorem takeEdge_resync {rest : List Edge} (h : (s.lane e.lane).pairing = .resync) :
    s.takeEdge e rest =
      if (s.loop e.lane .a).level = .clear ∧ (s.loop e.lane .b).level = .clear ∧ (∀ x ∈ rest, x.lane ≠ e.lane) then
        { s.setLane e.lane { s.lane e.lane with pairing := .empty, vehicle := none } with lpi := { s.lpi with queue := rest } }
      else { s with lpi := { s.lpi with queue := rest } } := by
  have hquiet : ({ s with lpi := { s.lpi with queue := rest } } : State).laneQuiet e.lane = true ↔
      (s.loop e.lane .a).level = .clear ∧ (s.loop e.lane .b).level = .clear ∧ (∀ x ∈ rest, x.lane ≠ e.lane) := laneQuiet_iff
  unfold State.takeEdge
  dsimp only
  refine (if_pos h).trans ?_
  rw [State.resyncTest]
  exact if_congr (Iff.trans (and_iff_right h) hquiet) rfl rfl

/-- Settles O7. -/
theorem lostEdgeForcesResync : Obligations.LostEdgeForcesResync := by
  refine ⟨fun s n l p t0 hn hrun hl hlevel hcand h4 hq hshort => ?_,
    fun s n l p t0 hn hrun hl hlevel hcand h4 hq ho hw => ?_, fun s e rest hrun hq hpair => ?_⟩
  · have hqueue : (s.recognise ⟨l, p, .clear, t0⟩).lpi.queue.length = 64 := (congrArg _ (recognise_queue ..)).trans hq
    have hloop : ((s.recognise ⟨l, p, .clear, t0⟩).offerEdge ⟨l, p, .clear, t0⟩).loop =
        (s.recognise ⟨l, p, .clear, t0⟩).loop := offerEdge_lost_loop hqueue
    have hpartner : ∀ k q, k ≠ l ∨ q ≠ p → (s.recognise ⟨l, p, .clear, t0⟩).loop k q = s.loop k q :=
      fun k q => recognise_clear_loop hshort
    have hown : ((s.recognise ⟨l, p, .clear, t0⟩).loop l p).level = .clear := by
      rw [recognise_clear hshort, loop_setLoop_same]; rfl
    have hlanes : (s.recognise ⟨l, p, .clear, t0⟩).lane = s.lane := by rw [recognise_clear hshort, lane_setLoop]
    have hquiet : (s.recognise ⟨l, p, .clear, t0⟩).laneQuiet l = true ↔
        (s.loop l p.partner).level = .clear ∧ ∀ e ∈ s.lpi.queue, e.lane ≠ l := by
      rw [laneQuiet_iff_partner p, hpartner l p.partner (.inr p.partner_ne), recognise_queue]
      exact and_iff_right hown
    have hlane := fun k => offerEdge_lost_lane (e := ⟨l, p, .clear, t0⟩) hqueue k
    rw [hlanes] at hlane
    have hlane_l := (hlane l).trans (if_pos rfl)
    rw [loseEdge_eq] at hlane_l
    refine ⟨_, exec_edgeRecognised hn hrun hl hcand h4 (by rw [hlevel]; rfl), (edge_same s _).sameBut, ?_, ?_, ?_, ?_, ?_, ?_, ?_,
      fun k hk => ⟨(hlane k).trans (if_neg hk), fun q => ?_⟩⟩
    · rw [offerEdge_lost_lpi hqueue, recognise_queue]
    · rw [hloop]; exact hown
    · rw [hlane_l]
    · rw [hlane_l]
    · rw [hlane_l]; exact if_congr hquiet rfl rfl
    · exact congrArg LaneState.window hlane_l
    · rw [hlane_l]
    · rw [hloop]; exact hpartner k q (.inl hk)
  · have hqueue : (s.recognise ⟨l, p, .occupy, t0⟩).lpi.queue.length = 64 := (congrArg _ (recognise_queue ..)).trans hq
    have hloop : ((s.recognise ⟨l, p, .occupy, t0⟩).offerEdge ⟨l, p, .occupy, t0⟩).loop =
        (s.recognise ⟨l, p, .occupy, t0⟩).loop := offerEdge_lost_loop hqueue
    have hloops := recognise_occupy_loop (t := t0) ho hw
    have hmsu : (s.recognise ⟨l, p, .occupy, t0⟩).msu = s.msu := by rw [recognise_occupy ho hw]; rfl
    have hms : (s.recognise ⟨l, p, .occupy, t0⟩).lpi.ms = s.lpi.ms := by rw [recognise_occupy ho hw]; rfl
    have hlanes : (s.recognise ⟨l, p, .occupy, t0⟩).lane = s.lane := by unfold State.lane; rw [hmsu]
    have hquiet : (s.recognise ⟨l, p, .occupy, t0⟩).laneQuiet l ≠ true := by
      rw [Ne, laneQuiet_iff_partner p, hloops]
      simp [LoopState.occupyRecognised]
    have hlane := fun k => offerEdge_lost_lane (e := ⟨l, p, .occupy, t0⟩) hqueue k
    rw [hlanes] at hlane
    refine ⟨_, exec_edgeRecognised hn hrun hl hcand h4 (by rw [if_pos hlevel]), (edge_same s _).sameBut, ?_, ?_, ?_, ?_, ?_, ?_,
      fun k hk => ⟨(hlane k).trans (if_neg hk), fun q => ?_⟩⟩
    · rw [offerEdge_lost_lpi hqueue, hms]
    · rw [offerEdge_lost_lpi hqueue, recognise_queue]
    · rw [hloop, hloops, if_pos rfl, if_pos rfl]; rfl
    · rw [hloop, hloops, if_pos rfl, if_neg p.partner_ne, partnerOccupied_eq (by omega) (by omega)]
    · rw [offerEdge_lost_msu hqueue, hmsu]
    · have hlane_l := (hlane l).trans (if_pos rfl)
      rw [if_neg hquiet, loseEdge_eq] at hlane_l
      exact hlane_l
    · rw [hloop, hloops, if_neg hk]
  · rw [exec_edgeTaken hrun hq, takeEdge_resync hpair]

end Sys2Proof.Machine
end

section
/-! What a fault condition makes of a loop and its lane (R12, R14 to R17, R26), and one edge taken (R6 to R13, R22, R23). -/

namespace Sys2Proof.Machine

variable {s : State} {l : Lane} {p : Loop} {k : FaultKind}

/-! ### The occupancy interval (R12, R23) -/

/-- R12, R23: a window after an interval open on a loop has closed at a time. -/
def LaneState.credited (m : LaneState) (p : Loop) (t : Stamp) (w : Accum) : Accum :=
  match m.interval with
  | some iv => if iv.loop = p then w.credit iv t else w
  | none => w

section Credited

variable {m : LaneState} {iv : Interval} {t : Stamp}

theorem credited_of_none (hi : m.interval = none) : m.credited p t = id := by
  funext w; unfold LaneState.credited; rw [hi]; rfl

theorem credited_of_on (hi : m.interval = some iv) (hp : iv.loop = p) : m.credited p t = fun w => w.credit iv t := by
  funext w; unfold LaneState.credited; rw [hi]; exact if_pos hp

theorem credited_of_off (hi : m.interval = some iv) (hp : iv.loop ≠ p) : m.credited p t = id := by
  funext w; unfold LaneState.credited; rw [hi]; exact if_neg hp

end Credited

theorem closeIntervalOn_eq (m : LaneState) (p : Loop) (t : Stamp) :
    m.closeIntervalOn p t =
      { m with interval := m.interval.filter fun iv => iv.loop ≠ p, window := m.window.map (m.credited p t) } := by
  cases hi : m.interval with
  | none =>
    have hleft : m.closeIntervalOn p t = m := by unfold LaneState.closeIntervalOn; rw [hi]
    rw [hleft, credited_of_none hi, Option.map_id, Option.filter_none, ← hi]
    rfl
  | some iv =>
    by_cases hp : iv.loop = p
    · rw [credited_of_on hi hp, Option.filter_some, if_neg (by simpa using hp)]
      unfold LaneState.closeIntervalOn LaneState.closeInterval
      rw [hi]
      exact if_pos hp
    · have hleft : m.closeIntervalOn p t = m := by unfold LaneState.closeIntervalOn; rw [hi]; exact if_neg hp
      rw [hleft, credited_of_off hi hp, Option.map_id, Option.filter_some, if_pos (by simpa using hp), ← hi]
      rfl

/-- A credit leaves what a window counts and what it has seen. -/
theorem credited_counts (m : LaneState) (p : Loop) (t : Stamp) (w : Accum) :
    m.credited p t w = { w with occMs := (m.credited p t w).occMs, creditedTo := (m.credited p t w).creditedTo } := by
  unfold LaneState.credited
  cases m.interval with
  | none => rfl
  | some iv => dsimp only; split <;> rfl

/-! ### A fault condition (R17) -/

theorem raiseFault_of_faulty (h : (s.loop l p).fault = .faulty) :
    s.raiseFault l p k = s.setLoop l p { s.loop l p with cleanWindow := false } := by
  unfold State.raiseFault LoopState.conditionPresent
  simp [h]

/-- R17, R12, R26: the state before the lane has noted the fault. -/
theorem raiseFault_of_fresh (h : (s.loop l p).fault ≠ .faulty) :
    let u := s.setLoop l p { s.loop l p with fault := .faulty, kind := some k, cleanWindow := false }
    s.raiseFault l p k = u.setLane l
      { s.lane l with
        interval := (s.lane l).interval.filter fun iv => iv.loop ≠ p
        window := (s.lane l).window.map fun w =>
          ((s.lane l).credited p s.lpi.ms w).noteFaults (u.loop l .a).fault (u.loop l .b).fault } := by
  unfold State.raiseFault LoopState.conditionPresent
  simp only [h, if_false, lane_setLoop, setLoop_ms, closeIntervalOn_eq, Option.map_map]
  rfl

theorem raiseFault_loop (c : Lane) (q : Loop) :
    (s.raiseFault l p k).loop c q = if c = l ∧ q = p then (s.loop l p).conditionPresent k else s.loop c q := by
  rw [← loop_setLoop]
  unfold State.raiseFault
  dsimp only
  split <;> rfl

theorem raiseFault_lpi :
    (s.raiseFault l p k).lpi.ms = s.lpi.ms ∧ (s.raiseFault l p k).lpi.queue = s.lpi.queue := by
  unfold State.raiseFault
  dsimp only
  split <;> exact ⟨rfl, rfl⟩

theorem raiseFault_msu : (s.raiseFault l p k).msu = { s.msu with lanes := (s.raiseFault l p k).msu.lanes } := by
  unfold State.raiseFault
  dsimp only
  split <;> rfl

theorem raiseFault_lane (c : Lane) :
    (s.raiseFault l p k).lane c =
      if c = l ∧ (s.loop l p).fault ≠ .faulty then
        { s.lane l with
          interval := (s.lane l).interval.filter fun iv => iv.loop ≠ p
          window := (s.lane l).window.map fun w =>
            ((s.lane l).credited p s.lpi.ms w).noteFaults ((s.raiseFault l p k).loop l .a).fault
              ((s.raiseFault l p k).loop l .b).fault }
      else s.lane c := by
  by_cases h : (s.loop l p).fault = .faulty
  · rw [if_neg fun g => g.2 h, raiseFault_of_faulty h, lane_setLoop]
  · rw [raiseFault_of_fresh h, lane_setLane]
    by_cases hc : c = l
    · rw [if_pos hc, if_pos ⟨hc, h⟩]; rfl
    · rw [if_neg hc, if_neg fun g => hc g.1]; rfl

theorem laneMode_of_faulty {a b : FaultState} (h : a = .faulty ∨ b = .faulty) :
    laneMode a b = .singleA ∨ laneMode a b = .singleB ∨ laneMode a b = .none := by
  rcases h with rfl | rfl
  · cases b <;> decide
  · cases a <;> decide

/-- R26: a window that a FAULTY loop is noted in has seen a single-loop mode or none. -/
theorem noteFaults_of_faulty (w : Accum) {a b : FaultState} (h : a = .faulty ∨ b = .faulty) :
    (w.noteFaults a b).singleSeen = true ∨ (w.noteFaults a b).faultSeen = true := by
  unfold Accum.noteFaults
  rcases laneMode_of_faulty h with h | h | h <;> simp [h]

theorem conditionPresent_fault (x : LoopState) : (x.conditionPresent k).fault = .faulty := by
  unfold LoopState.conditionPresent
  split
  · assumption
  · rfl

/-- R26: the window of a lane whose loop has just become FAULTY. -/
theorem raiseFault_window (h : (s.loop l p).fault ≠ .faulty) {w : Accum}
    (hw : ((s.raiseFault l p k).lane l).window = some w) : w.singleSeen = true ∨ w.faultSeen = true := by
  rw [raiseFault_lane, if_pos ⟨rfl, h⟩] at hw
  obtain ⟨v, -, rfl⟩ := Option.map_eq_some_iff.1 hw
  refine noteFaults_of_faulty _ ?_
  have hfault : ((s.raiseFault l p k).loop l p).fault = .faulty := by
    rw [raiseFault_loop, if_pos ⟨rfl, rfl⟩]; exact conditionPresent_fault _
  cases p
  · exact .inl hfault
  · exact .inr hfault

theorem faultLevel_of_faulty (hrun : s.running = true) (hl : l.val < s.lanes) (h : (s.loop l p).fault = .faulty) :
    s.faultLevel = true := by
  have hloop : s.faultLoop = true := List.any_eq_true.2 ⟨l, (mem_lanesInUse_iff ..).2 hl, by cases p <;> simp [h]⟩
  rcases running_cases hrun with hs | hs | hs <;> simp [State.faultLevel, hs, hloop]

/-! ### One edge taken (R4, R8 to R13, R22) -/

theorem takeEdge_of_lane {e : Edge} {rest : List Edge} (h : (s.lane e.lane).pairing ≠ .resync) :
    s.takeEdge e rest =
      { s.setLane e.lane ((s.lane e.lane).takeEdge s.spacing (s.mode e.lane) e) with lpi := { s.lpi with queue := rest } } :=
  if_neg h

/-- R22: a window with one vehicle without speed more. -/
theorem addVehicle_none (w : Accum) (lane : Lane) (t : Stamp) :
    w.addVehicle ⟨lane, t, none⟩ = { w with count := if w.count < 4095 then w.count + 1 else w.count } := by
  unfold Accum.addVehicle
  split <;> rfl

theorem singleLoop_eq_some {x : LaneMode} {p : Loop} :
    x.singleLoop = some p ↔ (x = .singleA ∧ p = .a) ∨ (x = .singleB ∧ p = .b) := by
  cases x <;> cases p <;> decide

theorem occupancyLoop_of_single {x : LaneMode} (h : x ≠ .paired) : x.occupancyLoop = x.singleLoop := by
  cases x <;> first | rfl | exact absurd rfl h

/-- R6: outside mode PAIRED the pairing machine hands no vehicle to the window. -/
theorem takePairing_window {m : LaneState} {dd : Nat} {x : LaneMode} {e : Edge} (h : x ≠ .paired) :
    (m.takePairing dd x e).window = m.window := by
  unfold LaneState.takePairing
  dsimp only
  split
  · exact absurd rfl h
  · rfl

theorem takePairing_interval {m : LaneState} {dd : Nat} {x : LaneMode} {e : Edge} :
    (m.takePairing dd x e).interval = m.interval := by
  unfold LaneState.takePairing
  dsimp only
  split <;> rfl

/-- R6, R12, R22: the OCCUPY of a single-loop mode's loop. -/
theorem takeEdge_single {m : LaneState} {dd : Nat} {x : LaneMode} {e : Edge} (hx : x.singleLoop = some e.loop)
    (hk : e.kind = .occupy) :
    (m.takeEdge dd x e).window =
        m.window.map (fun w => { w with count := if w.count < 4095 then w.count + 1 else w.count }) ∧
      (m.takeEdge dd x e).interval = some (m.interval.getD ⟨e.loop, e.time, false⟩) := by
  have hpaired : x ≠ .paired := by rintro rfl; cases hx
  have hocc : x.occupancyLoop = some e.loop := (occupancyLoop_of_single hpaired).trans hx
  unfold LaneState.takeEdge LaneState.takeOccupancy LaneState.takeSingle LaneState.handVehicle
  simp only [hx, hk, hocc, and_self, if_true, takePairing_window hpaired, takePairing_interval, addVehicle_none]
  cases hi : m.interval with
  | none => simp
  | some iv => simp

/-- R6, R12: any other edge outside mode PAIRED. -/
theorem takeEdge_noVehicle {m : LaneState} {dd : Nat} {x : LaneMode} {e : Edge} (hpaired : x ≠ .paired)
    (h : ¬ (e.kind = .occupy ∧ x.singleLoop = some e.loop)) :
    (m.takeEdge dd x e).window = match e.kind with
      | .occupy => m.window
      | .clear => m.window.map (m.credited e.loop e.time) := by
  have hsame : ((m.takePairing dd x e).takeSingle x e) = m.takePairing dd x e := if_neg fun g => h g.symm
  unfold LaneState.takeEdge LaneState.takeOccupancy
  rw [hsame]
  cases hk : e.kind with
  | occupy =>
    dsimp only
    rw [occupancyLoop_of_single hpaired, if_neg fun g => h ⟨hk, g.1⟩, takePairing_window hpaired]
  | clear =>
    rw [closeIntervalOn_eq, takePairing_window hpaired]
    unfold LaneState.credited
    rw [takePairing_interval]

end Sys2Proof.Machine
end

section
/-! O8: a fault condition makes its loop FAULTY, and vehicles in the single-loop modes (R6, R14 to R17, R26). -/

namespace Sys2Proof.Machine

variable {s : State} {l : Lane} {p : Loop} {k : FaultKind} {t : Stamp}

theorem conditionPresent_eq (x : LoopState) (k : FaultKind) :
    x.conditionPresent k =
      { x with fault := .faulty, kind := if x.fault = .faulty then x.kind else some k, cleanWindow := false } := by
  unfold LoopState.conditionPresent
  by_cases h : x.fault = .faulty
  · rw [if_pos h, if_pos h, ← h]
  · rw [if_neg h, if_neg h]

theorem offerEdge_loop (s : State) (e : Edge) : (s.offerEdge e).loop = s.loop := by
  unfold State.offerEdge
  rw [resyncTest_loop]
  split <;> rfl

/-! ### The conditions as they are recognised -/

theorem countPartner_stuckOff (hlevel : (s.loop l p).level = .clear) (hcount : (s.loop l p).partnerWhileClear = 29) :
    s.countPartner l p =
      (s.setLoop l p { s.loop l p with partnerWhileClear := 30 }).raiseFault l p .stuckOff := by
  have hafter : (s.loop l p).partnerOccupied = { s.loop l p with partnerWhileClear := 30 } := by
    simp [LoopState.partnerOccupied, hlevel, hcount, satAdd]
  have hbefore : (s.loop l p).stuckOff = false := by rw [← Bool.not_eq_true, stuckOff_iff]; omega
  unfold State.countPartner
  dsimp only
  rw [hafter, hbefore, if_neg, if_pos ⟨stuckOff_iff.2 ⟨hlevel, Nat.le_refl _⟩, by decide⟩]
  rintro ⟨hon, -⟩
  exact absurd ((stuckOn_iff.1 hon).1.symm.trans hlevel) (by decide)

theorem countPartner_stuckOn (hlevel : (s.loop l p).level = .occupied) (hms : 300000 ≤ (s.loop l p).occupiedMs)
    (hcount : (s.loop l p).partnerWhileOccupied = 4) :
    s.countPartner l p =
      (s.setLoop l p { s.loop l p with partnerWhileOccupied := 5 }).raiseFault l p .stuckOn := by
  have hafter : (s.loop l p).partnerOccupied = { s.loop l p with partnerWhileOccupied := 5 } := by
    simp [LoopState.partnerOccupied, hlevel, hcount, satAdd]
  have hbefore : (s.loop l p).stuckOn = false := by rw [← Bool.not_eq_true, stuckOn_iff]; omega
  unfold State.countPartner
  dsimp only
  rw [hafter, hbefore, if_pos ⟨stuckOn_iff.2 ⟨hlevel, hms, Nat.le_refl _⟩, by decide⟩]

theorem recognise_chatter (hcount : (s.loop l p).shortOccupancies = 20) (hshort : (t - (s.loop l p).occupyTime).toNat < 30) :
    s.recognise ⟨l, p, .clear, t⟩ =
      (s.setLoop l p
        { s.loop l p with level := .clear, candidate := none, occupiedMs := 0, shortOccupancies := 21 }).raiseFault
        l p .chatter := by
  have hafter : (s.loop l p).clearRecognised t =
      { s.loop l p with level := .clear, candidate := none, occupiedMs := 0, shortOccupancies := 21 } := by
    rw [clearRecognised_eq (by omega), if_pos hshort, hcount]
  have hbefore : (s.loop l p).chatter = false := by rw [← Bool.not_eq_true, chatter_iff]; omega
  show (if _ then _ else _) = _
  dsimp only
  rw [hafter, hbefore, if_pos ⟨chatter_iff.2 (Nat.le_refl _), by decide⟩]

theorem resyncTest_interval (s : State) (l c : Lane) : ((s.resyncTest l).lane c).interval = (s.lane c).interval := by
  rw [resyncTest_lane]
  split
  case isTrue h => rw [h.1]
  case isFalse => rfl

theorem offerEdge_interval (s : State) (e : Edge) (c : Lane) :
    ((s.offerEdge e).lane c).interval = none ∨ ((s.offerEdge e).lane c).interval = (s.lane c).interval := by
  unfold State.offerEdge
  rw [resyncTest_interval]
  split
  · exact .inr rfl
  · rw [lane_setLane, loseEdge_eq]
    split
    · exact .inl rfl
    · exact .inr rfl

theorem raiseFault_lane_eq (k : FaultKind) (h : (s.loop l p).fault ≠ .faulty) :
    (s.raiseFault l p k).lane l =
      { s.lane l with
        interval := ((s.raiseFault l p k).lane l).interval, window := ((s.raiseFault l p k).lane l).window } := by
  rw [raiseFault_lane, if_pos ⟨rfl, h⟩]

theorem raiseFault_lane_interval (h : (s.loop l p).fault ≠ .faulty) :
    ((s.raiseFault l p k).lane l).interval = (s.lane l).interval.filter fun iv => iv.loop ≠ p := by
  rw [raiseFault_lane, if_pos ⟨rfl, h⟩]

theorem raiseFault_lane_other {c : Lane} (h : c ≠ l) : (s.raiseFault l p k).lane c = s.lane c := by
  rw [raiseFault_lane, if_neg fun g => h g.1]

/-- R12: no interval is open on a loop that has just become FAULTY. -/
theorem raiseFault_interval (h : (s.loop l p).fault ≠ .faulty) {iv : Interval}
    (hiv : ((s.raiseFault l p k).lane l).interval = some iv) : iv.loop ≠ p := by
  rw [raiseFault_lane, if_pos ⟨rfl, h⟩] at hiv
  simpa using (Option.filter_eq_some_iff.1 hiv).2

theorem exec_stuckOn {n : Nat} (hn : laneOf n = some l) (hrun : s.running = true) (hl : l.val < s.lanes)
    (hon : (s.loop l p).stuckOn = true) : exec (.stuckOn n p) s = .next (s.raiseFault l p .stuckOn).drive := by
  show execStuckOn n p s = _
  unfold execStuckOn
  rw [hn]
  exact congrArg Host.Outcome.next (if_pos ⟨hrun, hl, hon⟩)

/-! ### The statement -/

theorem loopRaised {x : LoopState} (hx : s.loop l p = x) (k : FaultKind) :
    (s.raiseFault l p k).loop l p =
      { x with fault := .faulty, kind := if x.fault = .faulty then x.kind else some k, cleanWindow := false } := by
  rw [raiseFault_loop, if_pos ⟨rfl, rfl⟩, hx, conditionPresent_eq]

theorem partner_partner (p : Loop) : p.partner.partner = p := by cases p <;> rfl

theorem eq_of_ne_partner {q : Loop} (h : q ≠ p.partner) : q = p := by cases p <;> cases q <;> first | rfl | exact absurd rfl h

/-- Settles O8. -/
theorem faultConditionMakesLoopFaulty : Obligations.FaultConditionMakesLoopFaulty := by
  refine ⟨fun s n l p t0 hn hrun hl hlevel hcand h4 hplevel hcount hfault => ?_,
    fun s n l p t0 hn hrun hl hlevel hcand h4 hplevel hms hcount => ?_,
    fun s n l p t0 hn hrun hl hlevel hcand h4 hq hcount hshort => ?_,
    fun s n l p hn hrun hl hlevel hms hcount => ⟨fun hfault => ?_, fun hfault => ?_⟩,
    fun s e rest w hrun hq hpair hmode hw hcount => ?_⟩
  · have hown := exec_edgeRecognised hn hrun hl hcand h4 (k := .occupy) (by rw [if_pos hlevel])
    have hpartner : (s.setLoop l p ((s.loop l p).occupyRecognised t0)).loop l p.partner = s.loop l p.partner :=
      loop_setLoop_elsewhere _ (.inr p.partner_ne)
    have hrec : s.recognise ⟨l, p, .occupy, t0⟩ =
        (s.setLoop l p ((s.loop l p).occupyRecognised t0)).countPartner l p.partner := rfl
    have hloop : ((s.recognise ⟨l, p, .occupy, t0⟩).offerEdge ⟨l, p, .occupy, t0⟩).loop l p.partner =
        { s.loop l p.partner with partnerWhileClear := 30, fault := .faulty, kind := some .stuckOff, cleanWindow := false } := by
      rw [offerEdge_loop, hrec, countPartner_stuckOff (by rw [hpartner]; exact hplevel) (by rw [hpartner]; exact hcount),
        loopRaised (loop_setLoop_same ..), hpartner]
      simp [hfault]
    refine ⟨_, hown, hloop, ?_⟩
    exact faultLevel_of_faulty (l := l) (p := p.partner) (by rw [State.running, (edge_same s _).stu]; exact hrun)
      (by rw [State.lanes, (edge_same s _).stu]; exact hl) (by rw [hloop])
  · have hown := exec_edgeRecognised hn hrun hl hcand h4 (k := .occupy) (by rw [if_pos hlevel])
    have hpartner : (s.setLoop l p ((s.loop l p).occupyRecognised t0)).loop l p.partner = s.loop l p.partner :=
      loop_setLoop_elsewhere _ (.inr p.partner_ne)
    have hrec : s.recognise ⟨l, p, .occupy, t0⟩ =
        (s.setLoop l p ((s.loop l p).occupyRecognised t0)).countPartner l p.partner := rfl
    rw [countPartner_stuckOn (by rw [hpartner]; exact hplevel) (by rw [hpartner]; exact hms) (by rw [hpartner]; exact hcount),
      hpartner] at hrec
    have hloop : ((s.recognise ⟨l, p, .occupy, t0⟩).offerEdge ⟨l, p, .occupy, t0⟩).loop l p.partner =
        { s.loop l p.partner with
          partnerWhileOccupied := 5, fault := .faulty, cleanWindow := false
          kind := if (s.loop l p.partner).fault = .faulty then (s.loop l p.partner).kind else some .stuckOn } := by
      rw [offerEdge_loop, hrec, loopRaised (loop_setLoop_same ..)]
    refine ⟨_, hown, ?_, hloop.trans ?_, fun hfault iv hiv => ?_⟩
    · exact faultLevel_of_faulty (l := l) (p := p.partner) (by rw [State.running, (edge_same s _).stu]; exact hrun)
        (by rw [State.lanes, (edge_same s _).stu]; exact hl) (by rw [hloop])
    · by_cases hfault : (s.loop l p.partner).fault = .faulty
      · rw [if_pos hfault, if_pos hfault, ← hfault]
      · rw [if_neg hfault, if_neg hfault]
    · rcases offerEdge_interval (s.recognise ⟨l, p, .occupy, t0⟩) ⟨l, p, .occupy, t0⟩ l with h | h
      · exact absurd (h.symm.trans hiv) nofun
      · have hiv' := h.symm.trans hiv
        rw [hrec] at hiv'
        have hne := raiseFault_interval (by rw [loop_setLoop_same]; exact hfault) hiv'
        exact eq_of_ne_partner hne
  · have hown := exec_edgeRecognised hn hrun hl hcand h4 (k := .clear) (by rw [hlevel]; rfl)
    have hqueue : (s.recognise ⟨l, p, .clear, t0⟩).lpi.queue = s.lpi.queue := recognise_queue ..
    rw [offerEdge_joins (by rw [hqueue]; exact hq), hqueue] at hown
    have hrec := recognise_chatter (s := s) (l := l) (p := p) hcount hshort
    refine ⟨_, hown, rfl, ?_, fun k q hkq => ?_, fun hfault => ?_, fun hfault => ⟨?_, ?_, ?_, ?_, fun w hw => ?_, fun k hk => ?_⟩⟩
    · exact (congrFun (congrFun (congrArg State.loop hrec) l) p).trans (loopRaised (loop_setLoop_same ..) _)
    · refine (congrFun (congrFun (congrArg State.loop hrec) k) q).trans ?_
      rw [raiseFault_loop, if_neg fun h => hkq.elim (absurd h.1) (absurd h.2), loop_setLoop_elsewhere _ hkq]
    · rw [hrec, raiseFault_of_faulty (by rw [loop_setLoop_same]; exact hfault)]
      simp [State.sameBut]
    all_goals have hfresh := mt (congrArg LoopState.fault (loop_setLoop_same s l p
      { s.loop l p with level := .clear, candidate := none, occupiedMs := 0, shortOccupancies := 21 })).symm.trans hfault
    · exact ((recognise_same s _).trans (sameButLoops_with _ _ _)).sameBut
    · rw [hrec]; exact raiseFault_msu
    · rw [hrec]; exact raiseFault_lane_eq _ hfresh
    · rw [hrec]; exact raiseFault_lane_interval hfresh
    · rw [hrec] at hw; exact raiseFault_window hfresh hw
    · rw [hrec]; exact raiseFault_lane_other hk
  · have hon : (s.loop l p).stuckOn = true := stuckOn_iff.2 ⟨hlevel, hms, hcount⟩
    rw [exec_stuckOn hn hrun hl hon, raiseFault_of_faulty hfault]
  · have hon : (s.loop l p).stuckOn = true := stuckOn_iff.2 ⟨hlevel, hms, hcount⟩
    refine ⟨_, exec_stuckOn hn hrun hl hon, (raiseFault_same ..).sameBut, raiseFault_lpi.1, raiseFault_lpi.2, ?_,
      fun k q hkq => ?_, raiseFault_msu, raiseFault_lane_eq _ hfault, fun k hk => raiseFault_lane_other hk, ?_, ?_, ?_,
      raiseFault_lane_interval hfault, fun w => raiseFault_window hfault, fun w iv hw hiv hp => ?_⟩
    · rw [loopRaised rfl, if_neg hfault]
    · rw [raiseFault_loop, if_neg fun h => hkq.elim (absurd h.1) (absurd h.2)]
    · rw [raiseFault_lane_eq _ hfault]
    · rw [raiseFault_lane_eq _ hfault]
    · rw [raiseFault_lane_eq _ hfault]
    · rw [raiseFault_lane, if_pos ⟨rfl, hfault⟩, hw, credited_of_on hiv hp]
      exact ⟨_, rfl, rfl, rfl⟩
  · have hsingle : (s.mode e.lane).singleLoop = some e.loop ↔
        (s.mode e.lane = .singleA ∧ e.loop = .a) ∨ (s.mode e.lane = .singleB ∧ e.loop = .b) := singleLoop_eq_some
    have htake := takeEdge_of_lane (s := s) (e := e) (rest := rest) hpair
    have hlane : ∀ k, (s.takeEdge e rest).lane k =
        if k = e.lane then (s.lane e.lane).takeEdge s.spacing (s.mode e.lane) e else s.lane k := fun k => by
      rw [htake]; exact lane_setLane ..
    have hlane_e := (hlane e.lane).trans (if_pos rfl)
    rw [← hsingle, exec_edgeTaken hrun hq]
    have hframe : s.sameBut [.lpi, .msu] (s.takeEdge e rest) := (takeEdge_same ..).sameBut
    have hlpi : (s.takeEdge e rest).lpi = { s.lpi with queue := rest } := by rw [htake]
    have hmsu : (s.takeEdge e rest).msu = { s.msu with lanes := (s.takeEdge e rest).msu.lanes } := by rw [htake]; rfl
    by_cases hhit : e.kind = .occupy ∧ (s.mode e.lane).singleLoop = some e.loop
    · obtain ⟨hwindow, hinterval⟩ :=
        takeEdge_single (m := s.lane e.lane) (dd := s.spacing) hhit.2 hhit.1
      refine ⟨_, { w with count := w.count + 1 }, rfl, ?_, hframe, hlpi, hmsu, fun k hk => (hlane k).trans (if_neg hk),
        fun _ => ⟨rfl, by rw [hlane_e]; exact hinterval⟩, fun h => absurd hhit h⟩
      rw [hlane_e, hwindow, hw]
      simp [hcount]
    · have hwindow := takeEdge_noVehicle (m := s.lane e.lane) (dd := s.spacing) hmode hhit
      rw [← hlane_e, hw] at hwindow
      cases hk : e.kind with
      | occupy =>
        rw [hk] at hwindow
        exact ⟨_, w, rfl, hwindow, hframe, hlpi, hmsu, fun k hk => (hlane k).trans (if_neg hk),
          fun h => absurd ⟨hk, h.2⟩ hhit, fun _ => ⟨rfl, rfl, rfl⟩⟩
      | clear =>
        rw [hk] at hwindow
        refine ⟨_, _, rfl, hwindow, hframe, hlpi, hmsu, fun k hk => (hlane k).trans (if_neg hk),
          fun h => absurd h.1 (by simp), fun _ => ?_⟩
        rw [credited_counts]
        exact ⟨rfl, rfl, rfl⟩

end Sys2Proof.Machine
end

section
/-! O9: the regular transitions of the pairing machine (R6, R8, R10, R12, R22). -/

namespace Sys2Proof.Machine

/-- R22: a window with one vehicle without speed more. -/
def Accum.oneMore (w : Accum) : Accum := { w with count := if w.count < 4095 then w.count + 1 else w.count }

section Lane

variable {m : LaneState} {dd : Nat} {x : LaneMode} {e : Edge}

/-! ### The three takers of an edge -/

theorem takePairing_quiet {st : PairState} {v : Option Vehicle}
    (h : pairStep dd m.pairing m.vehicle e = ⟨st, v, none, false⟩) :
    m.takePairing dd x e = { m with pairing := st, vehicle := v } := by
  unfold LaneState.takePairing
  rw [h]
  cases x <;> rfl

theorem takePairing_completes {st : PairState} {v : Option Vehicle} {sp : Option Nat}
    (h : pairStep dd m.pairing m.vehicle e = ⟨st, v, some sp, true⟩) :
    m.takePairing dd x e =
      { m with
        pairing := st, vehicle := v, pairedCount := if m.pairedCount < 255 then m.pairedCount + 1 else m.pairedCount
        window := if x = .paired then m.window.map (·.addVehicle ⟨e.lane, e.time, sp⟩) else m.window } := by
  unfold LaneState.takePairing
  rw [h]
  cases x <;> rfl

theorem takeSingle_eq :
    m.takeSingle x e =
      { m with
        window := if x.singleLoop = some e.loop ∧ e.kind = .occupy then m.window.map Accum.oneMore else m.window } := by
  unfold LaneState.takeSingle LaneState.handVehicle
  simp only [addVehicle_none]
  split <;> rfl

theorem takeOccupancy_occupy (hk : e.kind = .occupy) :
    m.takeOccupancy x e =
      { m with
        interval := if m.interval = none ∧ x.occupancyLoop = some e.loop then some ⟨e.loop, e.time, false⟩
          else m.interval } := by
  unfold LaneState.takeOccupancy
  rw [hk]
  simp only [and_comm]
  split <;> rfl

theorem takeOccupancy_clear (hk : e.kind = .clear) :
    m.takeOccupancy x e =
      { m with
        interval := m.interval.filter fun iv => iv.loop ≠ e.loop, window := m.window.map (m.credited e.loop e.time) } := by
  unfold LaneState.takeOccupancy
  rw [hk]
  exact closeIntervalOn_eq ..

theorem occupancyLoop_a : x.occupancyLoop = some .a ↔ x = .paired ∨ x = .singleA := by cases x <;> decide

theorem occupancyLoop_b : x.occupancyLoop = some .b ↔ x = .singleB := by cases x <;> decide

theorem singleLoop_a : x.singleLoop = some .a ↔ x = .singleA := by cases x <;> decide

theorem singleLoop_b : x.singleLoop = some .b ↔ x = .singleB := by cases x <;> decide

/-! ### The four regular transitions (R8) -/

theorem takeEdge_begins (hp : m.pairing = .empty) (hl : e.loop = .a) (hk : e.kind = .occupy) :
    m.takeEdge dd x e =
      { m with
        pairing := .aOn, vehicle := some ⟨some e.time, none, false⟩
        interval := if m.interval = none ∧ (x = .paired ∨ x = .singleA) then some ⟨.a, e.time, false⟩ else m.interval
        window := if x = .singleA then m.window.map Accum.oneMore else m.window } := by
  have hstep : pairStep dd m.pairing m.vehicle e = ⟨.aOn, some ⟨some e.time, none, false⟩, none, false⟩ := by
    rw [hp]; cases e; cases hl; cases hk; rfl
  unfold LaneState.takeEdge
  rw [takePairing_quiet hstep, takeSingle_eq, takeOccupancy_occupy hk, hl]
  simp only [occupancyLoop_a, singleLoop_a, hk, and_true]

theorem takeEdge_secondLoop {v : Vehicle} (hp : m.pairing = .aOn) (hl : e.loop = .b) (hk : e.kind = .occupy)
    (hv : m.vehicle = some v) :
    m.takeEdge dd x e =
      { m with
        pairing := .abOn, vehicle := some (if v.counted then v else { v with tB := some e.time })
        interval := if m.interval = none ∧ x = .singleB then some ⟨.b, e.time, false⟩ else m.interval
        window := if x = .singleB then m.window.map Accum.oneMore else m.window } := by
  have hstep : pairStep dd m.pairing m.vehicle e =
      ⟨.abOn, some (if v.counted then v else { v with tB := some e.time }), none, false⟩ := by
    rw [hp, hv]; cases e; cases hl; cases hk; rfl
  unfold LaneState.takeEdge
  rw [takePairing_quiet hstep, takeSingle_eq, takeOccupancy_occupy hk, hl]
  simp only [occupancyLoop_b, singleLoop_b, hk, and_true]

theorem takeEdge_clearsFirst (hp : m.pairing = .abOn) (hl : e.loop = .a) (hk : e.kind = .clear) :
    m.takeEdge dd x e =
      { m with
        pairing := .bOn, interval := m.interval.filter fun iv => iv.loop ≠ .a
        window := m.window.map (m.credited .a e.time) } := by
  have hstep : pairStep dd m.pairing m.vehicle e = ⟨.bOn, m.vehicle, none, false⟩ := by
    rw [hp]; cases e; cases hl; cases hk; rfl
  unfold LaneState.takeEdge
  rw [takePairing_quiet hstep, takeSingle_eq, takeOccupancy_clear hk, hl]
  simp only [hk, reduceCtorEq, and_false, if_false]
  rfl

theorem takeEdge_ends_counted {v : Vehicle} (hp : m.pairing = .bOn) (hl : e.loop = .b) (hk : e.kind = .clear)
    (hv : m.vehicle = some v) (hc : v.counted = true) :
    m.takeEdge dd x e =
      { m with
        pairing := .empty, vehicle := none, interval := m.interval.filter fun iv => iv.loop ≠ .b
        window := m.window.map (m.credited .b e.time) } := by
  have hstep : pairStep dd m.pairing m.vehicle e = ⟨.empty, none, none, false⟩ := by
    rw [hp, hv]; cases e; cases hl; cases hk
    exact if_pos hc
  unfold LaneState.takeEdge
  rw [takePairing_quiet hstep, takeSingle_eq, takeOccupancy_clear hk, hl]
  simp only [hk, reduceCtorEq, and_false, if_false]
  rfl

theorem takeEdge_ends {v : Vehicle} (hp : m.pairing = .bOn) (hl : e.loop = .b) (hk : e.kind = .clear)
    (hv : m.vehicle = some v) (hc : v.counted = false) :
    m.takeEdge dd x e =
      { m with
        pairing := .empty, vehicle := none
        pairedCount := if m.pairedCount < 255 then m.pairedCount + 1 else m.pairedCount
        interval := m.interval.filter fun iv => iv.loop ≠ .b
        window :=
          (if x = .paired then m.window.map (·.addVehicle ⟨e.lane, e.time, vehicleSpeed dd v⟩) else m.window).map
            (m.credited .b e.time) } := by
  have hstep : pairStep dd m.pairing m.vehicle e = ⟨.empty, none, some (vehicleSpeed dd v), true⟩ := by
    rw [hp, hv]; cases e; cases hl; cases hk
    exact if_neg (by simp [alreadyCounted, hc])
  unfold LaneState.takeEdge
  rw [takePairing_completes hstep, takeSingle_eq, takeOccupancy_clear hk, hl]
  simp only [hk, reduceCtorEq, and_false, if_false]
  rfl

end Lane

/-! ### The statement -/

theorem vehicleSpeed_of_times (dd : Nat) (tA tB : Stamp) (c : Bool) :
    vehicleSpeed dd ⟨some tA, some tB, c⟩ =
      if transitTime tA tB ≤ 4000 then some (min ((360 * dd + transitTime tA tB / 2) / transitTime tA tB) 250) else none := by
  show (if _ then _ else _) = _
  by_cases h : transitTime tA tB ≤ 4000
  · rw [if_neg (by omega), if_pos h]
  · rw [if_pos (by omega), if_neg h]

/-- R22: one vehicle joins a window that is not full, with a speed if it carries one. -/
theorem addVehicle_ite (w : Accum) (hc : w.count < 4095) (lane : Lane) (t : Stamp) (c : Prop) [Decidable c] (sp : Nat) :
    w.addVehicle ⟨lane, t, if c then some sp else none⟩ =
      if c then { w with count := w.count + 1, speedCount := w.speedCount + 1, speedSum := w.speedSum + sp }
      else { w with count := w.count + 1 } := by
  unfold Accum.addVehicle
  rw [if_pos hc]
  by_cases h : c <;> simp [h]

/-- R12: an edge of a loop on which no interval is open leaves interval and credit alone. -/
theorem closed_off {m : LaneState} {p : Loop} {t : Stamp} (h : ∀ iv, m.interval = some iv → iv.loop ≠ p) :
    m.credited p t = id ∧ (m.interval.filter fun iv => iv.loop ≠ p) = m.interval := by
  cases hi : m.interval with
  | none => exact ⟨credited_of_none hi, rfl⟩
  | some iv => exact ⟨credited_of_off hi (h iv hi), by rw [Option.filter_some, if_pos (by simpa using h iv hi)]⟩

variable {s : State} {e : Edge} {rest : List Edge}

theorem exec_edgeTaken_of_lane (hrun : s.running = true) (hq : s.lpi.queue = e :: rest)
    (hp : (s.lane e.lane).pairing ≠ .resync) {m : LaneState}
    (hm : (s.lane e.lane).takeEdge s.spacing (s.mode e.lane) e = m) :
    exec .edgeTaken s = .next { s.setLane e.lane m with lpi := { s.lpi with queue := rest } } := by
  rw [exec_edgeTaken hrun hq, takeEdge_of_lane hp, hm]

/-- Settles O9. -/
theorem regularPassageCountsVehicle : Obligations.RegularPassageCountsVehicle := by
  refine ⟨fun s l e rest hrun hq hl hmode => ⟨fun hp hloop hk hi => ?_, fun tA tB hp hloop hk hv => ?_, fun t0 w hp hloop hk hi hw => ?_⟩,
    fun s l e rest tA tB w hrun hq hl hloop hk hp hv hmode hw hcount hiv hpaired => ?_, fun s l e rest hrun hq hl => ?_⟩
  · subst hl
    refine exec_edgeTaken_of_lane hrun hq (by rw [hp]; decide) ((takeEdge_begins hp hloop hk).trans ?_)
    simp [hi, hmode]
  · subst hl
    refine exec_edgeTaken_of_lane hrun hq (by rw [hp]; decide) ((takeEdge_secondLoop hp hloop hk hv).trans ?_)
    simp [hmode]
  · subst hl
    refine exec_edgeTaken_of_lane hrun hq (by rw [hp]; decide) ((takeEdge_clearsFirst hp hloop hk).trans ?_)
    rw [credited_of_on hi rfl, hi, hw]
    rfl
  · subst hl
    refine exec_edgeTaken_of_lane hrun hq (by rw [hp]; decide) ((takeEdge_ends hp hloop hk hv rfl).trans ?_)
    obtain ⟨hcredit, hfilter⟩ := closed_off (p := .b) (t := e.time) (m := s.lane e.lane) fun iv h => by rw [hiv iv h]; decide
    rw [hcredit, hfilter, if_pos hmode, if_pos (by omega), hw, Option.map_id]
    show LaneState.mk _ _ _ _ (some (w.addVehicle _)) _ _ _ = _
    rw [vehicleSpeed_of_times, addVehicle_ite w hcount]
    rfl
  · subst hl
    intro m after oneMore credited
    refine ⟨fun hp hloop hk => ?_, fun v hp hloop hk hv => ?_, fun hp hloop hk => ?_, fun v hp hloop hk hv hc => ?_⟩
    · exact exec_edgeTaken_of_lane hrun hq (by rw [hp]; decide) (takeEdge_begins hp hloop hk)
    · exact exec_edgeTaken_of_lane hrun hq (by rw [hp]; decide) (takeEdge_secondLoop hp hloop hk hv)
    · refine exec_edgeTaken_of_lane hrun hq (by rw [hp]; decide) ((takeEdge_clearsFirst hp hloop hk).trans ?_)
      rw [← hloop]
      rfl
    · refine exec_edgeTaken_of_lane hrun hq (by rw [hp]; decide) ?_
      cases hcounted : v.counted with
      | true => exact (takeEdge_ends_counted hp hloop hk hv hcounted).trans (by rw [← hloop]; rfl)
      | false =>
        refine (takeEdge_ends hp hloop hk hv hcounted).trans ?_
        rw [if_neg (hc.resolve_left (by simp [hcounted])), ← hloop]
        rfl

end Sys2Proof.Machine
end

section
/-! What a review of the Speed Computer's requests leaves of the lanes, the windows and the displays (R25, R90, R138). -/

namespace Sys2Proof.Machine

/-! ### Placing and withdrawing requests changes rows alone -/

/-- `t` differs from `s` in the rows of the request table at most. -/
structure SameButRows (s t : State) : Prop where
  same : SameButAsa s t
  msu : t.msu = s.msu
  queue : t.asa.queue = s.asa.queue
  nextTag : t.asa.nextTag = s.asa.nextTag
  display : ∀ a, t.display a = { s.display a with row := (t.display a).row }

theorem SameButRows.refl (s : State) : SameButRows s s := ⟨.refl s, rfl, rfl, rfl, fun _ => rfl⟩

theorem SameButRows.trans {s t u : State} (h : SameButRows s t) (g : SameButRows t u) : SameButRows s u :=
  ⟨h.same.trans g.same, g.msu.trans h.msu, g.queue.trans h.queue, g.nextTag.trans h.nextTag,
    fun a => by rw [g.display a, h.display a]⟩

theorem setRow_rows (s : State) (a : Addr) (x : List Request) :
    SameButRows s (s.setDisplay a { s.display a with row := x }) := by
  refine ⟨setDisplay_same .., rfl, rfl, rfl, fun b => ?_⟩
  rw [display_setDisplay]
  split
  case isTrue h => rw [h]
  case isFalse => rfl

theorem place_rows (s : State) (a : Addr) (r : Request) : SameButRows s (s.place a r) := setRow_rows ..

theorem withdraw_rows (s : State) (a : Addr) (lv : Level) (src : Source) : SameButRows s (s.withdraw a lv src) := setRow_rows ..

theorem keepRequests_rows (s : State) (f : Addr → Request → Bool) : SameButRows s (s.keepRequests f) := by
  refine ⟨keepRequests_same .., rfl, rfl, rfl, fun a => ?_⟩
  have hget : (s.keepRequests f).display a = { s.display a with row := (s.display a).row.filter (f a) } := Per8.get_build ..
  rw [hget]

theorem foldl_rows {α : Type} (f : State → α → State) (h : ∀ s x, SameButRows s (f s x)) (xs : List α) (s : State) :
    SameButRows s (xs.foldl f s) :=
  foldl_keeps SameButRows .refl (fun _ _ _ => .trans) f h xs s

theorem placeAll_rows (s : State) (rs : List (Addr × Request)) : SameButRows s (s.placeAll rs) :=
  foldl_rows _ (fun _ _ => place_rows ..) rs s

theorem setSpc_rows (s : State) (a : Addr) (lv : Level) (x : Option Aspect) : SameButRows s (s.setSpc a lv x) := by
  cases x
  · exact withdraw_rows ..
  · exact place_rows ..

theorem setEnd_rows (s : State) : SameButRows s s.setEnd := foldl_rows _ (fun _ _ => setSpc_rows ..) _ s

theorem setSpeed_rows (s : State) : SameButRows s s.setSpeed := foldl_rows _ (fun _ _ => setSpc_rows ..) _ s

theorem setLegends_rows (s : State) : SameButRows s s.setLegends := (setSpc_rows ..).trans (setSpc_rows ..)

/-- R90: the requests reviewed, before the event is settled. -/
def State.setRequests (s : State) : State := s.setSpeed.setEnd.setLegends

theorem reviewRequests_eq (s : State) : s.reviewRequests = s.setRequests.settle := rfl

theorem setRequests_rows (s : State) : SameButRows s s.setRequests :=
  ((setSpeed_rows s).trans (setEnd_rows _)).trans (setLegends_rows _)

/-! ### The change entries leave MSU alone -/

theorem placeGroup_msu (s : State) (k : GroupKind) (es : List ChangeEntry) : (s.placeGroup k es).msu = s.msu := by
  unfold State.placeGroup; split <;> rfl

theorem foldl_msu {α : Type} (f : State → α → State) (h : ∀ s x, (f s x).msu = s.msu) (xs : List α) (s : State) :
    (xs.foldl f s).msu = s.msu :=
  foldl_keeps (fun s t : State => t.msu = s.msu) (fun _ => rfl) (fun _ _ _ h g => Eq.trans g h) f h xs s

theorem placeEntries_msu (s : State) (es : List ChangeEntry) : (s.placeEntries es).msu = s.msu := by
  unfold State.placeEntries State.orderEntries
  dsimp only
  refine (foldl_msu _ ?_ es _).trans ?_
  · exact fun _ _ => rfl
  · rw [placeGroup_msu, placeGroup_msu]

theorem formEntries_msu (s : State) (as : List Addr) : (s.formEntries as).msu = s.msu :=
  (placeEntries_msu ..).trans (foldl_msu _ (fun s a => by
    show (if (s.mod a).state = .absent then _ else s).msu = s.msu
    split <;> rfl) as s)

theorem settle_msu (s : State) : s.settle.msu = s.settleTable.msu := formEntries_msu ..

/-! ### What an event tells MSU (R25) -/

/-- R25: the lane's current window notes that the lane is closed. -/
def LaneState.sawClosed (m : LaneState) : LaneState := { m with window := m.window.map fun w => { w with closedSeen := true } }

theorem settle_winner_eq (s : State) (a : Addr) : (s.settle.display a).winner = (s.settleTable.display a).winner := by
  obtain ⟨x, hx⟩ := (formEntries_sameButOrdered s.settleTable _).display a
  exact (congrArg Display.winner hx :)

theorem settle_lane (s : State) (l : Lane) :
    s.settle.lane l =
      if (s.settle.display (laneAddr l)).winner = .redX ∧ (s.display (laneAddr l)).winner ≠ .redX then
        (s.lane l).sawClosed
      else s.lane l := by
  have hget : s.settleTable.lane l =
      if (s.settleTable.display (laneAddr l)).winner = .redX ∧ (s.display (laneAddr l)).winner ≠ .redX then
        (s.lane l).sawClosed
      else s.lane l := Per6.get_build ..
  rw [settle_winner_eq, ← hget]
  exact congrArg (·.lanes.get l) (settle_msu s)

theorem settle_msu_lanes (s : State) : s.settle.msu = { s.msu with lanes := s.settle.msu.lanes } := by rw [settle_msu]; rfl

theorem reviewRequests_lane (s : State) (l : Lane) :
    s.reviewRequests.lane l =
      if (s.reviewRequests.display (laneAddr l)).winner = .redX ∧ (s.display (laneAddr l)).winner ≠ .redX then
        (s.lane l).sawClosed
      else s.lane l := by
  have hrows := setRequests_rows s
  have hwinner : (s.setRequests.display (laneAddr l)).winner = (s.display (laneAddr l)).winner :=
    (congrArg Display.winner (hrows.display (laneAddr l)) :)
  have hlane : s.setRequests.lane l = s.lane l := congrArg (·.lanes.get l) hrows.msu
  rw [reviewRequests_eq, settle_lane, hwinner, hlane]

theorem reviewRequests_msu (s : State) : s.reviewRequests.msu = { s.msu with lanes := s.reviewRequests.msu.lanes } := by
  rw [reviewRequests_eq, settle_msu_lanes, (setRequests_rows s).msu]

theorem recomputeWindow_eq (s : State) : s.recomputeWindow = s.restageWindow.reviewRequests := rfl

theorem recomputeWindow_lane (s : State) (l : Lane) :
    s.recomputeWindow.lane l =
      if (s.recomputeWindow.display (laneAddr l)).winner = .redX ∧ (s.display (laneAddr l)).winner ≠ .redX then
        (s.lane l).sawClosed
      else s.lane l := by
  rw [recomputeWindow_eq]
  exact reviewRequests_lane s.restageWindow l

theorem recomputeWindow_msu (s : State) : s.recomputeWindow.msu = { s.msu with lanes := s.recomputeWindow.msu.lanes } := by
  rw [recomputeWindow_eq]
  exact reviewRequests_msu s.restageWindow

theorem recomputeWindow_carriage (s : State) : s.recomputeWindow.msu.carriage = s.msu.carriage := by
  rw [recomputeWindow_msu]

/-- A lane after a recomputation, its window apart. -/
theorem recomputeWindow_lane_eq (s : State) (l : Lane) :
    s.recomputeWindow.lane l = { s.lane l with window := (s.recomputeWindow.lane l).window } := by
  rw [recomputeWindow_lane]
  split <;> rfl

end Sys2Proof.Machine
end

section
/-! O11 and O12: the window end (R18, R20, R24, R27 to R34). -/

namespace Sys2Proof.Machine

variable {s : State} {l : Lane}

/-! ### One lane at a window end -/

/-- R24, R28, R29: a current window credited with the open interval becomes the ring's newest record. -/
def LaneState.closingRecord (m : LaneState) (w : Accum) (now : Stamp) : WindowRecord :=
  (match m.interval with
    | some iv => w.credit iv now
    | none => w).record

theorem closeWindow_eq (m : LaneState) (now : Stamp) :
    m.closeWindow now =
      { m with
        window := none
        ring := match m.window with
          | some w => pushRecord m.ring (m.closingRecord w now)
          | none => m.ring } := by
  unfold LaneState.closeWindow LaneState.creditOpen LaneState.closingRecord
  rcases m with ⟨pairing, vehicle, pairedCount, interval, window, ring, fast, slow⟩
  cases interval <;> cases window <;> rfl

/-- R24, R28: the record of a window, and R27's mark. -/
theorem closingRecord_fields (m : LaneState) (w : Accum) (now : Stamp) :
    let r := m.closingRecord w now
    r.seq = w.seq ∧ r.count = w.count ∧ r.speedCount = w.speedCount ∧ r.speedSum = w.speedSum ∧ r.occ = r.occMs / 15 ∧
      r.occMs = w.occMs + (match m.interval with
        | some iv => spanLength (w.creditStart iv) now
        | none => 0) ∧
      r.mark = w.mark := by
  unfold LaneState.closingRecord
  cases m.interval <;> exact ⟨rfl, rfl, rfl, rfl, rfl, rfl, rfl⟩

/-! ### The steps of a window end -/

theorem closeWindows_lane (h : l.val < s.lanes) : s.closeWindows.lane l = (s.lane l).closeWindow s.lpi.ms :=
  (Per6.get_build ..).trans (if_pos h)

theorem evaluateLoops_lane (h : l.val < s.lanes) : s.evaluateLoops.lane l = { s.lane l with pairedCount := 0 } :=
  (Per6.get_build ..).trans (if_pos h)

theorem evaluateLoops_loop (h : l.val < s.lanes) (p : Loop) :
    s.evaluateLoops.loop l p = ((s.loop l p).evaluate (s.lane l).pairedCount).newWindow := by
  have hget : s.evaluateLoops.lpi.loops.get l =
      ⟨((s.loop l .a).evaluate (s.lane l).pairedCount).newWindow,
        ((s.loop l .b).evaluate (s.lane l).pairedCount).newWindow⟩ :=
    (Per6.get_build ..).trans (by simp only [if_pos h])
  cases p
  · exact congrArg Pair.a hget
  · exact congrArg Pair.b hget

theorem openWindows_lane (h : l.val < s.lanes) (start : Bool) :
    (s.openWindows start).lane l =
      (s.lane l).openWindow (openAccum s.msu.nextSeq s.lpi.ms start ((s.display (laneAddr l)).winner == .redX)
        (s.loop l .a).fault (s.loop l .b).fault) :=
  (Per6.get_build ..).trans (if_pos h)

theorem derive_lane (h : l.val < s.lanes) :
    s.derive.lane l = { s.lane l with fast := fastOf (s.lane l).ring, slow := slowOf (s.lane l).ring } :=
  (Per6.get_build ..).trans (if_pos h)

theorem endWindow_loop (h : l.val < s.lanes) (p : Loop) :
    s.endWindow.loop l p = ((s.loop l p).evaluate (s.lane l).pairedCount).newWindow := by
  have hcount : (s.closeWindows.lane l).pairedCount = (s.lane l).pairedCount := by
    rw [closeWindows_lane h, closeWindow_eq]
  rw [← hcount]
  exact evaluateLoops_loop (s := s.closeWindows) h p

/-- R18, R20, R31, R32: a lane in use at the end of a window end, before the recomputation. -/
theorem endWindow_lane (h : l.val < s.lanes) :
    let m := (s.lane l).closeWindow s.lpi.ms
    s.endWindow.lane l =
      { m with
        pairedCount := 0, fast := fastOf m.ring, slow := slowOf m.ring
        interval := m.interval.map fun iv => { iv with beforeWindow := true }
        window := some (openAccum s.msu.nextSeq s.lpi.ms false ((s.display (laneAddr l)).winner == .redX)
          (s.endWindow.loop l .a).fault (s.endWindow.loop l .b).fault) } := by
  dsimp only
  unfold State.endWindow
  rw [derive_lane (s := s.closeWindows.evaluateLoops.openWindows false) h,
    openWindows_lane (s := s.closeWindows.evaluateLoops) h, evaluateLoops_lane (s := s.closeWindows) h, closeWindows_lane h]
  rfl

theorem endWindow_same (s : State) : SameButLoops s s.endWindow := sameButLoops_with ..

/-! ### The whole command -/

/-- The part after a window end that is due. -/
def State.windowEnded (s : State) : State := s.endWindow.recomputeWindow.drive

theorem exec_windowEnd (hbus : s.onBus = true) (ht : s.msu.windowTimer = some 0) :
    exec .windowEnd s = .next s.windowEnded :=
  congrArg Host.Outcome.next (if_pos ⟨hbus, ht⟩)

theorem windowEnded_lpi (s : State) : s.windowEnded.lpi = s.endWindow.lpi := by
  rw [State.windowEnded, drive_lpi, (recomputeWindow_same s.endWindow).lpi]

theorem windowEnded_loop (s : State) : s.windowEnded.loop = s.endWindow.loop := by
  unfold State.loop; rw [windowEnded_lpi]

theorem windowEnded_straps (s : State) : s.windowEnded.stu.straps = s.stu.straps := by
  rw [State.windowEnded, drive_straps, (recomputeWindow_same s.endWindow).stu, (endWindow_same s).stu]

theorem windowEnded_station (s : State) : s.windowEnded.stu.station = s.stu.station := by
  rw [State.windowEnded, drive_station, (recomputeWindow_same s.endWindow).stu, (endWindow_same s).stu]

theorem windowEnded_msu (s : State) : s.windowEnded.msu = { s.endWindow.msu with lanes := s.windowEnded.msu.lanes } := by
  rw [State.windowEnded, drive_msu, recomputeWindow_msu]

theorem endWindow_display (s : State) : s.endWindow.display = s.display := rfl

theorem drive_lane (s : State) : s.drive.lane = s.lane := rfl

theorem drive_display (s : State) : s.drive.display = s.display := rfl

theorem windowEnded_lane (s : State) (l : Lane) :
    s.windowEnded.lane l =
      if (s.windowEnded.display (laneAddr l)).winner = .redX ∧ (s.display (laneAddr l)).winner ≠ .redX then
        (s.endWindow.lane l).sawClosed
      else s.endWindow.lane l := by
  rw [State.windowEnded, drive_lane, drive_display, recomputeWindow_lane, endWindow_display]

theorem windowEnded_lane_eq (s : State) (l : Lane) :
    s.windowEnded.lane l = { s.endWindow.lane l with window := (s.windowEnded.lane l).window } := by
  rw [State.windowEnded, drive_lane, recomputeWindow_lane_eq]

theorem windowEnded_sameBut (s : State) : s.sameBut [.stu, .lpi, .msu, .spc, .asa] s.windowEnded := by
  have hend : s.sameBut [.stu, .lpi, .msu, .spc, .asa] s.endWindow := (endWindow_same s).sameBut.mono (by simp)
  have hreview : s.endWindow.sameBut [.stu, .lpi, .msu, .spc, .asa] s.endWindow.recomputeWindow :=
    (recomputeWindow_same s.endWindow).sameBut.mono (by simp)
  exact (hend.trans hreview).trans ((drive_sameBut _).mono (by simp))

/-! ### The loops (R16, R18) -/

/-- R16, R18: a loop's counts begin anew. -/
theorem newWindow_eq (x : LoopState) :
    x.newWindow = { x with shortOccupancies := 0, cleanWindow := !(x.stuckOn || x.stuckOff) } := by
  unfold LoopState.newWindow LoopState.chatter LoopState.stuckOn LoopState.stuckOff
  simp

theorem evaluate_eq (x : LoopState) (n : Nat) :
    x.evaluate n =
      { x with
        fault :=
          if x.fault = .faulty ∧ x.cleanWindow = true ∧ 3 ≤ n then .recovering
          else if x.fault = .recovering ∧ x.cleanWindow = true then .sound
          else x.fault
        kind := if x.fault = .faulty ∧ x.cleanWindow = true ∧ 3 ≤ n then none else x.kind } := by
  unfold LoopState.evaluate
  rcases x with ⟨level, candidate, fault, kind, occupiedMs, po, pc, short, clean, occupyTime⟩
  cases fault with
  | sound => rfl
  | recovering => cases clean <;> rfl
  | faulty => by_cases h : clean = true ∧ 3 ≤ n <;> simp [h]

/-- Settles O12. -/
theorem windowEndEvaluatesLoops : Obligations.WindowEndEvaluatesLoops := by
  intro s hbus ht
  refine ⟨_, exec_windowEnd hbus ht, fun l hl => ⟨?_, fun p => ?_⟩⟩
  · rw [windowEnded_lane_eq, endWindow_lane hl]
  · rw [windowEnded_loop, endWindow_loop hl, newWindow_eq, evaluate_eq]
    refine ⟨rfl, fun hf hc hn => ?_, fun hf hn => ?_, fun hf hc => ?_, fun hf => ?_, ?_⟩
    · simp [hf, hc, hn]
    · simp [hf, hn]
    · simp [hf, hc]
    · simp [hf]
    · show (!((s.loop l p).stuckOn || (s.loop l p).stuckOff)) = true ↔ _
      rw [← stuckOn_iff, ← stuckOff_iff]
      simp

/-! ### The derived values (R30 to R34) -/

theorem counts_iff {m : Mark} : m.counts = true ↔ m = .valid ∨ m = .countOnly := by cases m <;> decide

/-- R30: the records that count, as the statement writes them. -/
theorem filter_counts (rs : List WindowRecord) :
    (rs.filter fun r => r.mark.counts) = rs.filter fun r => decide (r.mark = .valid ∨ r.mark = .countOnly) :=
  List.filter_congr fun r _ => by rw [Bool.eq_iff_iff, counts_iff, decide_eq_true_iff]

theorem pooledSpeed_eq (rs : List WindowRecord) :
    pooledSpeed rs =
      let v := rs.filter fun r => r.mark = .valid
      if (v.map WindowRecord.speedCount).sum = 0 then .empty
      else .kmh ((v.map WindowRecord.speedSum).sum / (v.map WindowRecord.speedCount).sum) := by
  have hfilter : (rs.filter fun r => r.mark == .valid) = rs.filter fun r => decide (r.mark = .valid) :=
    List.filter_congr fun r _ => by rw [Bool.eq_iff_iff, beq_iff_eq, decide_eq_true_iff]
  unfold pooledSpeed
  rw [hfilter]
  rfl

theorem fastOf_eq (ring : List WindowRecord) :
    fastOf ring =
      (ring.getLast?.filter fun r => decide (r.mark = .valid ∨ r.mark = .countOnly)).map fun r => ⟨pooledSpeed [r], r.occ⟩ := by
  unfold fastOf
  cases ring.getLast? with
  | none => rfl
  | some r =>
    dsimp only
    by_cases h : r.mark.counts = true
    · rw [if_pos h, Option.filter_some, if_pos (decide_eq_true (counts_iff.1 h))]; rfl
    · rw [if_neg h, Option.filter_some, if_neg (by rw [decide_eq_true_iff]; exact mt counts_iff.2 h)]; rfl

theorem slowOf_eq (ring : List WindowRecord) :
    slowOf ring =
      let v := ring.filter fun r => r.mark = .valid ∨ r.mark = .countOnly
      if 4 ≤ v.length then
        some ⟨pooledSpeed ring, (v.map WindowRecord.occMs).sum / (15 * v.length), (v.map WindowRecord.count).sum * 3600 / (15 * v.length)⟩
      else none := by
  unfold slowOf
  rw [filter_counts]
  rfl

theorem slowOf_isSome (ring : List WindowRecord) :
    (slowOf ring).isSome = true ↔ 4 ≤ (ring.filter fun r => decide (r.mark = .valid ∨ r.mark = .countOnly)).length := by
  rw [slowOf_eq]
  dsimp only
  split <;> simp_all

theorem laneOpen_iff (ring : List WindowRecord) :
    laneOpen ring = true ↔ ∃ r, ring.getLast? = some r ∧ r.mark ≠ .closed := by
  unfold laneOpen
  cases ring.getLast? <;> simp

/-! ### The derived values after a window end -/

/-- The carriageway measurement reads the lane count and the rings alone. -/
theorem carriage_congr {t : State} (hlanes : t.lanes = s.lanes) (hring : ∀ l, (t.lane l).ring = (s.lane l).ring) :
    t.carriageOf t.carriageLanes = s.carriageOf s.carriageLanes := by
  have hls : t.carriageLanes = s.carriageLanes := by
    unfold State.carriageLanes State.lanesInUse
    simp only [hlanes, hring]
  unfold State.carriageOf
  simp only [hls, hring]

theorem derive_carriage (s : State) : s.derive.msu.carriage = s.carriageOf s.carriageLanes := rfl

theorem derive_ring (s : State) (l : Lane) : (s.derive.lane l).ring = (s.lane l).ring := by
  have hget : s.derive.lane l =
      if l.val < s.lanes then { s.lane l with fast := fastOf (s.lane l).ring, slow := slowOf (s.lane l).ring }
      else s.lane l := Per6.get_build ..
  rw [hget]
  split <;> rfl

theorem windowEnded_ring (s : State) (l : Lane) : (s.windowEnded.lane l).ring = (s.endWindow.lane l).ring := by
  rw [windowEnded_lane_eq]

theorem windowEnded_lanes (s : State) : s.windowEnded.lanes = s.lanes := by unfold State.lanes; rw [windowEnded_straps]

/-- R20, R21: the lanes with their windows closed and opened, before the derived values. -/
def State.reopened (s : State) : State := s.closeWindows.evaluateLoops.openWindows false

theorem endWindow_eq (s : State) : s.endWindow = s.reopened.derive := rfl

theorem windowEnded_carriage (s : State) :
    s.windowEnded.msu.carriage = s.windowEnded.carriageOf s.windowEnded.carriageLanes := by
  have hring : ∀ l, (s.windowEnded.lane l).ring = (s.reopened.lane l).ring := fun l => by
    rw [windowEnded_ring, endWindow_eq, derive_ring]
  have hlanes : s.windowEnded.lanes = s.reopened.lanes := by rw [windowEnded_lanes]; rfl
  rw [carriage_congr hlanes hring, windowEnded_msu, endWindow_eq, derive_carriage]

theorem windowEnded_fast (hl : l.val < s.lanes) : (s.windowEnded.lane l).fast = fastOf (s.windowEnded.lane l).ring := by
  rw [windowEnded_lane_eq, endWindow_lane hl]

theorem windowEnded_slow (hl : l.val < s.lanes) : (s.windowEnded.lane l).slow = slowOf (s.windowEnded.lane l).ring := by
  rw [windowEnded_lane_eq, endWindow_lane hl]

theorem mem_carriageLanes : l ∈ s.carriageLanes ↔
    l.val < s.lanes ∧ laneOpen (s.lane l).ring = true ∧ (slowOf (s.lane l).ring).isSome = true := by
  simp [State.carriageLanes, mem_lanesInUse_iff]

theorem carriageOf_eq_none {ls : List Lane} : s.carriageOf ls = none ↔ ls = [] := by
  unfold State.carriageOf
  split <;> simp_all

/-! ### The statement -/

theorem openAccum_seen (seq : Cycle) (now : Stamp) (start closed : Bool) (a b : FaultState) :
    let v := openAccum seq now start closed a b
    (v.faultSeen = true ↔ laneMode a b = .none) ∧ (v.singleSeen = true ↔ laneMode a b = .singleA ∨ laneMode a b = .singleB) ∧
      (v.recoverySeen = true ↔ a = .recovering ∨ b = .recovering) := by
  simp [openAccum, Accum.noteFaults]

theorem exists_loop {P : Loop → Prop} : (∃ p, P p) ↔ P .a ∨ P .b :=
  ⟨fun ⟨p, h⟩ => by cases p; exacts [.inl h, .inr h], fun h => h.elim (⟨_, ·⟩) (⟨_, ·⟩)⟩

/-- R25: the new window after the recomputation. -/
theorem windowEnded_window (hl : l.val < s.lanes) :
    ∃ v, (s.windowEnded.lane l).window = some v ∧
      (v.closedSeen = true ↔
        (s.display (laneAddr l)).winner = .redX ∨ (s.windowEnded.display (laneAddr l)).winner = .redX) ∧
      v = { openAccum s.msu.nextSeq s.lpi.ms false false (s.windowEnded.loop l .a).fault (s.windowEnded.loop l .b).fault with
        closedSeen := v.closedSeen } := by
  rw [windowEnded_lane, endWindow_lane hl, windowEnded_loop]
  by_cases hx : (s.windowEnded.display (laneAddr l)).winner = .redX ∧ (s.display (laneAddr l)).winner ≠ .redX
  · rw [if_pos hx]
    exact ⟨_, rfl, ⟨fun _ => .inr hx.1, fun _ => rfl⟩, rfl⟩
  · rw [if_neg hx]
    refine ⟨_, rfl, ?_, rfl⟩
    show ((s.display (laneAddr l)).winner == .redX) = true ↔ _
    rw [beq_iff_eq]
    exact ⟨.inl, fun h => h.elim id fun h => by_contra fun hn => hx ⟨h, hn⟩⟩

theorem windowEnded_windowTimer (s : State) : s.windowEnded.msu.windowTimer = some 15000 := by rw [windowEnded_msu]; rfl

theorem windowEnded_nextSeq (s : State) : s.windowEnded.msu.nextSeq = s.msu.nextSeq + 1 := by rw [windowEnded_msu]; rfl

theorem windowEnded_newRing (hl : l.val < s.lanes) {w : Accum} (hw : (s.lane l).window = some w) :
    (s.windowEnded.lane l).ring = pushRecord (s.lane l).ring ((s.lane l).closingRecord w s.lpi.ms) := by
  rw [windowEnded_ring, endWindow_lane hl, closeWindow_eq, hw]

theorem lanesInUse_congr {t : State} (h : t.lanes = s.lanes) : t.lanesInUse = s.lanesInUse := by
  unfold State.lanesInUse; rw [h]

/-- R33: a slow-valid ring is not empty, so it is open unless its newest record is CLOSED. -/
theorem carriageLanes_eq (s : State) :
    s.carriageLanes = s.lanesInUse.filter fun l =>
      decide (4 ≤ ((s.lane l).ring.filter fun r => decide (r.mark = .valid ∨ r.mark = .countOnly)).length ∧
        (s.lane l).ring.getLast?.map WindowRecord.mark ≠ some .closed) := by
  refine List.filter_congr fun l _ => ?_
  rw [Bool.eq_iff_iff, Bool.and_eq_true, decide_eq_true_iff, slowOf_isSome, laneOpen_iff, and_comm]
  refine and_congr_right fun h4 => ?_
  cases hlast : (s.lane l).ring.getLast? with
  | none => rw [List.getLast?_eq_none_iff.1 hlast] at h4; exact absurd h4 (by decide)
  | some r => simp

/-- The occupancy that a lane's ring gives to the carriageway (R32, R34). -/
def slowOcc (ring : List WindowRecord) : Nat :=
  let v := ring.filter fun r => decide (r.mark = .valid ∨ r.mark = .countOnly)
  (v.map WindowRecord.occMs).sum / (15 * v.length)

theorem slowOf_occ {ring : List WindowRecord}
    (h : 4 ≤ (ring.filter fun r => decide (r.mark = .valid ∨ r.mark = .countOnly)).length) :
    (slowOf ring).map (·.occ) = some (slowOcc ring) := by
  rw [slowOf_eq]
  dsimp only
  rw [if_pos h]
  rfl

/-- R33, R34: the carriageway measurement over lanes that are slow-valid. -/
theorem carriageOf_slow {ls : List Lane} (hne : ls ≠ [])
    (h : ∀ l ∈ ls, 4 ≤ ((s.lane l).ring.filter fun r => decide (r.mark = .valid ∨ r.mark = .countOnly)).length) :
    s.carriageOf ls = some
      { speed := pooledSpeed (ls.flatMap fun l => (s.lane l).ring)
        occ := (ls.map fun l => slowOcc (s.lane l).ring).sum / ls.length } := by
  have hocc : (ls.filterMap fun l => (slowOf (s.lane l).ring).map (·.occ)) = ls.map fun l => slowOcc (s.lane l).ring := by
    rw [← List.filterMap_eq_map]
    exact List.filterMap_congr fun l hl => slowOf_occ (h l hl)
  unfold State.carriageOf
  rw [if_neg hne, hocc]
  rfl

/-- Settles O11. -/
theorem windowEndClosesWindows : Obligations.WindowEndClosesWindows := by
  refine ⟨fun s hbus ht => ?_, fun s hbus ht => ?_, fun s hbus ht => ?_⟩
  · have hms : s.windowEnded.lpi.ms = s.lpi.ms := by rw [windowEnded_lpi]; rfl
    have hqueue : s.windowEnded.lpi.queue = s.lpi.queue := by rw [windowEnded_lpi]; rfl
    refine ⟨_, exec_windowEnd hbus ht, windowEnded_sameBut s, hms, hqueue, windowEnded_station s,
      windowEnded_windowTimer s, windowEnded_nextSeq s, fun l w hl hw => ⟨⟨(s.lane l).closingRecord w s.lpi.ms, ?_⟩, ?_⟩⟩
    · obtain ⟨hseq, hcount, hspeeds, hsum, hocc, hoccMs, hmark⟩ := closingRecord_fields (s.lane l) w s.lpi.ms
      exact ⟨windowEnded_newRing hl hw, hseq, hcount, hspeeds, hsum, hocc, hoccMs, hmark⟩
    · obtain ⟨v, hv, hclosed, heq⟩ := windowEnded_window (s := s) hl
      obtain ⟨hfault, hsingle, hrecovery⟩ := openAccum_seen s.msu.nextSeq s.lpi.ms false false
        (s.windowEnded.loop l .a).fault (s.windowEnded.loop l .b).fault
      rw [exists_loop]
      refine ⟨v, hv, ?_⟩
      rw [heq]
      exact ⟨rfl, rfl, rfl, rfl, rfl, rfl, rfl, rfl, hclosed, hfault, hsingle, hrecovery⟩
  · refine ⟨_, exec_windowEnd hbus ht, fun l hl => ?_, ?_⟩
    · rw [windowEnded_fast hl, fastOf_eq, Option.map_map]
      rfl
    · rw [windowEnded_carriage, carriageOf_eq_none, List.eq_nil_iff_forall_not_mem]
      refine forall_congr' fun l => ?_
      rw [mem_carriageLanes, laneOpen_iff, slowOf_isSome, windowEnded_lanes, not_and]
  · refine ⟨_, exec_windowEnd hbus ht, ?_⟩
    intro sum speed valid lanes
    refine ⟨fun l hl x hx => ?_, fun l hl => ?_, fun hlanes => ?_⟩
    · rw [windowEnded_fast hl, fastOf_eq] at hx
      obtain ⟨r, hr, rfl⟩ := Option.map_eq_some_iff.1 hx
      exact ⟨r, (Option.filter_eq_some_iff.1 hr).1, pooledSpeed_eq _⟩
    · rw [windowEnded_slow hl, slowOf_eq, pooledSpeed_eq]
    · have hls : s.windowEnded.carriageLanes = lanes := by
        rw [carriageLanes_eq, lanesInUse_congr (windowEnded_lanes s)]
      rw [windowEnded_carriage, hls,
        carriageOf_slow hlanes fun l hl => (of_decide_eq_true (List.mem_filter.1 hl).2).1, pooledSpeed_eq]
      rfl

end Sys2Proof.Machine
end

section
/-! O13: the beat (R38, R39, R43, R46, R51 to R54, R62). -/

namespace Sys2Proof.Machine

variable {s : State}

/-! ### The state in which a beat's frame is composed -/

/-- R46: the clash fields after a CLASH whose timer has run out is cleared. -/
theorem clearClash_eq (s : State) :
    s.clearClash =
      { s with crl :=
        { s.crl with
          clash := s.crl.clash && decide (s.crl.clashTimer < 30)
          clashTimer := if s.crl.clash = true ∧ 30 ≤ s.crl.clashTimer then 0 else s.crl.clashTimer } } := by
  unfold State.clearClash
  by_cases h : s.crl.clashOver = true
  · obtain ⟨hc, ht⟩ := clashOver_iff.1 h
    rw [if_pos h, if_pos ⟨hc, ht⟩, decide_eq_false (Nat.not_lt.2 ht), Bool.and_false]
  · have hclash : (s.crl.clash && decide (s.crl.clashTimer < 30)) = s.crl.clash := by
      have hnot := mt clashOver_iff.2 h
      cases hc : s.crl.clash with
      | false => rfl
      | true => exact decide_eq_true (by_contra fun hge => hnot ⟨hc, Nat.not_lt.1 hge⟩)
    rw [if_neg h, if_neg fun g => h (clashOver_iff.2 g), hclash]

/-- R39, steps 1 to 4: the state in which the frame of a beat is composed. -/
def State.beatBegun (s : State) : State :=
  { s with crl :=
    { s.crl with
      beatTimer := some 1000, firstBeat := false
      cycle := if s.crl.firstBeat then s.crl.cycle else s.crl.cycle + 1
      version := if s.crl.previousList.getD [] = s.closureEntries then s.crl.version else s.crl.version + 1
      previousList := some s.closureEntries
      repeatCount := if s.crl.previousList.getD [] = s.closureEntries then s.crl.repeatCount else 3
      pendingFrame := if s.crl.phase = .sending then s.crl.pendingFrame else none
      clash := s.crl.clash && decide (s.crl.clashTimer < 30)
      clashTimer :=
        if s.crl.clash = false then s.crl.clashTimer
        else if s.crl.clashTimer < 30 then s.crl.clashTimer + 1 else 0 } }

theorem beatBegun_eq (s : State) :
    ({ s.clearClash with crl := s.clearClash.crl.beatStart.updateVersion s.clearClash.closureEntries } : State) = s.beatBegun := by
  have htimer : (if (s.crl.clash && decide (s.crl.clashTimer < 30)) = true then
        satAdd 30 (if s.crl.clash = true ∧ 30 ≤ s.crl.clashTimer then 0 else s.crl.clashTimer)
      else if s.crl.clash = true ∧ 30 ≤ s.crl.clashTimer then 0 else s.crl.clashTimer) =
      if s.crl.clash = false then s.crl.clashTimer
      else if s.crl.clashTimer < 30 then s.crl.clashTimer + 1 else 0 := by
    unfold satAdd
    cases s.crl.clash with
    | false => simp
    | true => by_cases h : s.crl.clashTimer < 30 <;> simp [h, Nat.not_le.2, Nat.not_lt.1]
  rw [clearClash_eq]
  unfold State.beatBegun Crl.beatStart Crl.updateVersion
  dsimp only
  rw [htimer]
  rfl

/-! ### The handing over (R40, R43) -/

theorem countRepeat_eq (c : Crl) :
    c.countRepeat = { c with repeatCount := c.repeatCount - if c.announceOwed then 0 else 1 } := by
  unfold Crl.countRepeat
  by_cases h : c.announceOwed = true
  · rw [if_pos h, if_pos h]; rfl
  · rw [if_neg h, if_neg h]

theorem hand_eq (c : Crl) (f : TxFrame) :
    c.hand f =
      { c with
        pendingFrame := if c.phase = .sending then c.pendingFrame else some f
        nextFrame := if c.phase = .sending then some f else c.nextFrame
        attempt := if c.phase = .sending then c.attempt else 0
        phase := if c.phase = .sending then .sending else .waitIdle
        backoff := if c.phase = .sending then c.backoff else 0 } := by
  unfold Crl.hand
  by_cases h : c.phase = .sending
  · simp only [h, if_true]
  · simp only [h, if_false]

/-- R39, R62: a beat with nothing left to tell of the last beat's ages. -/
theorem beat_calm (h : ∀ e ∈ s.nbt, e.gone = false ∧ e.newlyStale = false) :
    s.beat =
      { s with
        crl := s.beatBegun.crl.countRepeat.hand ⟨s.beatBegun.composed, true⟩, nbt := s.nbt.map Neighbour.aged } := by
  have hbegun := beatBegun_eq s
  have hcalm := settleAges_calm h
  unfold State.beat State.beatFrame State.ageEntries
  rw [hcalm]
  dsimp only
  rw [← hbegun, clearClash_eq]
  rfl

theorem exec_beat (hbus : s.onBus = true) (ht : s.crl.beatTimer = some 0) : exec .beat s = .next s.beat.drive :=
  congrArg Host.Outcome.next (if_pos ⟨hbus, ht⟩)

theorem composed_isAnnounce (s : State) : s.composed.isAnnounce = s.crl.announceOwed := by
  unfold State.composed
  cases h : s.crl.announceOwed <;> rfl

/-! ### The lane statuses (R52) -/

section

variable (s : State) (a : Addr)

theorem any_slotOf_iff (row : List Request) (lv : Level) (f : Source → Bool) :
    (slotOf row lv).any (fun r => f r.source) = true ↔ ∃ q ∈ row, q.level = lv ∧ f q.source = true := by
  simp [slotOf]

theorem entryWaits_iff_group :
    s.entryWaits a = true ↔ ∃ g ∈ s.asa.queue, ∃ e ∈ g.entries, e.addr = a ∧ e.sent = false := by
  simp [State.entryWaits]

theorem setUnderWay_iff :
    s.setUnderWay a = true ↔
      ∃ t ∈ s.slc.transaction.toList ++ s.slc.retry.toList, t.addr = a ∧ t.command.isSet = true := by
  simp only [State.setUnderWay, List.any_eq_true, Bool.and_eq_true, beq_iff_eq]

end

/-! ### The statement -/

theorem composesFull_iff (c : Crl) :
    c.composesFull = true ↔ 0 < c.repeatCount ∨ c.cycle.toNat % 8 = 0 ∨ c.fullOwed = true := by
  simp [Crl.composesFull, or_assoc]

/-- R46: the CLASH flag that a beat's frame carries. -/
theorem beatBegun_clash (s : State) :
    (s.beatBegun.crl.clash && !s.beatBegun.crl.clashOver) = true ↔ s.crl.clash = true ∧ s.crl.clashTimer < 29 := by
  rw [Bool.and_eq_true, Bool.not_eq_true', ← Bool.not_eq_true, clashOver_iff]
  unfold State.beatBegun
  dsimp only
  cases s.crl.clash with
  | false => simp
  | true =>
    by_cases h : s.crl.clashTimer < 30
    · simp [h]
    · simp [h]; omega

/-- R54: the beat's frame is full. -/
theorem beatBegun_full (s : State) :
    s.beatBegun.crl.composesFull = true ↔
      s.crl.previousList.getD [] ≠ s.closureEntries ∨ 0 < s.crl.repeatCount ∨ s.beatBegun.crl.cycle.toNat % 8 = 0 ∨
        s.crl.fullOwed = true := by
  rw [composesFull_iff]
  show 0 < (if s.crl.previousList.getD [] = s.closureEntries then s.crl.repeatCount else 3) ∨ _ ↔ _
  by_cases h : s.crl.previousList.getD [] = s.closureEntries
  · simp only [h, if_true, ne_eq, not_true, false_or]
    rfl
  · simp [h]

theorem beat_sameBut (h : ∀ e ∈ s.nbt, e.gone = false ∧ e.newlyStale = false) : s.sameBut [.crl, .nbt] s.beat := by
  rw [beat_calm h]
  simp [State.sameBut]

theorem beat_crl (h : ∀ e ∈ s.nbt, e.gone = false ∧ e.newlyStale = false) :
    s.beat.crl = s.beatBegun.crl.countRepeat.hand ⟨s.beatBegun.composed, true⟩ := by rw [beat_calm h]

theorem beat_cycle (h : ∀ e ∈ s.nbt, e.gone = false ∧ e.newlyStale = false) :
    s.beat.crl.cycle = s.beatBegun.crl.cycle ∧ s.beat.crl.version = s.beatBegun.crl.version := by
  rw [beat_crl h, hand_eq, countRepeat_eq]
  exact ⟨rfl, rfl⟩

/-- Settles O13. -/
theorem beatComposesFrameAndAges : Obligations.BeatComposesFrameAndAges := by
  refine ⟨fun s hbus ht hcalm => ?_, fun s hbus ht hphase hcalm => ?_, fun s l => ?_⟩
  · refine ⟨s.beat, ⟨s.beatBegun.composed, true⟩, exec_beat hbus ht, beat_sameBut hcalm, ?_, rfl,
      composed_isAnnounce _, ?_⟩
    · rw [beat_crl hcalm, hand_eq, countRepeat_eq]
      unfold State.beatBegun
      by_cases hp : s.crl.phase = .sending
      · simp only [hp, if_true]
      · simp only [hp, if_false]
    · rw [beat_calm hcalm]
      rfl
  · obtain ⟨hcycle, hversion⟩ := beat_cycle hcalm
    refine ⟨_, ⟨s.beatBegun.composed, true⟩, exec_beat hbus ht, ?_, fun ha => ?_, fun ha => ?_⟩
    · rw [drive_crl, beat_crl hcalm, hand_eq, countRepeat_eq]
      exact if_neg hphase
    · rw [drive_crl, hcycle]
      exact if_pos ha
    · rw [drive_crl, hcycle, hversion]
      refine ⟨s.beatBegun.stateFrame, if_neg (by rw [show s.beatBegun.crl.announceOwed = false from ha]; decide), rfl, rfl,
        beq_iff_eq, rfl, Option.isNone_iff_eq_none, rfl, rfl, beatBegun_clash s, ?_, rfl, rfl, rfl, rfl, rfl, ?_⟩
      · show (!s.clt.refused.isEmpty) = true ↔ _
        simp
      · exact if_congr (beatBegun_full s) rfl rfl
  · intro down atFailed orphan changing
    have hat : ((s.display (laneAddr l)).winner = .redX ∧
        (slotOf (s.display (laneAddr l)).row .closed).any (fun r => r.source.isClosure) = true ∧
        ((s.mod (laneAddr l)).state = .failed ∨ (s.mod (laneAddr l)).state = .absent ∨
          canShow (s.mod (laneAddr l)).repertoire .redX = false)) ↔ atFailed := by
      rw [any_slotOf_iff, ← or_assoc]
    have horphan : (slotOf (s.display (laneAddr l)).row .closed).any (fun r => r.source.isOrphan) = true ↔ orphan :=
      any_slotOf_iff ..
    have hchanging : (s.slc.link = .held ∨ (s.mod (laneAddr l)).state = .changing ∨ s.entryWaits (laneAddr l) = true ∨
        s.setUnderWay (laneAddr l) = true) ↔ changing := by
      rw [entryWaits_iff_group, setUnderWay_iff]
    have hstatus : s.laneStatus l = _ := State.laneStatus.eq_def s l
    dsimp only at hstatus
    refine ⟨fun h1 => ?_, fun h1 h2 => ?_, fun h1 h2 h3 => ?_, fun h1 h2 h3 h4 => ?_, fun h1 h2 h3 h4 h5 => ?_,
      fun h1 h2 h3 h4 h5 => ?_⟩
    · rw [hstatus, if_pos (hat.2 h1)]
    · rw [hstatus, if_neg (mt hat.1 h1), if_pos (horphan.2 h2)]
    · rw [hstatus, if_neg (mt hat.1 h1), if_neg (mt horphan.1 h2), if_pos h3]
    · rw [hstatus, if_neg (mt hat.1 h1), if_neg (mt horphan.1 h2), if_neg h3, if_pos h4]
    · rw [hstatus, if_neg (mt hat.1 h1), if_neg (mt horphan.1 h2), if_neg h3, if_neg (by rw [h4]; decide),
        if_pos (hchanging.2 h5)]
    · rw [hstatus, if_neg (mt hat.1 h1), if_neg (mt horphan.1 h2), if_neg h3, if_neg (by rw [h4]; decide),
        if_neg (mt hchanging.1 h5)]

end Sys2Proof.Machine
end

section
/-! O14: what a beat's ages tell (R62, R64, R67, R68). -/

namespace Sys2Proof.Machine

variable {s : State} {p : Nat}

/-! ### The step partner (R64) -/

theorem stepPartner_congr {t : State} (hstu : t.stu.straps = s.stu.straps) (hnbt : t.nbt = s.nbt) :
    t.stepPartner = s.stepPartner := by
  unfold State.stepPartner State.entryAt State.offset State.position
  rw [hstu, hnbt]

theorem isolatedDownNow_congr {t : State} (hstu : t.stu.straps = s.stu.straps) (hnbt : t.nbt = s.nbt) :
    t.isolatedDownNow = s.isolatedDownNow := by
  unfold State.isolatedDownNow
  rw [stepPartner_congr hstu hnbt, hstu]

theorem isolatedDownNow_iff : s.isolatedDownNow = true ↔ s.stu.straps.terminal = false ∧ s.stepPartner = none := by
  simp [State.isolatedDownNow]

theorem stepPartner_some {k : Nat} {e : Neighbour} (h : s.stepPartner = some (k, e)) :
    e ∈ s.nbt ∧ s.offset e.position = k ∧ e.settled = true ∧ e.signsDown = false := by
  obtain ⟨j, -, hj⟩ := List.exists_of_findSome?_eq_some h
  split at hj
  case h_2 => cases hj
  case h_1 x hx =>
    split at hj
    case isFalse => cases hj
    case isTrue hgood =>
      obtain ⟨rfl, rfl⟩ := Prod.mk.inj (Option.some.inj hj)
      have hfound := List.find?_some hx
      simp only [Bool.and_eq_true, beq_iff_eq, Bool.not_eq_true'] at hfound hgood
      exact ⟨List.mem_of_find?_eq_some hx, hfound.1, hgood.1, hgood.2⟩

theorem fresh_of_settled {e : Neighbour} (h : e.settled = true) : e.age ≤ 3 := by
  simp only [Neighbour.settled, Neighbour.fresh, Bool.and_eq_true, decide_eq_true_eq] at h
  exact h.1

theorem eq_of_position {e x : Neighbour} (h : s.neighboursSound) (he : e ∈ s.nbt) (hx : x ∈ s.nbt)
    (hp : e.position = x.position) : e = x :=
  List.inj_on_of_nodup_map (((rising_iff_pairwise _).1 h.1).imp Nat.ne_of_lt) he hx hp

/-! ### ISOLATED_DOWN after a recomputation and a closure event (R83) -/

theorem recompute_isolatedDown (s : State) : s.recompute.spc.isolatedDown = s.isolatedDownNow := by rw [recompute_spc]

/-- An event of the Closure Table is settled, and told to the Speed Computer where it has to be. -/
theorem closureEvent_cases (s : State) (f : Work → Work) :
    (f ⟨s, false⟩).tell = true ∧ s.closureEvent f = (f ⟨s, false⟩).s.settle.recompute ∨
      (f ⟨s, false⟩).tell = false ∧ s.closureEvent f = (f ⟨s, false⟩).s.settle := by
  unfold State.closureEvent
  dsimp only
  cases h : (f ⟨s, false⟩).tell
  · exact .inr ⟨rfl, if_neg (by decide)⟩
  · exact .inl ⟨rfl, if_pos rfl⟩

theorem closureEvent_isolatedDown {f : Work → Work} (h : WorkRun ⟨s, false⟩ (f ⟨s, false⟩))
    (hs : s.spc.isolatedDown = s.isolatedDownNow) : (s.closureEvent f).spc.isolatedDown = s.isolatedDownNow := by
  have hsame : SameButClosures s (f ⟨s, false⟩).s := h.same
  have hsettled := settle_same (f ⟨s, false⟩).s
  rcases closureEvent_cases s f with ⟨-, heq⟩ | ⟨-, heq⟩
  · rw [heq, recompute_isolatedDown]
    exact isolatedDownNow_congr (by rw [hsettled.stu, hsame.stu]) (by rw [hsettled.nbt, hsame.nbt])
  · rw [heq, hsettled.spc, h.spc, hs]

theorem noticeClosure_isolatedDown (p : Nat) (n : Notices) (es : List ClosureEntry)
    (hs : s.spc.isolatedDown = s.isolatedDownNow) : (s.noticeClosure p n es).spc.isolatedDown = s.isolatedDownNow := by
  unfold State.noticeClosure
  split
  · exact closureEvent_isolatedDown ((reflTransGen_foldl _ (fun _ _ => .single (.adopt ..)) es _).trans
      (reflTransGen_foldl _ (fun _ _ => .single (.notice ..)) _ _)) hs
  · exact hs

/-! ### What is told of an entry (R67, R68) -/

/-- R67: a notice of everything about an entry downstream makes ISOLATED_DOWN say what the table holds. -/
theorem tell_isolatedDown (hp : 0 < s.offset p) (es : List ClosureEntry) :
    (s.tell p .all es).spc.isolatedDown = s.isolatedDownNow := by
  have hnow : s.recompute.isolatedDownNow = s.isolatedDownNow :=
    isolatedDownNow_congr (by rw [(recompute_same s).stu]) (recompute_same s).nbt
  have hspeed : s.noticeSpeed p .all = s.recompute := by
    unfold State.noticeSpeed
    rw [if_pos hp]
    exact if_pos rfl
  unfold State.tell
  rw [hspeed, noticeClosure_isolatedDown _ _ _ ((recompute_isolatedDown s).trans hnow.symm), hnow]

/-- The outcome of an event that tells everything about the entry for a position. -/
theorem told_outcome (s : State) (p : Nat) :
    let t := (s.tell p .all []).drive
    s.sameBut [.stu, .msu, .nbt, .spc, .clt, .asa] t ∧ t.nbt = s.nbt ∧ t.stu.station = s.stu.station ∧
      t.stepPartner = s.stepPartner ∧
      (0 < s.offset p → (t.spc.isolatedDown = true ↔ s.stu.straps.terminal = false ∧ t.stepPartner = none)) := by
  have hsame := tell_same s p .all []
  have hpartner : (s.tell p .all []).drive.stepPartner = s.stepPartner :=
    stepPartner_congr (by rw [drive_straps, hsame.stu]) (by rw [drive_nbt, hsame.nbt])
  refine ⟨(hsame.sameBut.mono (by simp)).trans ((drive_sameBut _).mono (by simp)), by rw [drive_nbt, hsame.nbt],
    by rw [drive_station, hsame.stu], hpartner, fun hp => ?_⟩
  rw [drive_isolatedDown, tell_isolatedDown hp, hpartner, isolatedDownNow_iff]

theorem nbt_sameBut (s : State) (es : List Neighbour) : s.sameBut [.stu, .msu, .nbt, .spc, .clt, .asa] { s with nbt := es } := by
  simp [State.sameBut]

theorem newlyStale_iff {e : Neighbour} : e.newlyStale = true ↔ e.staleDue = true ∧ 4 ≤ e.age ∧ e.age < 10 := by
  simp [Neighbour.newlyStale, Neighbour.gone, and_assoc]

/-- Settles O14. -/
theorem agedEntriesTold : Obligations.AgedEntriesTold := by
  refine ⟨fun s p hbus ⟨e, he, hep, hstale⟩ => ?_, fun s p hbus ⟨e, he, hep, hage⟩ => ?_⟩
  · have hany : s.nbt.any (fun e => e.position == p && e.newlyStale) = true :=
      List.any_eq_true.2 ⟨e, he, by rw [hstale, hep]; simp⟩
    obtain ⟨hframe, hnbt, hstation, hpartner, hiso⟩ := told_outcome
      { s with nbt := s.nbt.map fun e => if e.position = p then e.toldStale else e } p
    refine ⟨_, congrArg Host.Outcome.next (if_pos ⟨hbus, hany⟩), (nbt_sameBut s _).trans hframe, hnbt, hstation, hiso,
      fun hsound k x hx => ?_⟩
    obtain ⟨hmem, -, hsettled, -⟩ := stepPartner_some (hpartner.symm.trans hx)
    obtain ⟨y, hy, rfl⟩ := List.mem_map.1 hmem
    intro hxp
    by_cases hyp : y.position = p
    · rw [if_pos hyp] at hsettled
      obtain rfl := eq_of_position hsound hy he (hyp.trans hep.symm)
      exact absurd (fresh_of_settled hsettled) (by have := (newlyStale_iff.1 hstale).2.1; exact Nat.not_le.2 this)
    · rw [if_neg hyp] at hxp
      exact hyp hxp
  · have hany : s.nbt.any (fun e => e.position == p && e.gone) = true :=
      List.any_eq_true.2 ⟨e, he, by simp [hep, Neighbour.gone, hage]⟩
    have hdrop : s.dropNeighbour p = { s with nbt := s.nbt.filter fun e => e.position ≠ p } := by
      unfold State.dropNeighbour
      have hfilter : (s.nbt.filter fun e => e.position != p) = s.nbt.filter fun e => decide (e.position ≠ p) :=
        List.filter_congr fun e _ => by rw [Bool.eq_iff_iff, bne_iff_ne, decide_eq_true_iff]
      rw [hfilter]
    obtain ⟨hframe, hnbt, hstation, hpartner, hiso⟩ := told_outcome
      { s with nbt := s.nbt.filter fun e => e.position ≠ p } p
    have hexec : exec (.entryRemoved p) s =
        .next (State.tell { s with nbt := s.nbt.filter fun e => e.position ≠ p } p .all []).drive := by
      rw [← hdrop]
      exact congrArg Host.Outcome.next (if_pos ⟨hbus, hany⟩)
    refine ⟨_, hexec, (nbt_sameBut s _).trans hframe, hnbt, hstation, hiso, fun k x hx => ?_⟩
    obtain ⟨hmem, -, -, -⟩ := stepPartner_some (hpartner.symm.trans hx)
    exact of_decide_eq_true (List.mem_filter.1 hmem).2

end Sys2Proof.Machine
end

section
/-! O21: an accepted ANNOUNCE (R50, R54, R61). -/

namespace Sys2Proof.Machine

variable {s : State}

/-! ### The table after an entry is put in -/

theorem find_insertNeighbour_same {e : Neighbour} (he : e.age < 10) (es : List Neighbour) :
    (insertNeighbour e es).find? (fun x => x.position == e.position && decide (x.age < 10)) = some e := by
  have hself : (e.position == e.position && decide (e.age < 10)) = true := by simp [he]
  induction es with
  | nil => exact List.find?_cons_of_pos hself
  | cons x rest ih =>
    unfold insertNeighbour
    split
    · exact List.find?_cons_of_pos hself
    · split
      · exact List.find?_cons_of_pos hself
      · rename_i hne
        rw [List.find?_cons_of_neg (by simp [Ne.symm hne]), ih]

theorem find_insertNeighbour_other {e : Neighbour} {p : Nat} (hp : p ≠ e.position) (es : List Neighbour) :
    (insertNeighbour e es).find? (fun x => x.position == p && decide (x.age < 10)) =
      es.find? fun x => x.position == p && decide (x.age < 10) := by
  have hother : ∀ x : Neighbour, e.position = x.position → (x.position == p && decide (x.age < 10)) = false := by
    rintro x hx
    simp [← hx, Ne.symm hp]
  induction es with
  | nil => rw [insertNeighbour, List.find?_cons, hother e rfl]
  | cons x rest ih =>
    unfold insertNeighbour
    split
    · rw [List.find?_cons, hother e rfl]
    · split
      · rename_i heq
        rw [List.find?_cons, hother e rfl, List.find?_cons, hother x heq]
      · simp only [List.find?_cons, ih]

theorem entryFor_putNeighbour_same {e : Neighbour} (he : e.age < 10) : (s.putNeighbour e).entryFor e.position = some e :=
  find_insertNeighbour_same he _

theorem entryFor_putNeighbour_other {e : Neighbour} {p : Nat} (hp : p ≠ e.position) :
    (s.putNeighbour e).entryFor p = s.entryFor p :=
  find_insertNeighbour_other hp _

theorem entryFor_congr {t : State} (h : t.nbt = s.nbt) (p : Nat) : t.entryFor p = s.entryFor p := by
  unfold State.entryFor; rw [h]

/-! ### The entry of an ANNOUNCE's sender (R61) -/

theorem announceEntry_same (s : State) (p : Nat) (k : RestartKind) :
    s.sameBut [.stu, .msu, .nbt, .spc, .clt, .asa] (s.announceEntry p k) ∧ (s.announceEntry p k).crl = s.crl := by
  unfold State.announceEntry
  split
  · exact ⟨by simp [State.sameBut], rfl⟩
  · rename_i old _
    have hsame := tell_same (s.putNeighbour (old.announced k)) p (arrivalNotices (some old) (old.announced k) false) []
    exact ⟨(nbt_sameBut s _).trans (hsame.sameBut.mono (by simp)), hsame.crl⟩

theorem announceEntry_entryFor_same (s : State) (p : Nat) (k : RestartKind) :
    (s.announceEntry p k).entryFor p = (s.entryFor p).map (·.announced k) := by
  unfold State.announceEntry
  split
  · rename_i hnone
    rw [hnone]; rfl
  · rename_i old hold
    have hsame := tell_same (s.putNeighbour (old.announced k)) p (arrivalNotices (some old) (old.announced k) false) []
    have hpos : (old.announced k).position = p := (entryFor_position s hold :)
    rw [entryFor_congr hsame.nbt, hold, ← hpos]
    exact entryFor_putNeighbour_same (e := old.announced k) (Nat.zero_lt_succ 9)

theorem announceEntry_entryFor_other (s : State) {p q : Nat} (k : RestartKind) (h : q ≠ p) :
    (s.announceEntry p k).entryFor q = s.entryFor q := by
  unfold State.announceEntry
  split
  · rfl
  · rename_i old hold
    have hsame := tell_same (s.putNeighbour (old.announced k)) p (arrivalNotices (some old) (old.announced k) false) []
    have hpos : (old.announced k).position = p := (entryFor_position s hold :)
    rw [entryFor_congr hsame.nbt]
    exact entryFor_putNeighbour_other (by rw [hpos]; exact h)

/-! ### The frames that wait (R54) -/

theorem oweFull_answers (c : Crl) :
    (∀ x, c.oweFull.pendingFrame = some x → x.answersOwed = false) ∧
      ∀ x, c.oweFull.nextFrame = some x → x.answersOwed = false := by
  refine ⟨fun x hx => ?_, fun x hx => ?_⟩
  · obtain ⟨y, -, rfl⟩ := Option.map_eq_some_iff.1 hx; rfl
  · obtain ⟨y, -, rfl⟩ := Option.map_eq_some_iff.1 hx; rfl

/-- R54: a frame that does not answer what is owed leaves it owed. -/
theorem sentFrame_fullOwed {c : Crl} (h : ∀ x, c.pendingFrame = some x → x.answersOwed = false) :
    c.sentFrame.fullOwed = c.fullOwed := by
  unfold Crl.sentFrame
  rw [promote_eq]
  dsimp only
  cases hp : c.pendingFrame with
  | none => rfl
  | some f => simp [Crl.clearOwed, h f hp]

theorem exec_frameSent (h : s.crl.phase = .sending) :
    exec .frameSent s = .next { s with crl := { s.crl.sentFrame with idleBits := 0 } } :=
  congrArg Host.Outcome.next (if_pos h)

theorem takeFrame_announce {r : Received} {k : RestartKind} (hk : r.kind = .announce) (hr : announceOf r.payload = some k) :
    s.takeFrame r = s.takeAnnounce r.sender k := by
  simp [State.takeFrame, hk, hr]

theorem takeAnnounce_other {p : Nat} {k : RestartKind} (h : p ≠ s.position) :
    s.takeAnnounce p k =
      if s.inRange p = true then ({ s with crl := s.crl.oweFull } : State).announceEntry p k else s :=
  if_neg h

/-- Settles O21. -/
theorem announceOwesFullFrame : Obligations.AnnounceOwesFullFrame := by
  intro s f r k hbus hcalm hf hk hr hsender
  have hexec : exec (.announceReceived f) s =
      .next (State.takeAnnounce { s with crl := { s.crl with receiver := .ready, idleBits := 10 } } r.sender k).drive := by
    rw [show Instr.announceReceived f = r.kind.received f from by rw [hk]; rfl, exec_received,
      receive_of_checkFrame hbus hcalm hf, takeFrame_announce hk hr]
  rw [takeAnnounce_other (s := { s with crl := { s.crl with receiver := .ready, idleBits := 10 } }) hsender] at hexec
  refine ⟨fun hin => ?_, fun hout => ?_⟩
  · rw [if_pos (show State.inRange { s with crl := { s.crl with receiver := .ready, idleBits := 10 } } r.sender = true
      from hin)] at hexec
    generalize hu : ({ s with crl := Crl.oweFull { s.crl with receiver := .ready, idleBits := 10 } } : State) = u at hexec
    obtain ⟨hframe, hcrl⟩ := announceEntry_same u r.sender k
    have hucrl : u.crl = Crl.oweFull { s.crl with receiver := .ready, idleBits := 10 } := by rw [← hu]
    have hunbt : u.nbt = s.nbt := by rw [← hu]
    have hsu : s.sameBut [.stu, .msu, .crl, .nbt, .spc, .clt, .asa] u := by rw [← hu]; simp [State.sameBut]
    have howed := oweFull_answers { s.crl with receiver := .ready, idleBits := 10 }
    rw [← hucrl, ← hcrl] at howed
    refine ⟨_, hexec, ?_, ?_, howed.1, howed.2, ?_, fun hsending => ?_, ?_, fun p hp => ?_⟩
    · exact (hsu.trans (hframe.mono (by simp))).trans ((drive_sameBut _).mono (by simp))
    · rw [drive_crl, hcrl, hucrl]; rfl
    · rw [drive_crl, hcrl, hucrl]; rfl
    · refine ⟨_, exec_frameSent (by rw [drive_crl, hcrl, hucrl]; exact hsending), ?_⟩
      show (Crl.sentFrame _).fullOwed = true
      rw [drive_crl, sentFrame_fullOwed howed.1, hcrl, hucrl]
      rfl
    · rw [entryFor_congr (drive_nbt _), announceEntry_entryFor_same, entryFor_congr hunbt]
      rfl
    · rw [entryFor_congr (drive_nbt _), announceEntry_entryFor_other _ _ hp, entryFor_congr hunbt]
  · rw [if_neg (show ¬ State.inRange { s with crl := { s.crl with receiver := .ready, idleBits := 10 } } r.sender = true
      from Bool.not_eq_true _ ▸ hout)] at hexec
    exact hexec

end Sys2Proof.Machine
end

section
/-! O18 and O19: the corridor frames as bytes (R44, R190). -/

namespace Sys2Proof.Machine

/-! ### Numbers as bytes -/

theorem word16_bytes16 {n : Nat} (h : n < 65536) : word16 (BitVec.ofNat 8 (n / 256)) (BitVec.ofNat 8 n) = n := by
  simp only [word16, BitVec.toNat_ofNat]
  omega

theorem length_bytes16 (n : Nat) : (bytes16 n).length = 2 := rfl

theorem frameKindOf_code (k : FrameKind) : frameKindOf k.code = some k := by cases k <;> rfl

/-! ### The frame around a payload (R44) -/

variable {k : FrameKind} {sender : Nat} {cycle : Cycle} {payload : List Byte}

/-- The seven bytes of sync and header. -/
def frameHeader (k : FrameKind) (sender : Nat) (cycle : Cycle) (payload : List Byte) : List Byte :=
  [syncByte, k.code, BitVec.ofNat 8 (sender / 256), BitVec.ofNat 8 sender, BitVec.ofNat 8 (cycle.toNat / 256),
    BitVec.ofNat 8 cycle.toNat, BitVec.ofNat 8 payload.length]

/-- The CRC of a frame's header and payload, as its two bytes. -/
def frameCrc (k : FrameKind) (sender : Nat) (cycle : Cycle) (payload : List Byte) : List Byte :=
  bytes16 (crc16 ((frameHeader k sender cycle payload).tail ++ payload)).toNat

theorem frameBytes_eq (k : FrameKind) (sender : Nat) (cycle : Cycle) (payload : List Byte) :
    frameBytes k sender cycle payload =
      frameHeader k sender cycle payload ++ (payload ++ frameCrc k sender cycle payload) := rfl

theorem length_frameBytes (k : FrameKind) (sender : Nat) (cycle : Cycle) (payload : List Byte) :
    (frameBytes k sender cycle payload).length = payload.length + 9 := by
  rw [frameBytes_eq, List.length_append, List.length_append]
  simp only [frameHeader, frameCrc, length_bytes16, List.length_cons, List.length_nil]
  omega

/-- R44: bytes after a header that are not payload and CRC, because their number is wrong, are discarded. -/
theorem checkFrame_length (hp : payload.length ≤ 200) {rest : List Byte} (h : rest.length ≠ payload.length + 2) (b : Bool) :
    checkFrame ⟨frameHeader k sender cycle payload ++ rest, b⟩ = none := by
  have hlen : (BitVec.ofNat 8 payload.length).toNat = payload.length := by rw [BitVec.toNat_ofNat]; omega
  unfold checkFrame frameHeader
  cases b
  · simp [hlen, h]
  · rfl

theorem checkFrame_short {bs : List Byte} (h : bs.length < 7) (b : Bool) : checkFrame ⟨bs, b⟩ = none := by
  unfold checkFrame
  cases b
  · rcases bs with _ | ⟨b0, _ | ⟨b1, _ | ⟨b2, _ | ⟨b3, _ | ⟨b4, _ | ⟨b5, _ | ⟨b6, bs⟩⟩⟩⟩⟩⟩⟩
    case cons.cons.cons.cons.cons.cons.cons => simp at h; omega
    all_goals rfl
  · rfl

theorem checkFrame_framingError (bs : List Byte) : checkFrame ⟨bs, true⟩ = none := rfl

theorem checkFrame_frameBytes (hp : payload.length ≤ 200) (hs : k.fromStation = true → 1 ≤ sender ∧ sender ≤ 999)
    (hg : k.fromStation = false → 1000 ≤ sender ∧ sender ≤ 1015) :
    checkFrame ⟨frameBytes k sender cycle payload, false⟩ = some ⟨k, sender, cycle, payload⟩ := by
  have hlen : (BitVec.ofNat 8 payload.length).toNat = payload.length := by rw [BitVec.toNat_ofNat]; omega
  have hsender : sender ≠ 0 ∧ sender ≤ 1015 := by
    cases hk : k.fromStation
    · have := hg hk; omega
    · have := hs hk; omega
  have hword : word16 (BitVec.ofNat 8 (sender / 256)) (BitVec.ofNat 8 sender) = sender := word16_bytes16 (by omega)
  have hcycle : word16 (BitVec.ofNat 8 (cycle.toNat / 256)) (BitVec.ofNat 8 cycle.toNat) = cycle.toNat :=
    word16_bytes16 (by have := cycle.isLt; omega)
  rw [frameBytes_eq]
  unfold checkFrame frameHeader
  simp only [Bool.false_eq_true, if_false, List.cons_append, List.nil_append, hlen, List.take_left', List.drop_left', hword,
    hcycle, frameKindOf_code]
  rw [if_neg (by simp), if_neg (by omega), if_neg (by simp [frameCrc, length_bytes16]), if_neg, if_neg (by omega), if_neg, if_neg]
  · simp
  · rintro ⟨hk, h⟩; have := hg hk; omega
  · rintro ⟨hk, h⟩; have := hs hk; omega
  · simp [frameCrc, frameHeader]

theorem checkFrame_take (hp : payload.length ≤ 200) {n : Nat} (hn : n < (frameBytes k sender cycle payload).length) :
    checkFrame ⟨(frameBytes k sender cycle payload).take n, false⟩ = none := by
  rw [length_frameBytes] at hn
  by_cases h7 : n < 7
  · exact checkFrame_short (by rw [List.length_take]; omega) _
  · have hheader : (frameHeader k sender cycle payload).length = 7 := rfl
    rw [frameBytes_eq, List.take_append, List.take_of_length_le (by omega)]
    refine checkFrame_length hp ?_ _
    simp only [List.length_take, List.length_append, frameCrc, length_bytes16, hheader]
    omega

theorem checkFrame_append (hp : payload.length ≤ 200) (b : Byte) :
    checkFrame ⟨frameBytes k sender cycle payload ++ [b], false⟩ = none := by
  rw [frameBytes_eq, List.append_assoc]
  refine checkFrame_length hp ?_ _
  simp [frameCrc, length_bytes16]

/-! ### The payload lengths (R190) -/

theorem closeOf_ne_none (payload : List Byte) : closeOf payload ≠ none ↔ payload.length = 11 := by
  constructor
  · unfold closeOf
    split <;> simp
  · intro h
    match payload, h with
    | [_, _, _, _, _, _, _, _, _, _, _], _ => simp [closeOf]

theorem releaseOf_ne_none (payload : List Byte) : releaseOf payload ≠ none ↔ payload.length = 4 := by
  constructor
  · unfold releaseOf
    split <;> simp
  · intro h
    match payload, h with
    | [_, _, _, _], _ => simp [releaseOf]

theorem ceilingOf_ne_none (payload : List Byte) : ceilingOf payload ≠ none ↔ payload.length = 9 := by
  constructor
  · unfold ceilingOf
    split <;> simp
  · intro h
    match payload, h with
    | [_, _, _, _, _, _, _, _, _], _ => simp [ceilingOf]

theorem orphanClearOf_ne_none (payload : List Byte) : orphanClearOf payload ≠ none ↔ payload.length = 3 := by
  constructor
  · unfold orphanClearOf
    split <;> simp
  · intro h
    match payload, h with
    | [_, _, _], _ => simp [orphanClearOf]

theorem announceOf_ne_none (payload : List Byte) : announceOf payload ≠ none ↔ payload = [0x00#8] ∨ payload = [0x01#8] := by
  unfold announceOf
  split
  · unfold restartKindOf
    rename_i b
    by_cases h0 : b = 0x00#8
    · simp [h0]
    · by_cases h1 : b = 0x01#8 <;> simp [h0, h1]
  · rename_i hne
    exact ⟨fun h => absurd rfl h, fun h => h.elim (fun h => (hne _ h).elim) fun h => (hne _ h).elim⟩

theorem length_of_allSome {α : Type} {xs : List (Option α)} {ys : List α} (h : allSome xs = some ys) : ys.length = xs.length := by
  induction xs generalizing ys with
  | nil => cases h; rfl
  | cons x xs ih =>
    unfold allSome at h
    split at h
    · cases h; rw [List.length_cons, List.length_cons, ih ‹_›]
    · cases h

theorem length_of_closureEntriesOf {bs : List Byte} {es : List ClosureEntry} (h : closureEntriesOf bs = some es) :
    bs.length = 10 * es.length := by
  induction bs using closureEntriesOf.induct generalizing es with
  | case1 => cases h; rfl
  | case2 b0 b1 b2 b3 b4 b5 b6 b7 b8 b9 rest e tail htail hhead ih =>
    rw [closureEntriesOf, hhead, htail] at h
    cases h
    simp only [List.length_cons, ih htail]
    omega
  | case3 b0 b1 b2 b3 b4 b5 b6 b7 b8 b9 rest hbad =>
    rw [closureEntriesOf] at h
    split at h
    · exact (hbad _ _ ‹_› ‹_›).elim
    · cases h
  | case4 bs hnil hten =>
    rw [closureEntriesOf.eq_3 _ hnil hten] at h
    cases h

theorem stateFrameOf_lengths {r : Received} {f : StateFrame} (h : stateFrameOf r = some f) :
    2 ≤ f.laneCount ∧ f.laneCount ≤ 6 ∧ f.lanes.length = f.laneCount ∧
      r.payload.length = 8 + f.laneCount + 10 * (f.entries.getD []).length := by
  unfold stateFrameOf at h
  split at h
  case h_2 => cases h
  case h_1 fl tl pl n ver spd oh ol rest hpayload =>
    split at h
    case isTrue => cases h
    case isFalse hcount =>
    split at h
    case isTrue => cases h
    case isFalse hlong =>
    split at h
    case h_2 => cases h
    case h_1 target posted lanes es _ _ hlanes hes =>
    split at h
    case isTrue => cases h
    case isFalse hshort =>
    split at h
    case isTrue => cases h
    case isFalse =>
    cases h
    have hlen := length_of_closureEntriesOf hes
    have hlanesLen := length_of_allSome hlanes
    rw [List.length_map, List.length_take] at hlanesLen
    rw [List.length_drop] at hlen
    have hentries : ((if fl.getLsbD 0 = true then some es else none).getD []).length = es.length := by
      cases hfull : fl.getLsbD 0 with
      | true => rfl
      | false =>
        have hnil : es = [] := by_contra fun hne => hshort ⟨hfull, hne⟩
        rw [hnil]; rfl
    refine ⟨by dsimp only; omega, by dsimp only; omega, by dsimp only; omega, ?_⟩
    rw [hpayload]
    dsimp only
    rw [hentries]
    simp only [List.length_cons]
    omega

/-- Settles O18. -/
theorem frameBytesAccepted : Obligations.FrameBytesAccepted :=
  fun _ _ _ payload hp hs hg =>
    ⟨checkFrame_frameBytes hp hs hg, fun _ => checkFrame_take hp, checkFrame_append hp, checkFrame_framingError _,
      closeOf_ne_none payload, releaseOf_ne_none payload, ceilingOf_ne_none payload, orphanClearOf_ne_none payload,
      announceOf_ne_none payload, fun _ => stateFrameOf_lengths⟩

/-! ### The codes of a STATE payload -/

theorem limitOfCode_code (x : Limit) : limitOfCode (BitVec.ofNat 8 x.code).toNat = some x := by cases x <;> rfl

theorem aspectOfCode_code (a : Aspect) : aspectOfCode a.code = some a := by cases a <;> rfl

theorem laneStatusOf_code (x : LaneStatus) : laneStatusOf x.code = some x := by cases x <;> rfl

theorem laneStatus_code_lt (x : LaneStatus) : x.code < 16 := by cases x <;> decide

theorem stage_code_lt (x : Stage) : x.code < 8 := by cases x <;> decide

theorem laneEntryOf_byte {e : LaneEntry} (h : e.aspect.code ≤ 9) : laneEntryOf e.byte = some e := by
  have hst := laneStatus_code_lt e.status
  have hbyte : e.byte.toNat = e.aspect.code * 16 + e.status.code := by
    unfold LaneEntry.byte
    rw [BitVec.toNat_ofNat]
    omega
  have hhigh : e.byte.toNat / 16 = e.aspect.code := by omega
  have hlow : e.byte.toNat % 16 = e.status.code := by omega
  unfold laneEntryOf
  rw [hhigh, hlow, if_neg (by omega), aspectOfCode_code, laneStatusOf_code]

theorem allSome_map {α : Type} {f : α → Byte} {g : Byte → Option α} {xs : List α} (h : ∀ x ∈ xs, g (f x) = some x) :
    allSome ((xs.map f).map g) = some xs := by
  induction xs with
  | nil => rfl
  | cons x xs ih =>
    simp only [List.map_cons, allSome, h x List.mem_cons_self, ih fun y hy => h y (List.mem_cons_of_mem x hy)]

/-- R190: the flags byte of a closure entry, with the stage in its low bits. -/
theorem stageByte_fields (full pending subst : Bool) (x : Stage) :
    let b : Byte := BitVec.ofNat 8 (flagBit full 128 + flagBit pending 64 + flagBit subst 32 + x.code)
    stageOf (b.toNat % 8) = some x ∧ b.getLsbD 7 = full ∧ b.getLsbD 6 = pending ∧ b.getLsbD 5 = subst := by
  revert full pending subst
  cases x <;> decide

/-- R54: what a closure entry's fields are bounded by. -/
def ClosureEntry.inRange (e : ClosureEntry) : Prop :=
  e.id ≤ 255 ∧ e.anchor ≤ 65535 ∧ e.firstLane ≤ 15 ∧ e.width ≤ 15 ∧ e.leadIn ≤ 255 ∧ e.minutes ≤ 1440 ∧
    e.leadSpeed ≠ .v100 ∧ e.leadSpeed ≠ .unlimited

theorem closureEntriesOf_bytes {e : ClosureEntry} (h : e.inRange) (rest : List Byte) {es : List ClosureEntry}
    (hrest : closureEntriesOf rest = some es) : closureEntriesOf (e.bytes ++ rest) = some (e :: es) := by
  obtain ⟨hid, hanchor, hfirst, hwidth, hlead, hminutes, h100, hunlimited⟩ := h
  have hid' : (BitVec.ofNat 8 e.id).toNat = e.id := by rw [BitVec.toNat_ofNat]; omega
  have hlead' : (BitVec.ofNat 8 e.leadIn).toNat = e.leadIn := by rw [BitVec.toNat_ofNat]; omega
  have hfirst' : (BitVec.ofNat 8 (e.firstLane * 16 + e.width)).toNat / 16 = e.firstLane := by
    rw [BitVec.toNat_ofNat]; omega
  have hwidth' : (BitVec.ofNat 8 (e.firstLane * 16 + e.width)).toNat % 16 = e.width := by
    rw [BitVec.toNat_ofNat]; omega
  obtain ⟨hstage, hfull, hpending, hsubst⟩ := stageByte_fields e.fullClosure e.pendingMod e.substituting e.stage
  have hentry : closureEntryOf (BitVec.ofNat 8 e.id) e.gen (BitVec.ofNat 8 (e.anchor / 256)) (BitVec.ofNat 8 e.anchor)
      (BitVec.ofNat 8 (e.firstLane * 16 + e.width)) (BitVec.ofNat 8 e.leadIn) (BitVec.ofNat 8 e.leadSpeed.code)
      (BitVec.ofNat 8 (flagBit e.fullClosure 128 + flagBit e.pendingMod 64 + flagBit e.substituting 32 + e.stage.code))
      (BitVec.ofNat 8 (e.minutes / 256)) (BitVec.ofNat 8 e.minutes) = some e := by
    unfold closureEntryOf
    rw [limitOfCode_code, hstage]
    dsimp only
    rw [if_neg (by simp [h100, hunlimited]), hfull, hpending, hsubst, word16_bytes16 (by omega), word16_bytes16 (by omega),
      hid', hlead', hfirst', hwidth', Nat.min_eq_left hminutes]
  show closureEntriesOf (_ :: _ :: _ :: _ :: _ :: _ :: _ :: _ :: _ :: _ :: rest) = _
  rw [closureEntriesOf, hentry, hrest]

theorem closureEntriesOf_flatMap {es : List ClosureEntry} (h : ∀ e ∈ es, e.inRange) :
    closureEntriesOf (es.flatMap ClosureEntry.bytes) = some es := by
  induction es with
  | nil => rfl
  | cons e es ih =>
    rw [List.flatMap_cons]
    exact closureEntriesOf_bytes (h e List.mem_cons_self) _ (ih fun x hx => h x (List.mem_cons_of_mem e hx))

/-- R190: the flags byte of a STATE payload. -/
theorem flagByte_bits (b7 b6 b5 b4 b3 b2 b1 b0 : Bool) :
    let b : Byte := BitVec.ofNat 8 (flagBit b7 128 + flagBit b6 64 + flagBit b5 32 + flagBit b4 16 + flagBit b3 8 +
      flagBit b2 4 + flagBit b1 2 + flagBit b0 1)
    b.getLsbD 7 = b7 ∧ b.getLsbD 6 = b6 ∧ b.getLsbD 5 = b5 ∧ b.getLsbD 4 = b4 ∧ b.getLsbD 3 = b3 ∧ b.getLsbD 2 = b2 ∧
      b.getLsbD 1 = b1 ∧ b.getLsbD 0 = b0 := by
  revert b7 b6 b5 b4 b3 b2 b1 b0
  decide

/-- Settles O19. -/
theorem stateFrameRoundTrip : Obligations.StateFrameRoundTrip := by
  intro f h2 h6 hlanes haspects hentries
  have hcount : (BitVec.ofNat 8 f.laneCount).toNat = f.laneCount := by rw [BitVec.toNat_ofNat]; omega
  have hlen : (f.lanes.map LaneEntry.byte).length = f.laneCount := by rw [List.length_map, hlanes]
  have hlaneEntries : allSome ((f.lanes.map LaneEntry.byte).map laneEntryOf) = some f.lanes :=
    allSome_map fun e he => laneEntryOf_byte (haspects e he)
  have hclosures : closureEntriesOf f.entryBytes = some (f.entries.getD []) := by
    unfold StateFrame.entryBytes
    cases hf : f.entries with
    | none => rfl
    | some es => exact closureEntriesOf_flatMap fun e he => (hentries es hf).2 e he
  have hlong : (f.entries.getD []).length ≤ 8 := by
    cases hf : f.entries with
    | none => exact Nat.zero_le _
    | some es => exact (hentries es hf).1
  have hocc : BitVec.ofNat 16 (word16 (BitVec.ofNat 8 (f.occCode.toNat / 256)) (BitVec.ofNat 8 f.occCode.toNat)) = f.occCode := by
    rw [word16_bytes16 f.occCode.isLt]; simp
  obtain ⟨hb7, hb6, hb5, hb4, hb3, hb2, hb1, hb0⟩ := flagByte_bits f.joining f.queue f.measInvalid f.isolatedDown
    f.signsDown f.clash f.tableFull f.entries.isSome
  have hpayload : f.payload = f.flags :: BitVec.ofNat 8 f.target.code :: BitVec.ofNat 8 f.posted.code ::
      BitVec.ofNat 8 f.laneCount :: f.version :: f.speedCode :: BitVec.ofNat 8 (f.occCode.toNat / 256) ::
      BitVec.ofNat 8 f.occCode.toNat :: (f.lanes.map LaneEntry.byte ++ f.entryBytes) := rfl
  have hflag0 : f.flags.getLsbD 0 = f.entries.isSome := hb0
  have hwhole : (if f.entries.isSome = true then some (f.entries.getD []) else none) = f.entries := by
    cases f.entries <;> rfl
  unfold stateFrameOf
  rw [hpayload]
  dsimp only
  rw [hcount, if_neg (by omega), if_neg (by rw [List.length_append]; omega), limitOfCode_code, limitOfCode_code,
    List.take_left' hlen, List.drop_left' hlen, hlaneEntries, hclosures]
  dsimp only
  rw [if_neg, if_neg (by omega), hocc, hflag0, show f.flags.getLsbD 7 = _ from hb7, show f.flags.getLsbD 6 = _ from hb6,
    show f.flags.getLsbD 5 = _ from hb5, show f.flags.getLsbD 4 = _ from hb4, show f.flags.getLsbD 3 = _ from hb3,
    show f.flags.getLsbD 2 = _ from hb2, show f.flags.getLsbD 1 = _ from hb1]
  · rw [hwhole]
  · rw [hflag0]
    rintro ⟨hnone, hne⟩
    have hempty : f.entries = none := by simpa using hnone
    exact hne (by rw [hempty]; rfl)

end Sys2Proof.Machine
end

section
/-! The request rows (R139): what a placement, a withdrawal and the settling of an event leave in a row. -/

namespace Sys2Proof.Machine

variable {s : State} {q r : Request} {row : List Request}

theorem mem_insertRequest_iff : q ∈ insertRequest r row ↔ q = r ∨ q ∈ row := by
  induction row with
  | nil => exact List.mem_singleton.trans (by simp)
  | cons x rest ih =>
    unfold insertRequest
    split
    · exact List.mem_cons
    · rw [List.mem_cons, ih, List.mem_cons, or_left_comm]

theorem mem_withdrawFrom {lv : Level} {src : Source} :
    q ∈ withdrawFrom row lv src ↔ q ∈ row ∧ ¬ (q.level = lv ∧ q.source = src) := by
  simp only [withdrawFrom, List.mem_filter, Bool.not_eq_true', Bool.and_eq_false_iff, beq_eq_false_iff_ne, not_and_or, ne_eq]

theorem mem_placeIn : q ∈ placeIn row r ↔ q = r ∨ (q ∈ row ∧ ¬ (q.level = r.level ∧ q.source = r.source)) := by
  rw [placeIn, mem_insertRequest_iff, mem_withdrawFrom]

/-- A request of another source or slot is not touched by a placement. -/
theorem mem_placeIn_other (h : q.level ≠ r.level ∨ q.source ≠ r.source) : q ∈ placeIn row r ↔ q ∈ row := by
  rw [mem_placeIn]
  refine ⟨fun g => g.elim (fun g => ?_) And.left, fun g => .inr ⟨g, fun ⟨hl, hs⟩ => h.elim (absurd hl) (absurd hs)⟩⟩
  subst g
  exact h.elim (absurd rfl) (absurd rfl)

theorem place_display (a b : Addr) :
    (s.place a r).display b =
      if b = a then { s.display a with row := placeIn (s.display a).row r } else s.display b :=
  display_setDisplay ..

theorem withdraw_display (a b : Addr) (lv : Level) (src : Source) :
    (s.withdraw a lv src).display b =
      if b = a then { s.display a with row := withdrawFrom (s.display a).row lv src } else s.display b :=
  display_setDisplay ..

theorem mem_place_row (a b : Addr) :
    q ∈ ((s.place a r).display b).row ↔
      (b = a ∧ q = r) ∨ (q ∈ (s.display b).row ∧ ¬ (b = a ∧ q.level = r.level ∧ q.source = r.source)) := by
  rw [place_display]
  by_cases h : b = a
  · subst h; rw [if_pos rfl]; simp [mem_placeIn]
  · simp [h]

theorem mem_withdraw_row (a b : Addr) (lv : Level) (src : Source) :
    q ∈ ((s.withdraw a lv src).display b).row ↔
      q ∈ (s.display b).row ∧ ¬ (b = a ∧ q.level = lv ∧ q.source = src) := by
  rw [withdraw_display]
  by_cases h : b = a
  · subst h; rw [if_pos rfl]; simp [mem_withdrawFrom]
  · simp [h]

theorem keepRequests_row_mem (f : Addr → Request → Bool) (a : Addr) :
    q ∈ ((s.keepRequests f).display a).row ↔ q ∈ (s.display a).row ∧ f a q = true := by
  have hget : (s.keepRequests f).display a = { s.display a with row := (s.display a).row.filter (f a) } := Per8.get_build ..
  rw [hget]
  exact List.mem_filter

/-! ### The requests of the Speed Computer (R87 to R89) -/

theorem mem_setSpc_row (a b : Addr) (lv : Level) (x : Option Aspect) :
    q ∈ ((s.setSpc a lv x).display b).row ↔
      (b = a ∧ ∃ y, x = some y ∧ q = ⟨lv, .spc, y⟩) ∨
        (q ∈ (s.display b).row ∧ ¬ (b = a ∧ q.level = lv ∧ q.source = .spc)) := by
  cases x with
  | none => rw [State.setSpc, mem_withdraw_row]; simp
  | some y => rw [State.setSpc, mem_place_row]; simp

theorem mem_foldl_setSpc_row (ls : List Lane) (lv : Level) (x : Option Aspect) (s : State) (l : Lane) :
    q ∈ ((ls.foldl (fun t l => t.setSpc (laneAddr l) lv x) s).display (laneAddr l)).row ↔
      (l ∈ ls ∧ ∃ y, x = some y ∧ q = ⟨lv, .spc, y⟩) ∨
        (q ∈ (s.display (laneAddr l)).row ∧ ¬ (l ∈ ls ∧ q.level = lv ∧ q.source = .spc)) := by
  induction ls generalizing s with
  | nil => simp
  | cons k ls ih =>
    rw [List.foldl_cons, ih, mem_setSpc_row]
    have hinj : laneAddr l = laneAddr k ↔ l = k := ⟨laneAddr_inj, congrArg laneAddr⟩
    rw [hinj, List.mem_cons]
    by_cases hk : l = k
    · subst hk
      by_cases hl : l ∈ ls
      · simp only [hl, true_and, or_true]
        constructor
        · rintro (h | ⟨⟨y, hy, rfl⟩ | ⟨hq, hn⟩, hn'⟩)
          · exact .inl h
          · exact absurd ⟨rfl, rfl⟩ hn'
          · exact .inr ⟨hq, hn⟩
        · rintro (h | ⟨hq, hn⟩)
          · exact .inl h
          · exact .inr ⟨.inr ⟨hq, hn⟩, hn⟩
      · simp [hl]
    · simp [hk]

/-! ### The settling of an event (R138, R143) -/

/-- R143: the settling of an event places and withdraws ENCLOSED requests alone. -/
theorem mem_settle_row (hq : q.level ≠ .closed ∨ q.source ≠ .enclosed) (a : Addr) :
    q ∈ (s.settle.display a).row ↔ q ∈ (s.display a).row := by
  obtain ⟨x, hx⟩ := settle_display s a
  have hrow : (s.settle.display a).row = (s.settledDisplay a).row := (congrArg Display.row hx :)
  rw [hrow]
  unfold State.settledDisplay
  dsimp only
  split
  · split
    · show q ∈ enclosedRow _ _ ↔ _
      unfold enclosedRow
      split
      · exact mem_placeIn_other hq
      · rw [mem_withdrawFrom]
        exact and_iff_left fun h => hq.elim (absurd h.1) (absurd h.2)
    · rfl
  · split <;> rfl

end Sys2Proof.Machine
end

section
/-! O23 to O26: the stages, the recomputations and the requests of the Speed Computer (R71 to R91). -/

namespace Sys2Proof.Machine

variable {s : State}

/-! ### The step rule (R84) -/

theorem applyStep_alone (h : s.stu.straps.terminal = true ∨ s.stepPartner = none) (c : Limit) : s.applyStep c = c := by
  unfold State.applyStep
  rcases h with h | h
  · rw [if_pos h]
  · rw [h]; split <;> rfl

theorem applyStep_partner {k : Nat} {e : Neighbour} (ht : s.stu.straps.terminal = false) (hp : s.stepPartner = some (k, e))
    (c : Limit) : s.applyStep c = c.lower (quantise (e.posted.num + 20 * k)) := by
  unfold State.applyStep
  rw [if_neg (by rw [ht]; decide), hp]
  rfl

theorem stageValues_c2 (s : State) : s.stageValues.c2 = s.applyStep s.stageValues.c := rfl

/-! ### Stage 8 (R85, R86) -/

theorem applyEvent_lower {p : Spc} {c2 : Limit} (h : c2.num < p.target.num) : p.applyEvent c2 = p.lowerTo c2 := if_pos h

theorem applyEvent_stays {p : Spc} {c2 : Limit} (h : p.target.num ≤ c2.num) : p.applyEvent c2 = p :=
  if_neg (Nat.not_lt.2 h)

/-- Settles O23. -/
theorem eventRecomputationLowers : Obligations.EventRecomputationLowers := by
  intro s
  have hspc := recompute_spc s
  refine ⟨s.stageValues, recompute_stages s, stageValues_c_num s, fun h => ?_, fun k e ht hp => ?_, ?_, fun h => ?_, fun h => ?_⟩
  · rw [stageValues_c2, applyStep_alone h]
  · rw [stageValues_c2, applyStep_partner ht hp, Limit.num_lower]
  · rw [recompute_isolatedDown, isolatedDownNow_iff]
  · rw [hspc, applyEvent_lower h]
    exact ⟨rfl, rfl, rfl⟩
  · rw [hspc, applyEvent_stays h]
    exact ⟨rfl, rfl, rfl⟩

/-- R86: stage 8 of a window end, by how C2 stands to T. -/
theorem applyWindow_lower {p : Spc} {c2 : Limit} (h : c2.num < p.target.num) (b : Bool) :
    (p.applyWindow c2 b).target = c2 ∧ (p.applyWindow c2 b).held = 0 ∧ (p.applyWindow c2 b).raiseStreak = 0 := by
  unfold Spc.applyWindow
  dsimp only
  rw [if_pos h]
  exact ⟨rfl, rfl, rfl⟩

theorem applyWindow_equal (p : Spc) (b : Bool) :
    (p.applyWindow p.target b).target = p.target ∧ (p.applyWindow p.target b).held = satAdd 255 p.held ∧
      (p.applyWindow p.target b).raiseStreak = 0 := by
  unfold Spc.applyWindow
  dsimp only
  rw [if_neg (Nat.lt_irrefl _), if_pos rfl]
  exact ⟨rfl, rfl, rfl⟩

theorem applyWindow_above {p : Spc} {c2 : Limit} (h : p.target.num < c2.num) (b : Bool) :
    p.applyWindow c2 b =
      if 3 ≤ p.raiseStreak + 1 ∧ 4 ≤ satAdd 255 p.held ∧ b = true then
        { p with target := p.target.next, held := 0, raiseStreak := 0 }
      else { p with held := satAdd 255 p.held, raiseStreak := p.raiseStreak + 1 } := by
  unfold Spc.applyWindow
  dsimp only
  rw [if_neg (Nat.lt_asymm h), if_neg]
  rintro rfl
  exact absurd h (Nat.lt_irrefl _)

/-! ### The QUEUE flag (R75, R76) -/

theorem half_le_iff (n m : Nat) : ceilDiv n 2 ≤ m ↔ n ≤ 2 * m := by
  unfold ceilDiv
  omega

theorem queueFlagAfter_eq (fs : List Fast) (flag : Bool) (streak : Nat) :
    queueFlagAfter fs flag streak =
      if fs.length = 0 then (flag, streak)
      else if fs.length ≤ 2 * (fs.filter Fast.slow).length then (true, 0)
      else if flag = false then (false, 0)
      else if fs.length ≤ 2 * (fs.filter Fast.stillQueued).length then (true, 0)
      else if streak = 0 then (true, 1)
      else (false, 0) := by
  unfold queueFlagAfter
  simp only [half_le_iff]

/-! ### The Speed Computer after a window end -/

theorem fastLanes_congr {t : State} (hlanes : t.lanes = s.lanes) (hfast : ∀ l, (t.lane l).fast = (s.lane l).fast) :
    t.fastLanes = s.fastLanes := by
  unfold State.fastLanes
  rw [lanesInUse_congr hlanes]
  simp only [hfast]

theorem windowEnded_fastLanes (s : State) : s.windowEnded.fastLanes = s.endWindow.fastLanes :=
  fastLanes_congr ((windowEnded_lanes s).trans rfl) fun l => by rw [windowEnded_lane_eq]

theorem windowEnded_target (s : State) : s.windowEnded.spc.target = s.endWindow.recomputeWindow.spc.target := drive_target _

theorem evaluateQueue_spc (s : State) :
    s.evaluateQueue.spc =
      { s.spc with
        queueFlag := (queueFlagAfter s.fastLanes s.spc.queueFlag s.spc.clearStreak).1
        clearStreak := (queueFlagAfter s.fastLanes s.spc.queueFlag s.spc.clearStreak).2 } := rfl

theorem endWindow_spc (s : State) : s.endWindow.spc = s.spc := (endWindow_same s).spc

theorem applyWindow_queueFlag (p : Spc) (c2 : Limit) (b : Bool) :
    (p.applyWindow c2 b).queueFlag = p.queueFlag ∧ (p.applyWindow c2 b).clearStreak = p.clearStreak := by
  unfold Spc.applyWindow
  dsimp only
  split
  · exact ⟨rfl, rfl⟩
  · split
    · exact ⟨rfl, rfl⟩
    · split <;> exact ⟨rfl, rfl⟩

/-- R86: what stage 8 leaves of SPC at a window end. -/
def State.windowStage (s : State) : Spc :=
  s.endWindow.evaluateQueue.spc.applyWindow s.endWindow.evaluateQueue.stageValues.c2 s.endWindow.msu.carriage.isSome

theorem windowEnded_stage (s : State) :
    s.windowEnded.spc.target = s.windowStage.target ∧ s.windowEnded.spc.held = s.windowStage.held ∧
      s.windowEnded.spc.raiseStreak = s.windowStage.raiseStreak ∧ s.windowEnded.spc.queueFlag = s.windowStage.queueFlag ∧
      s.windowEnded.spc.clearStreak = s.windowStage.clearStreak ∧
      s.windowEnded.spc.stages = some s.endWindow.evaluateQueue.stageValues := by
  rw [State.windowEnded, drive_target, drive_held, drive_raiseStreak, drive_queueFlag, drive_clearStreak, drive_stages,
    recomputeWindow_spc]
  exact ⟨rfl, rfl, rfl, rfl, rfl, rfl⟩

theorem windowEnded_carriage_eq (s : State) : s.windowEnded.msu.carriage = s.endWindow.msu.carriage := by
  rw [windowEnded_msu]

/-- Settles O24. -/
theorem windowEndAppliesCandidate : Obligations.WindowEndAppliesCandidate := by
  refine ⟨fun s hbus ht => ?_, fun s hbus ht hstreak => ?_⟩
  · obtain ⟨htarget, hheld, hraise, -, -, hstages⟩ := windowEnded_stage s
    refine ⟨_, _, exec_windowEnd hbus ht, hstages, fun h => ?_, fun h => ?_, fun h => ⟨fun hup => ?_, fun hup => ?_⟩⟩
    · rw [htarget, hheld, hraise]
      exact applyWindow_lower (p := s.endWindow.evaluateQueue.spc) h _
    · rw [htarget, hheld, hraise, State.windowStage, h]
      exact applyWindow_equal s.endWindow.evaluateQueue.spc _
    · obtain ⟨h2, h3, hc⟩ := hup
      rw [windowEnded_carriage_eq] at hc
      have hstage := applyWindow_above (p := s.endWindow.evaluateQueue.spc) h s.endWindow.msu.carriage.isSome
      have hheld4 : 4 ≤ satAdd 255 s.spc.held := by unfold satAdd; split <;> omega
      rw [if_pos ⟨Nat.succ_le_succ h2, hheld4, Option.isSome_iff_ne_none.2 hc⟩] at hstage
      rw [htarget, hheld, hraise, State.windowStage, hstage]
      exact ⟨rfl, rfl, rfl⟩
    · rw [windowEnded_carriage_eq] at hup
      have hstage := applyWindow_above (p := s.endWindow.evaluateQueue.spc) h s.endWindow.msu.carriage.isSome
      rw [if_neg] at hstage
      · rw [htarget, hheld, hraise, State.windowStage, hstage]
        exact ⟨rfl, rfl, rfl⟩
      · rintro ⟨h3, h4, hc⟩
        refine hup ⟨Nat.le_of_succ_le_succ h3, ?_, Option.isSome_iff_ne_none.1 hc⟩
        have h4' : 4 ≤ satAdd 255 s.spc.held := h4
        unfold satAdd at h4'
        split at h4' <;> omega
  · obtain ⟨-, -, -, hflag, hclear, -⟩ := windowEnded_stage s
    obtain ⟨hkeepFlag, hkeepClear⟩ := applyWindow_queueFlag s.endWindow.evaluateQueue.spc
      s.endWindow.evaluateQueue.stageValues.c2 s.endWindow.msu.carriage.isSome
    have hafter := queueFlagAfter_eq s.windowEnded.fastLanes s.spc.queueFlag s.spc.clearStreak
    have hflag' : s.windowEnded.spc.queueFlag =
        (queueFlagAfter s.windowEnded.fastLanes s.spc.queueFlag s.spc.clearStreak).1 := by
      rw [hflag, State.windowStage, hkeepFlag, windowEnded_fastLanes, evaluateQueue_spc]
      rfl
    have hclear' : s.windowEnded.spc.clearStreak =
        (queueFlagAfter s.windowEnded.fastLanes s.spc.queueFlag s.spc.clearStreak).2 := by
      rw [hclear, State.windowStage, hkeepClear, windowEnded_fastLanes, evaluateQueue_spc]
      rfl
    refine ⟨_, exec_windowEnd hbus ht, ?_⟩
    rw [hflag', hclear', hafter]
    intro n slow queued
    refine ⟨fun hn => ?_, fun hn hs => ?_, fun hn hs hf => ?_, fun hn hs hf hq => ?_, fun hn hs hf hq => ⟨fun h0 => ?_, fun h1 => ?_⟩⟩
    · rw [if_pos hn]; exact ⟨rfl, rfl⟩
    · rw [if_neg (Nat.ne_of_gt hn), if_pos hs]; exact ⟨rfl, rfl⟩
    · rw [if_neg (Nat.ne_of_gt hn), if_neg (Nat.not_le.2 hs), if_pos hf]; exact ⟨rfl, rfl⟩
    · rw [if_neg (Nat.ne_of_gt hn), if_neg (Nat.not_le.2 hs), if_neg (by rw [hf]; decide), if_pos hq]; exact ⟨rfl, rfl⟩
    · rw [if_neg (Nat.ne_of_gt hn), if_neg (Nat.not_le.2 hs), if_neg (by rw [hf]; decide), if_neg (Nat.not_le.2 hq), if_pos h0]
      exact ⟨rfl, rfl⟩
    · rw [if_neg (Nat.ne_of_gt hn), if_neg (Nat.not_le.2 hs), if_neg (by rw [hf]; decide), if_neg (Nat.not_le.2 hq),
        if_neg (by rw [h1]; decide)]
      exact ⟨rfl, rfl⟩

/-! ### The requests (R87) -/

theorem laneAddr_ne_legendAddr (l : Lane) : laneAddr l ≠ legendAddr := by
  revert l
  decide

theorem setSpeed_spc (s : State) : s.setSpeed.spc = s.spc := (setSpeed_same s).spc

theorem speed_mem_setRequests {l : Lane} (hl : l.val < s.lanes) (x : Aspect) :
    ⟨.speed, .spc, x⟩ ∈ (s.setRequests.display (laneAddr l)).row ↔ s.spc.target.aspect = some x := by
  have hin : l ∈ s.lanesInUse := (mem_lanesInUse_iff ..).2 hl
  have hne := laneAddr_ne_legendAddr l
  unfold State.setRequests State.setLegends
  rw [mem_setSpc_row, mem_setSpc_row]
  simp only [hne, false_and, false_or, not_false_eq_true, and_true]
  unfold State.setEnd
  rw [mem_foldl_setSpc_row]
  simp only [Request.mk.injEq, reduceCtorEq, false_and, and_false, exists_false, false_or, not_false_eq_true, and_true]
  unfold State.setSpeed
  rw [mem_foldl_setSpc_row]
  simp only [hin, true_and, Request.mk.injEq, not_true, and_false, or_false]
  exact ⟨fun ⟨y, hy, hxy⟩ => hxy ▸ hy, fun h => ⟨x, h, rfl⟩⟩

theorem windowEnded_display (s : State) (a : Addr) :
    s.windowEnded.display a = s.endWindow.restageWindow.setRequests.settle.display a := by
  rw [State.windowEnded, drive_display, recomputeWindow_eq, reviewRequests_eq]

theorem windowEnded_speed_mem {l : Lane} (hl : l.val < s.lanes) (x : Aspect) :
    ⟨.speed, .spc, x⟩ ∈ (s.windowEnded.display (laneAddr l)).row ↔ s.windowEnded.spc.target.aspect = some x := by
  rw [windowEnded_display, mem_settle_row (.inl (by simp)), (windowEnded_stage s).1]
  exact speed_mem_setRequests (s := s.endWindow.restageWindow) hl x

/-! ### The posted limit (R91) -/

theorem drive_posted (hbus : s.onBus = true) : s.drive.spc.posted = s.postedLevel := by
  unfold State.drive; rw [hbus]; rfl

theorem mem_provenSpeeds {v : Limit} :
    v ∈ s.provenSpeeds ↔ s.slc.link ≠ .held ∧ ∃ l ∈ s.lanesInUse, ∃ a, (s.mod (laneAddr l)).state = .ready ∧
      (s.mod (laneAddr l)).proven = some a ∧ a.speed = some v := by
  unfold State.provenSpeeds Module.provenSpeed
  by_cases h : s.slc.link = .held
  · simp [h]
  · rw [if_neg h, List.mem_filterMap]
    refine (and_iff_right h).symm.trans (and_congr_right fun _ => exists_congr fun l => and_congr_right fun _ => ?_)
    by_cases hr : (s.mod (laneAddr l)).state = .ready
    · simp [hr, Option.bind_eq_some_iff]
    · simp [hr]

theorem leastLimit_num_le {v : Limit} {ls : List Limit} (h : v ∈ ls) : (leastLimit ls).num ≤ v.num := by
  induction ls with
  | nil => cases h
  | cons x xs ih =>
    rw [leastLimit_cons, Limit.num_lower]
    rcases List.mem_cons.1 h with rfl | h
    · exact Nat.min_le_left ..
    · exact (Nat.min_le_right ..).trans (ih h)

/-- Settles O25. -/
theorem speedRequestsFollowTarget : Obligations.SpeedRequestsFollowTarget := by
  refine ⟨fun s hbus ht => ⟨_, exec_windowEnd hbus ht, fun l x hl => windowEnded_speed_mem hl x⟩, fun s hbus => ?_⟩
  rw [drive_posted hbus, State.postedLevel]
  refine ⟨?_, fun hheld => ?_, fun hown l a v hl hr hp hv => ?_, ?_⟩
  · rw [Limit.num_lower]; exact Nat.min_le_left ..
  · rw [State.provenSpeeds, if_pos hheld, leastLimit_nil, Limit.lower_unlimited]
  · have hmem : v ∈ s.provenSpeeds := mem_provenSpeeds.2 ⟨by rw [hown]; decide, l, hl, a, hr, hp, hv⟩
    rw [Limit.num_lower]
    exact (Nat.min_le_right ..).trans (leastLimit_num_le hmem)
  · by_cases hnil : s.provenSpeeds = []
    · exact .inl (by rw [hnil, leastLimit_nil, Limit.lower_unlimited])
    · rcases s.spc.target.lower_eq_or (leastLimit s.provenSpeeds) with h | h
      · exact .inl h
      · rw [h]
        exact .inr (mem_provenSpeeds.1 (leastLimit_mem hnil)).2

/-! ### The tables of the stages (R74, R77, R78) -/

theorem quantise_num (v : Nat) :
    (quantise v).num =
      if 120 ≤ v then 120 else if 100 ≤ v then 100 else if 80 ≤ v then 80 else if 60 ≤ v then 60
      else if 50 ≤ v then 50 else 40 := by
  unfold quantise
  repeat' split
  all_goals rfl

theorem occDemand_num (o : Nat) :
    (occDemand o).num =
      if 300 ≤ o then 50 else if 200 ≤ o then 60 else if 120 ≤ o then 80 else if 80 ≤ o then 100 else 120 := by
  unfold occDemand
  repeat' split
  all_goals rfl

/-- Settles O26. -/
theorem stageTables : Obligations.StageTables := by
  refine ⟨fun v => ⟨?_, fun m hm => ?_⟩, fun t x o => ⟨rfl, ?_, ?_⟩, ⟨rfl, fun d => ?_⟩, fun ls hls => ⟨rfl, rfl, ?_, ?_⟩⟩
  · by_cases h : v < 50
    · right
      unfold quantise
      simp only [show ¬ 120 ≤ v by omega, show ¬ 100 ≤ v by omega, show ¬ 80 ≤ v by omega, show ¬ 60 ≤ v by omega,
        show ¬ 50 ≤ v by omega, if_false]
    · left
      rw [quantise_num]
      split_ifs <;> omega
  · rw [quantise_num]
    cases m <;> simp only [Limit.num] at hm ⊢ <;> split_ifs <;> omega
  · show ((quantise (x + 10)).lower (occDemand o)).num = _
    rw [Limit.num_lower, occDemand_num]
  · show ((if 800 ≤ o then Limit.v40 else .unlimited).lower (occDemand o)).num = _
    rw [Limit.num_lower, occDemand_num]
    by_cases h : 800 ≤ o
    · rw [if_pos h, if_pos h, if_pos (by omega)]; rfl
    · rw [if_neg h, if_neg h]
      show min 120 _ = _
      split_ifs <;> rfl
  · rcases d with _ | _ | _ | _ | d <;> simp [queueCeiling, Limit.num]
  · rcases hls with rfl | rfl | rfl | rfl <;> rfl
  · rcases hls with rfl | rfl | rfl | rfl <;> rfl

end Sys2Proof.Machine
end

section
/-! Frames that arrive whole, and O27: the operator ceilings (R79 to R81). -/

namespace Sys2Proof.Machine

variable {s : State} {f : RxFrame} {r : Received}

/-! ### An accepted frame (R37, R189) -/

/-- R189: the state once the line's idle time after an accepted frame has been noted. -/
def State.lined (s : State) : State := { s with crl := { s.crl with receiver := .ready, idleBits := 10 } }

theorem lined_sameBut (s : State) : s.sameBut [.crl] s.lined := by simp [State.sameBut, State.lined]

theorem exec_accepted {k : FrameKind} (hbus : s.onBus = true) (hcalm : ∀ e ∈ s.nbt, e.gone = false ∧ e.newlyStale = false)
    (hf : checkFrame f = some r) (hk : r.kind = k) : exec (k.received f) s = .next (s.lined.takeFrame r).drive := by
  rw [exec_received, ← hk, receive_of_checkFrame hbus hcalm hf]
  rfl

theorem takeFrame_ceiling {c : CeilingFields} (hk : r.kind = .ceiling) (hc : ceilingOf r.payload = some c) :
    s.takeFrame r = s.takeCeiling c := by
  simp [State.takeFrame, hk, hc]

/-! ### A change of the ceiling table (R80, R81) -/

/-- The state with another ceiling table. -/
def State.withCeilings (s : State) (cs : List Ceiling) : State := { s with spc := { s.spc with ceilings := cs } }

theorem leastLimit_map_le {α : Type} {g : α → Limit} {xs : List α} {x : α} (hx : x ∈ xs) :
    (leastLimit (xs.map g)).num ≤ (g x).num :=
  leastLimit_num_le (List.mem_map_of_mem hx)

/-- R80, R81: what a change of the table leaves, the Speed Computer having recomputed. -/
theorem withCeilings_outcome (s : State) (cs : List Ceiling) :
    let t := (s.withCeilings cs).recompute.drive
    s.sameBut [.stu, .msu, .spc, .asa] t ∧ t.spc.ceilings = cs ∧ t.spc.target.num ≤ s.spc.target.num ∧
      (∀ x ∈ cs, t.spc.target.num ≤ x.limit.num) ∧
      ∃ v, t.spc.stages = some v ∧ v.lop = leastLimit (t.spc.ceilings.map Ceiling.limit) := by
  have hspc := recompute_spc (s := s.withCeilings cs)
  have hceilings : (s.withCeilings cs).recompute.drive.spc.ceilings = cs := by
    rw [drive_ceilings, hspc]
    unfold Spc.applyEvent
    split <;> rfl
  have htarget : (s.withCeilings cs).recompute.drive.spc.target =
      ((s.withCeilings cs).spc.applyEvent (s.withCeilings cs).stageValues.c2).target := by rw [drive_target, hspc]
  have hsame : s.sameBut [.spc] (s.withCeilings cs) := by simp [State.sameBut, State.withCeilings]
  refine ⟨((hsame.mono (by simp)).trans ((recompute_same _).sameBut.mono (by simp))).trans ((drive_sameBut _).mono (by simp)),
    hceilings, ?_, fun x hx => ?_, (s.withCeilings cs).stageValues, by rw [drive_stages, hspc], ?_⟩
  · rw [htarget]
    unfold Spc.applyEvent
    split
    case isTrue h => exact Nat.le_of_lt h
    case isFalse => exact le_rfl
  · rw [htarget]
    exact (applyEvent_le ..).trans ((c2_num_le _).2.1.trans (leastLimit_map_le hx))
  · rw [hceilings]
    rfl

/-! ### The table after a frame in form (R79, R80) -/

theorem mem_insertBy_iff {α : Type} {key : α → Nat} {x z : α} {ys : List α} (h : (ys.map key).Pairwise (· < ·)) :
    z ∈ insertBy key x ys ↔ z = x ∨ (z ∈ ys ∧ key z ≠ key x) := by
  induction ys with
  | nil => simp [insertBy]
  | cons y rest ih =>
    obtain ⟨hy, hrest⟩ := List.pairwise_cons.1 (List.map_cons ▸ h)
    have hlt : ∀ w ∈ rest, key y < key w := fun w hw => hy _ (List.mem_map_of_mem hw)
    unfold insertBy
    split
    case isTrue hxy =>
      have hne : z ∈ y :: rest → key z ≠ key x := fun hz => by
        rcases List.mem_cons.1 hz with rfl | hz
        · omega
        · have := hlt z hz; omega
      rw [List.mem_cons]
      exact or_congr_right ⟨fun hz => ⟨hz, hne hz⟩, And.left⟩
    case isFalse hxy =>
      split
      case isTrue heq =>
        rw [List.mem_cons]
        refine or_congr_right ⟨fun hz => ⟨List.mem_cons_of_mem _ hz, by have := hlt z hz; omega⟩, fun ⟨hz, hne⟩ => ?_⟩
        rcases List.mem_cons.1 hz with rfl | hz
        · exact absurd heq.symm hne
        · exact hz
      case isFalse hne =>
        rw [List.mem_cons, ih hrest, List.mem_cons]
        grind

theorem soonest_least {cs : List Ceiling} {d : Ceiling} (h : soonest cs = some d) :
    ∀ y ∈ cs, d.expiry < y.expiry ∨ (d.expiry = y.expiry ∧ d.id ≤ y.id) := by
  induction cs generalizing d with
  | nil => cases h
  | cons x rest ih =>
    unfold soonest at h
    split at h
    case h_1 hnone =>
      cases h
      intro y hy
      rcases List.mem_cons.1 hy with rfl | hy
      · exact .inr ⟨rfl, le_rfl⟩
      · obtain ⟨e, he⟩ := soonest_isSome (List.ne_nil_of_mem hy)
        rw [hnone] at he; cases he
    case h_2 e he =>
      have hrest := ih he
      split at h
      case isTrue hx =>
        cases h
        intro y hy
        rcases List.mem_cons.1 hy with rfl | hy
        · exact .inr ⟨rfl, le_rfl⟩
        · have := hrest y hy; omega
      case isFalse hx =>
        cases h
        intro y hy
        rcases List.mem_cons.1 hy with rfl | hy
        · omega
        · exact hrest y hy

theorem installCeiling_of_room {c : Ceiling} {cs : List Ceiling} (h : (∃ x ∈ cs, x.id = c.id) ∨ cs.length < 4) :
    installCeiling c cs = insertCeiling c cs :=
  if_pos (h.imp_left fun ⟨x, hx, hid⟩ => List.any_eq_true.2 ⟨x, hx, beq_iff_eq.2 hid⟩)

theorem mem_installCeiling_of_room {c x : Ceiling} {cs : List Ceiling} (hcs : CeilingTable cs)
    (h : (∃ x ∈ cs, x.id = c.id) ∨ cs.length < 4) : x ∈ installCeiling c cs ↔ x = c ∨ (x ∈ cs ∧ x.id ≠ c.id) := by
  rw [installCeiling_of_room h, insertCeiling_eq, mem_insertBy_iff hcs.2.1]

theorem self_mem_installCeiling {c : Ceiling} {cs : List Ceiling} (hcs : CeilingTable cs) : c ∈ installCeiling c cs := by
  unfold installCeiling
  split
  · rw [insertCeiling_eq, mem_insertBy_iff hcs.2.1]; exact .inl rfl
  · split
    · rw [insertCeiling_eq, mem_insertBy_iff (hcs.2.1.sublist (List.filter_sublist.map _))]; exact .inl rfl
    · rw [insertCeiling_eq, mem_insertBy_iff hcs.2.1]; exact .inl rfl

theorem eq_of_ceiling_id {cs : List Ceiling} (hcs : CeilingTable cs) {x y : Ceiling} (hx : x ∈ cs) (hy : y ∈ cs) (h : x.id = y.id) :
    x = y :=
  List.inj_on_of_nodup_map (hcs.2.1.imp Nat.ne_of_lt) hx hy h

/-- R80: a full table without the id gives up the record that expires soonest. -/
theorem mem_installCeiling_of_full {c : Ceiling} {cs : List Ceiling} (hcs : CeilingTable cs) (hnew : ∀ x ∈ cs, x.id ≠ c.id)
    (hfull : cs.length = 4) :
    ∃ d ∈ cs, (∀ y ∈ cs, d.expiry < y.expiry ∨ (d.expiry = y.expiry ∧ d.id ≤ y.id)) ∧
      ∀ x, x ∈ installCeiling c cs ↔ x = c ∨ (x ∈ cs ∧ x ≠ d) := by
  obtain ⟨d, hd⟩ := soonest_isSome (cs := cs) (by rintro rfl; cases hfull)
  have hinstall : installCeiling c cs = insertCeiling c (cs.filter fun x => x.id != d.id) := by
    unfold installCeiling
    rw [if_neg (by
      rintro (h | h)
      · obtain ⟨x, hx, hid⟩ := List.any_eq_true.1 h
        exact hnew x hx (beq_iff_eq.1 hid)
      · omega), hd]
  refine ⟨d, soonest_mem hd, soonest_least hd, fun x => ?_⟩
  rw [hinstall, insertCeiling_eq, mem_insertBy_iff (hcs.2.1.sublist (List.filter_sublist.map _)), List.mem_filter, bne_iff_ne]
  refine or_congr_right ⟨fun ⟨⟨hx, hne⟩, _⟩ => ⟨hx, fun h => hne (congrArg Ceiling.id h)⟩, fun ⟨hx, hne⟩ =>
    ⟨⟨hx, fun h => hne (eq_of_ceiling_id hcs hx (soonest_mem hd) h)⟩, hnew x hx⟩⟩

theorem ceilingsAfter_removes {g : CeilingInForm} {cs : List Ceiling} (h : g.limit = .unlimited ∨ g.covers = false) :
    (ceilingsAfter g cs).getD cs = cs.filter fun x => x.id ≠ g.id := by
  have hfilter : (cs.filter fun x => x.id != g.id) = cs.filter fun x => decide (x.id ≠ g.id) :=
    List.filter_congr fun x _ => by rw [Bool.eq_iff_iff, bne_iff_ne, decide_eq_true_iff]
  unfold ceilingsAfter
  dsimp only
  rw [if_pos h]
  split
  · exact hfilter
  case isFalse hnone =>
    refine (List.filter_eq_self.2 fun x hx => ?_).symm
    by_contra hid
    exact hnone (List.any_eq_true.2 ⟨x, hx, by simpa using hid⟩)

theorem ceilingsAfter_installs {g : CeilingInForm} {cs : List Ceiling} (hl : g.limit ≠ .unlimited) (hc : g.covers = true) :
    ceilingsAfter g cs = some (installCeiling g.record cs) :=
  if_neg (by rintro (h | h); · exact hl h
             · rw [hc] at h; cases h)

/-! ### O27 -/

theorem takeCeiling_discards {c : CeilingFields} (h : c.id = 0 ∨ 15 < c.id) : s.takeCeiling c = s := by
  unfold State.takeCeiling CeilingFields.inForm
  rw [if_pos h]

theorem takeCeiling_none {c : CeilingFields} {g : CeilingInForm} (hg : c.inForm s.position = some g)
    (h : ceilingsAfter g s.spc.ceilings = none) : s.takeCeiling c = s := by
  unfold State.takeCeiling
  rw [hg]
  dsimp only
  rw [h]

theorem takeCeiling_some {c : CeilingFields} {g : CeilingInForm} {cs : List Ceiling} (hg : c.inForm s.position = some g)
    (h : ceilingsAfter g s.spc.ceilings = some cs) : s.takeCeiling c = (s.withCeilings cs).recompute := by
  unfold State.takeCeiling
  rw [hg]
  dsimp only
  rw [h]
  rfl

/-- What a frame in form leaves, whether or not it changes the table. -/
theorem takeCeiling_outcome {c : CeilingFields} {g : CeilingInForm} (hg : c.inForm s.position = some g) :
    s.sameBut [.stu, .msu, .spc, .asa] (s.takeCeiling c).drive ∧
      (s.takeCeiling c).drive.spc.ceilings = (ceilingsAfter g s.spc.ceilings).getD s.spc.ceilings ∧
      ∀ cs, ceilingsAfter g s.spc.ceilings = some cs → ∀ x ∈ cs, (s.takeCeiling c).drive.spc.target.num ≤ x.limit.num := by
  cases hcs : ceilingsAfter g s.spc.ceilings with
  | none =>
    rw [takeCeiling_none hg hcs]
    exact ⟨(drive_sameBut s).mono (by simp), drive_ceilings s, nofun⟩
  | some cs =>
    rw [takeCeiling_some hg hcs]
    obtain ⟨hframe, hceilings, -, hle, -⟩ := withCeilings_outcome s cs
    refine ⟨hframe, hceilings, fun ds hds x hx => ?_⟩
    obtain rfl := Option.some.inj hds
    exact hle x hx

theorem expireCeiling_eq (s : State) (id : Nat) :
    s.expireCeiling id = if s.onBus ∧ s.spc.ceilings.any (fun c => c.id == id && c.expiry == 0) then
      (s.withCeilings (s.spc.ceilings.filter fun c => c.id != id)).recompute.drive else s := rfl

/-- Settles O27. -/
theorem ceilingFrameAndExpiry : Obligations.CeilingFrameAndExpiry := by
  refine ⟨fun s f r c hbus hcalm hsound hf hk hc hlo hhi => ?_, fun s f r c hbus hcalm hf hk hc hbad => ?_,
    fun s id hbus => ⟨fun ⟨c, hc, hid, hexp⟩ => ?_, fun hnone => ?_⟩⟩
  · intro covers limit record
    have htable : CeilingTable s.spc.ceilings := (ceilingsSound_iff s).1 hsound
    obtain ⟨g, hg, hid, hlimit, hcovers, hrecord⟩ : ∃ g, c.inForm s.lined.position = some g ∧ g.id = c.id ∧ g.limit = limit ∧
        (g.covers = true ↔ covers) ∧ g.record = record := by
      refine ⟨_, if_neg (by omega), rfl, rfl, decide_eq_true_iff, ?_⟩
      have hfirst : (if min c.first c.last = 0 then 1 else min c.first c.last) = max 1 (min c.first c.last) := by
        split <;> omega
      have hminutes : (if c.minutes = 0 then 1 else min c.minutes 1440) = max 1 (min c.minutes 1440) := by split <;> omega
      unfold CeilingInForm.record
      dsimp only
      rw [hfirst, hminutes]
    obtain ⟨hframe, hceilings, hle⟩ := takeCeiling_outcome hg
    have hexec := exec_accepted hbus hcalm hf hk
    rw [takeFrame_ceiling hk hc] at hexec
    refine ⟨_, hexec, ((lined_sameBut s).mono (by simp)).trans (hframe.mono (by simp)), ?_, fun hout => ?_, fun hl hcov => ?_⟩
    · exact hframe.2.2.2.1.resolve_left (by simp)
    · rw [hceilings, ceilingsAfter_removes, hid]
      · rfl
      · rw [hlimit, Bool.eq_false_iff, Ne, hcovers]; exact hout
    · have hafter : ceilingsAfter g s.lined.spc.ceilings = some (installCeiling record s.spc.ceilings) := by
        rw [← hrecord]; exact ceilingsAfter_installs (hlimit ▸ hl) (hcovers.2 hcov)
      rw [hafter] at hceilings
      rw [hceilings]
      exact ⟨hle _ hafter record (self_mem_installCeiling htable), fun hroom x => mem_installCeiling_of_room htable hroom,
        fun hnew hfull => mem_installCeiling_of_full htable hnew hfull⟩
  · have hexec := exec_accepted hbus hcalm hf hk
    rw [takeFrame_ceiling hk hc, takeCeiling_discards hbad] at hexec
    exact hexec
  · obtain ⟨hframe, hceilings, htarget, -, hstages⟩ :=
      withCeilings_outcome s (s.spc.ceilings.filter fun c => c.id != id)
    have hany : s.spc.ceilings.any (fun c => c.id == id && c.expiry == 0) = true :=
      List.any_eq_true.2 ⟨c, hc, by simp [hid, hexp]⟩
    refine ⟨_, congrArg Host.Outcome.next ((expireCeiling_eq s id).trans (if_pos ⟨hbus, hany⟩)), hframe, ?_, htarget, hstages⟩
    rw [hceilings]
    exact List.filter_congr fun x _ => by rw [Bool.eq_iff_iff, bne_iff_ne, decide_eq_true_iff]
  · refine congrArg Host.Outcome.next ((expireCeiling_eq s id).trans (if_neg fun ⟨_, hany⟩ => ?_))
    obtain ⟨x, hx, h⟩ := List.any_eq_true.1 hany
    simp only [Bool.and_eq_true, beq_iff_eq] at h
    exact absurd (hnone x hx h.1) (by omega)

end Sys2Proof.Machine
end

section
/-! The operations of the Closure Table, each by what it leaves of the record it acts on, of the other records, and of the
record's own requests (R108 to R131); the proofs of O30 to O37 use these rules. -/

namespace Sys2Proof.Machine

variable {s t u : State} {w : Work} {id : Nat} {r x y : ClosureRecord} {q : Request}

/-! ### Requests placed and withdrawn -/

/-- A list of placements in which no placement takes the slot of another. -/
def SlotsApart (reqs : List (Addr × Request)) : Prop :=
  ∀ x ∈ reqs, ∀ y ∈ reqs, x.1 = y.1 → x.2.level = y.2.level → x.2.source = y.2.source → x = y

theorem mem_placeAll_row {reqs : List (Addr × Request)} (h : SlotsApart reqs) (a : Addr) :
    q ∈ ((s.placeAll reqs).display a).row ↔ (a, q) ∈ reqs ∨
      (q ∈ (s.display a).row ∧ ∀ x ∈ reqs, x.1 = a → ¬ (q.level = x.2.level ∧ q.source = x.2.source)) := by
  induction reqs generalizing s with
  | nil => simp [State.placeAll]
  | cons x rest ih =>
    have hrest : SlotsApart rest := fun y hy z hz => h y (List.mem_cons_of_mem _ hy) z (List.mem_cons_of_mem _ hz)
    have hcons : s.placeAll (x :: rest) = (s.place x.1 x.2).placeAll rest := rfl
    rw [hcons, ih hrest, mem_place_row, List.mem_cons]
    constructor
    · rintro (hm | ⟨⟨rfl, rfl⟩ | ⟨hq, hx⟩, hfree⟩)
      · exact .inl (.inr hm)
      · exact .inl (.inl rfl)
      · refine .inr ⟨hq, fun y hy hya => ?_⟩
        rcases List.mem_cons.1 hy with rfl | hy
        · exact fun hs => hx ⟨hya.symm, hs.1, hs.2⟩
        · exact hfree y hy hya
    · rintro ((rfl | hm) | ⟨hq, hfree⟩)
      · by_cases hin : (a, q) ∈ rest
        · exact .inl hin
        · refine .inr ⟨.inl ⟨rfl, rfl⟩, fun y hy hya hs => hin ?_⟩
          exact h (a, q) List.mem_cons_self y (List.mem_cons_of_mem _ hy) hya.symm hs.1 hs.2 ▸ hy
      · exact .inl hm
      · exact .inr ⟨.inr ⟨hq, fun hs => hfree x List.mem_cons_self hs.1.symm hs.2⟩,
          fun y hy => hfree y (List.mem_cons_of_mem _ hy)⟩

/-- Requests of other sources are not touched by placements. -/
theorem mem_placeAll_other {reqs : List (Addr × Request)} (h : ∀ x ∈ reqs, q.source ≠ x.2.source) (a : Addr) :
    q ∈ ((s.placeAll reqs).display a).row ↔ q ∈ (s.display a).row := by
  induction reqs generalizing s with
  | nil => rfl
  | cons x rest ih =>
    have hcons : s.placeAll (x :: rest) = (s.place x.1 x.2).placeAll rest := rfl
    have hx := h x List.mem_cons_self
    rw [hcons, ih fun y hy => h y (List.mem_cons_of_mem _ hy), mem_place_row]
    constructor
    · rintro (⟨-, rfl⟩ | ⟨hq, -⟩)
      · exact absurd rfl hx
      · exact hq
    · exact fun hq => .inr ⟨hq, fun hs => hx hs.2.2⟩

theorem source_of_ownOf {src : Source} (h : src.ownOf id = true) : ∃ anchor, src = .closure id anchor := by
  cases src <;> simp_all [Source.ownOf]

theorem source_of_substOf {src : Source} (h : src.substOf id = true) : ∃ anchor, src = .substitution id anchor := by
  cases src <;> simp_all [Source.substOf]

theorem mem_withdrawOwn_row (a : Addr) :
    q ∈ ((s.withdrawOwn id).display a).row ↔ q ∈ (s.display a).row ∧ q.source.ownOf id = false := by
  unfold State.withdrawOwn
  rw [keepRequests_row_mem, Bool.not_eq_true']

theorem mem_withdrawSubst_row (a : Addr) :
    q ∈ ((s.withdrawSubst id).display a).row ↔ q ∈ (s.display a).row ∧ q.source.substOf id = false := by
  unfold State.withdrawSubst
  rw [keepRequests_row_mem, Bool.not_eq_true']

theorem mem_withdrawRecord_row (a : Addr) :
    q ∈ ((s.withdrawRecord id).display a).row ↔
      q ∈ (s.display a).row ∧ q.source.ownOf id = false ∧ q.source.substOf id = false := by
  unfold State.withdrawRecord
  rw [mem_withdrawSubst_row, mem_withdrawOwn_row, and_assoc]

/-! ### Request sets (R108) -/

theorem requestSet_source {n : Nat} {z : Addr × Request} (h : z ∈ r.requestSet n) : z.2.source = r.source := by
  unfold ClosureRecord.requestSet at h
  rcases List.mem_append.1 h with h | h
  · unfold ClosureRecord.laneRequests at h
    split at h
    · obtain ⟨l, -, rfl⟩ := List.mem_map.1 h; rfl
    · split at h
      · cases h
      · obtain ⟨l, -, rfl⟩ := List.mem_map.1 h; rfl
    · cases h
  · obtain ⟨p, hp, rfl⟩ := List.mem_map.1 h
    unfold ClosureRecord.legendRequest at hp
    split at hp
    · cases hr : r.role with
      | none => simp [hr] at hp
      | some role => simp [hr] at hp; subst hp; rfl
    · split at hp
      · simp at hp
      · simp at hp
      · simp at hp; subst hp; rfl

theorem laneRequests_lane {n : Nat} {z : Addr × Request} (h : z ∈ r.laneRequests n) :
    ∃ l, z.1 = laneAddr l ∧ ∀ z' ∈ r.laneRequests n, z'.1 = laneAddr l → z' = z := by
  unfold ClosureRecord.laneRequests at *
  have key : ∀ f : Lane → Request, z ∈ (r.localLanes.map fun l => (laneAddr l, f l)) →
      ∃ l, z.1 = laneAddr l ∧ ∀ z' ∈ (r.localLanes.map fun l => (laneAddr l, f l)), z'.1 = laneAddr l → z' = z := by
    intro f hz
    obtain ⟨l, -, rfl⟩ := List.mem_map.1 hz
    refine ⟨l, rfl, fun z' hz' hl => ?_⟩
    obtain ⟨k, -, rfl⟩ := List.mem_map.1 hz'
    rw [laneAddr_inj hl]
  split at h
  case h_1 hrole => exact key _ h
  case h_2 hrole =>
    split at h
    · cases h
    case isFalse hfull =>
      simp only [hfull, Bool.false_eq_true, if_false]
      exact key _ h
  · cases h

/-- A request set calls for one request of a module at most. -/
theorem requestSet_unique {n : Nat} {y z : Addr × Request} (hy : y ∈ r.requestSet n) (hz : z ∈ r.requestSet n)
    (h : y.1 = z.1) : y = z := by
  unfold ClosureRecord.requestSet at hy hz
  have hlegend : ∀ p : Addr × Request, p ∈ (r.legendRequest.toList.map fun q => (legendAddr, q)) →
      p.1 = legendAddr ∧ r.legendRequest = some p.2 := fun p hp => by
    obtain ⟨q, hq, rfl⟩ := List.mem_map.1 hp
    exact ⟨rfl, Option.mem_toList.1 hq⟩
  rcases List.mem_append.1 hy with hy | hy <;> rcases List.mem_append.1 hz with hz | hz
  · obtain ⟨l, hl, hall⟩ := laneRequests_lane hz
    exact hall y hy (h.trans hl)
  · obtain ⟨l, hl, -⟩ := laneRequests_lane hy
    exact absurd (hl.symm.trans (h.trans (hlegend z hz).1)) (laneAddr_ne_legendAddr l)
  · obtain ⟨l, hl, -⟩ := laneRequests_lane hz
    exact absurd (hl.symm.trans (h.symm.trans (hlegend y hy).1)) (laneAddr_ne_legendAddr l)
  · refine Prod.ext h ?_
    exact Option.some.inj ((hlegend y hy).2.symm.trans (hlegend z hz).2)

theorem requestSet_slotsApart (r : ClosureRecord) (n : Nat) : SlotsApart (r.requestSet n) :=
  fun _ hx _ hy h _ _ => requestSet_unique hx hy h

theorem mem_placed_of_mem {n : Nat} {z : Addr × Request} (hz : z ∈ r.requestSet n) :
    z.2 ∈ ((s.placeAll (r.requestSet n)).display z.1).row :=
  (mem_placeAll_row (requestSet_slotsApart r n) z.1).2 (.inl hz)

/-- Where the record holds no request of its own, placing its set leaves it exactly these. -/
theorem mem_placed_own {n : Nat} (a : Addr) (hnone : q ∉ (s.display a).row) :
    q ∈ ((s.placeAll (r.requestSet n)).display a).row ↔ (a, q) ∈ r.requestSet n := by
  rw [mem_placeAll_row (requestSet_slotsApart r n)]
  exact or_iff_left fun h => hnone h.1

/-! ### What an operation leaves -/

/-- From `s` to `t` the record of an id has become `x`, and of the Closure Table nothing else has changed. -/
structure Wrote (id : Nat) (x : ClosureRecord) (s t : State) : Prop where
  record : t.record id = some x
  others : ∀ j, j ≠ id → t.record j = s.record j
  refused : t.clt.refused = s.clt.refused
  orphans : t.clt.orphans = s.clt.orphans

theorem Wrote.refl (h : s.record id = some x) : Wrote id x s s := ⟨h, fun _ _ => rfl, rfl, rfl⟩

theorem Wrote.trans (h : Wrote id x s t) (g : Wrote id y t u) : Wrote id y s u :=
  ⟨g.record, fun j hj => (g.others j hj).trans (h.others j hj), g.refused.trans h.refused, g.orphans.trans h.orphans⟩

/-- A record put in the table, the requests changed before or after. -/
theorem wrote_putRecord (hclt : u.clt = s.clt) (hid : x.id = id) : Wrote id x s (u.putRecord x) := by
  subst hid
  have hrecord : u.record = s.record := by unfold State.record; rw [hclt]
  have hrefused : (u.putRecord x).clt.refused = u.clt.refused := rfl
  have horphans : (u.putRecord x).clt.orphans = u.clt.orphans := rfl
  refine ⟨putRecord_record_same .., fun j hj => ?_, by rw [hrefused, hclt], by rw [horphans, hclt]⟩
  rw [putRecord_record, if_neg hj, hrecord]

/-- The record's own requests stand as they stood. -/
def OwnKept (id : Nat) (s t : State) : Prop :=
  ∀ (a : Addr) (q : Request), q.source.ownOf id = true → (q ∈ (t.display a).row ↔ q ∈ (s.display a).row)

theorem OwnKept.of_display (h : t.display = s.display) : OwnKept id s t := fun a q _ => by rw [h]

theorem OwnKept.trans (h : OwnKept id s t) (g : OwnKept id t u) : OwnKept id s u :=
  fun a q hq => (g a q hq).trans (h a q hq)

/-! ### Proof and substitution -/

theorem stageAfterProof_runs {cs : List ProofClass} {st : Stage} (h : st.proofRuns = true) :
    (stageAfterProof cs st).proofRuns = true := by
  rcases stageAfterProof_cases cs st with h' | h' | h' <;> rw [h']
  · rfl
  · exact h
  · rfl

/-- R119, R120: proof changes the stage alone, and that among the stages in which it runs. -/
theorem prove_wrote (hr : w.s.record id = some r) :
    ∃ st, Wrote id { r with stage := st } w.s (w.prove id).s ∧ (w.prove id).s.display = w.s.display ∧
      (r.stage.proofRuns = true → st.proofRuns = true) ∧ (r.awaiting ≠ [] → st = r.stage) := by
  have hid : r.id = id := record_id w.s hr
  unfold Work.prove
  rw [hr]
  dsimp only
  split
  case isTrue h =>
    exact ⟨_, wrote_putRecord rfl hid, rfl, stageAfterProof_runs, fun hw => absurd h.2 hw⟩
  case isFalse => exact ⟨r.stage, .refl hr, rfl, fun h => h, fun _ => rfl⟩

theorem substRequest_source (z : Lane × Aspect) : (r.substRequest z).2.source = r.substSource := rfl

theorem ownKept_substituted (id : Nat) (s : State) (zs : List (Lane × Aspect)) (r : ClosureRecord) :
    OwnKept id s ((s.withdrawSubst id).placeAll (zs.map r.substRequest)) := by
  intro a q hq
  obtain ⟨anchor, hsrc⟩ := source_of_ownOf hq
  rw [mem_placeAll_other, mem_withdrawSubst_row, hsrc]
  · exact and_iff_left rfl
  · intro z hz
    obtain ⟨y, -, rfl⟩ := List.mem_map.1 hz
    rw [hsrc, substRequest_source]
    exact Source.noConfusion

/-- R131: substitution changes the substitution and, by proof, the stage; the record's own requests stand. -/
theorem substitute_wrote (hr : w.s.record id = some r) :
    ∃ st sub, Wrote id { r with stage := st, substitution := sub } w.s (w.substitute id).s ∧
      OwnKept id w.s (w.substitute id).s ∧ (r.stage.proofRuns = true → st.proofRuns = true) := by
  have hid : r.id = id := record_id w.s hr
  unfold Work.substitute
  rw [hr]
  dsimp only
  split
  · exact ⟨r.stage, r.substitution, .refl hr, .of_display rfl, fun h => h⟩
  · have hput : Wrote id { r with substitution := w.s.substitutionOf r } w.s
        (((w.s.withdrawSubst id).placeAll ((w.s.substitutionOf r).map r.substRequest)).putRecord
          { r with substitution := w.s.substitutionOf r }) := wrote_putRecord (placeAll_same ..).clt hid
    obtain ⟨st, hprove, hdisplay, hruns, -⟩ := prove_wrote (w := Work.put
      { w with s := (w.s.withdrawSubst id).placeAll ((w.s.substitutionOf r).map r.substRequest) }
      { r with substitution := w.s.substitutionOf r }) hput.record
    exact ⟨st, _, hput.trans hprove, (ownKept_substituted id w.s _ r).trans (.of_display hdisplay), hruns⟩

/-! ### The lead report and the clear report -/

/-- R117, R127, R133: the red crosses placed, the record waits for nothing. -/
theorem leadGo_wrote (hst : r.stage = .waitLead ∨ r.stage.proofRuns = true) :
    ∃ st, st.proofRuns = true ∧
      Wrote r.id { r with stage := st, waitTime := none, awaiting := [], legendWaits := false } w.s (w.leadGo r).s ∧
      (w.leadGo r).s.display = (w.s.placeAll (r.requestSet w.s.lanes)).display := by
  have hstart : (if r.stage = .waitLead then Stage.setting else r.stage).proofRuns = true := by
    split
    · rfl
    case isFalse h => exact hst.resolve_left h
  have hput : Wrote r.id _ w.s ((w.s.placeAll (r.requestSet w.s.lanes)).putRecord
      { r with stage := if r.stage = .waitLead then .setting else r.stage, waitTime := none, awaiting := [],
               legendWaits := false }) := wrote_putRecord (placeAll_same ..).clt rfl
  obtain ⟨st, hprove, hdisplay, hruns, -⟩ := prove_wrote
    (w := ((({ w with s := w.s.placeAll (r.requestSet w.s.lanes) } : Work).put
      { r with stage := if r.stage = .waitLead then .setting else r.stage, waitTime := none, awaiting := [],
               legendWaits := false }).telling
        ((if r.stage = .waitLead then Stage.setting else r.stage) != r.stage))) hput.record
  exact ⟨st, hruns hstart, hput.trans hprove, hdisplay⟩

theorem checkLead_of_reported (hr : w.s.record id = some r) (hw : r.waitsForLead = true) (h : w.s.leadReported r = true) :
    w.checkLead id = w.leadGo r := by
  unfold Work.checkLead
  rw [hr]
  exact if_pos ⟨hw, h⟩

theorem checkLead_of_unreported (hr : w.s.record id = some r) (h : w.s.leadReported r = false) : w.checkLead id = w := by
  unfold Work.checkLead
  rw [hr]
  exact if_neg fun g => by rw [h] at g; cases g.2

/-- R121, R123: a record that ends holds no request and is a tombstone. -/
theorem bury_wrote (w : Work) (r : ClosureRecord) :
    Wrote r.id r.tombstone w.s (w.bury r).s ∧ (w.bury r).s.display = (w.s.withdrawRecord r.id).display :=
  ⟨wrote_putRecord (x := r.tombstone) (u := w.s.withdrawRecord r.id) rfl rfl, rfl⟩

theorem checkClear_of_reported (hr : w.s.record id = some r) (hst : r.stage = .waitClear) (h : w.s.clearReported r = true) :
    w.checkClear id = w.bury r := by
  unfold Work.checkClear
  rw [hr]
  exact if_pos ⟨hst, h⟩

theorem checkClear_of_unreported (hr : w.s.record id = some r) (h : w.s.clearReported r = false) : w.checkClear id = w := by
  unfold Work.checkClear
  rw [hr]
  exact if_neg fun g => by rw [h] at g; cases g.2

/-! ### Release (R121, R122) -/

/-- A lead-in record that waits to clear. -/
def ClosureRecord.waitingClear (r : ClosureRecord) : ClosureRecord :=
  { r with stage := .waitClear, waitTime := some 10000, pendingMod := none }

theorem release_settled (h : r.stage = .waitClear ∨ r.stage = .released) : w.release r = w.put r := if_pos h

theorem release_anchor (hlive : r.stage ≠ .released) (hw : r.stage ≠ .waitClear) (h : r.role = some .atAnchor ∨ r.role = none) :
    w.release r = w.bury r := by
  unfold Work.release
  rw [if_neg fun g => g.elim hw hlive, if_pos h]

/-- What the reports of the neighbours and the lane count depend on. -/
theorem reports_congr (hstu : t.stu = s.stu) (hnbt : t.nbt = s.nbt) : t.reports = s.reports ∧ t.lacksId = s.lacksId := by
  constructor
  · funext k id gen st
    unfold State.reports State.entryAt State.offset State.position
    rw [hstu, hnbt]
  · funext k id
    unfold State.lacksId State.entryAt State.offset State.position
    rw [hstu, hnbt]

theorem release_lead (hlive : r.stage ≠ .released) (hw : r.stage ≠ .waitClear) (ha : r.role ≠ some .atAnchor)
    (hn : r.role ≠ none) :
    w.release r =
      if w.s.clearReported r then ((w.put r.waitingClear).telling true).bury r.waitingClear
      else (w.put r.waitingClear).telling true := by
  have hfound : ((w.put r.waitingClear).telling true).s.record r.id = some r.waitingClear := putRecord_record_same ..
  have hclear : ((w.put r.waitingClear).telling true).s.clearReported r.waitingClear = w.s.clearReported r := by
    obtain ⟨hrep, hlacks⟩ := reports_congr (s := w.s) (t := ((w.put r.waitingClear).telling true).s) rfl rfl
    unfold State.clearReported
    rw [hrep, hlacks]
    rfl
  have hrelease : w.release r = ((w.put r.waitingClear).telling true).checkClear r.id := by
    unfold Work.release
    rw [if_neg fun g => g.elim hw hlive, if_neg fun g => g.elim ha hn]
    rfl
  rw [hrelease]
  cases h : w.s.clearReported r
  · exact checkClear_of_unreported hfound (hclear.trans h)
  · exact checkClear_of_reported hfound rfl (hclear.trans h)

end Sys2Proof.Machine
end

section
/-! What an event of the Closure Table leaves of the part (R110, R111), and O33 to O37: releases, expiries, the clear wait,
the lead wait and the ORPHAN_CLEAR frame. -/

namespace Sys2Proof.Machine

variable {s t u : State} {w : Work} {id : Nat} {r x y : ClosureRecord} {q : Request} {f : Work → Work}

/-! ### What an event leaves -/

/-- The work that an event of the Closure Table begins with. -/
def State.work (s : State) : Work := ⟨s, false⟩

theorem event_frame (h : ∀ w, WorkSame w (f w)) : s.sameBut [.stu, .msu, .spc, .clt, .asa] (s.closureEvent f).drive :=
  ((closureEvent_same s f h).sameBut.mono (by simp)).trans ((drive_sameBut _).mono (by simp))

theorem event_clt (s : State) (f : Work → Work) : (s.closureEvent f).drive.clt = (f s.work).s.clt := by
  have hsettled := settle_same (f s.work).s
  rw [drive_clt]
  rcases closureEvent_cases s f with ⟨-, heq⟩ | ⟨-, heq⟩
  · rw [heq, (recompute_same _).clt]
    exact hsettled.clt
  · rw [heq]
    exact hsettled.clt

theorem event_record (s : State) (f : Work → Work) (j : Nat) : (s.closureEvent f).drive.record j = (f s.work).s.record j := by
  unfold State.record; rw [event_clt]

theorem event_wrote (f : Work → Work) (h : Wrote id x s (f s.work).s) : Wrote id x s (s.closureEvent f).drive :=
  ⟨(event_record ..).trans h.record, fun j hj => (event_record ..).trans (h.others j hj),
    (congrArg Clt.refused (event_clt s f)).trans h.refused, (congrArg Clt.orphans (event_clt s f)).trans h.orphans⟩

/-- R85, R90: the review of the Speed Computer's requests touches requests of its own alone. -/
theorem mem_setRequests_row (hspc : q.source ≠ .spc) (a : Addr) :
    q ∈ (s.setRequests.display a).row ↔ q ∈ (s.display a).row := by
  have hset : ∀ (u : State) (b : Addr) (lv : Level) (z : Option Aspect),
      q ∈ ((u.setSpc b lv z).display a).row ↔ q ∈ (u.display a).row := fun u b lv z => by
    rw [mem_setSpc_row]
    constructor
    · rintro (⟨-, y, -, rfl⟩ | ⟨h, -⟩)
      · exact absurd rfl hspc
      · exact h
    · exact fun h => .inr ⟨h, fun g => hspc g.2.2⟩
  have hfold : ∀ (g : State → Lane → State), (∀ u l, q ∈ ((g u l).display a).row ↔ q ∈ (u.display a).row) →
      ∀ (ls : List Lane) (u : State), q ∈ ((ls.foldl g u).display a).row ↔ q ∈ (u.display a).row := fun g hg ls u =>
    foldl_keeps (R := fun u v : State => q ∈ (v.display a).row ↔ q ∈ (u.display a).row) (fun _ => .rfl)
      (fun _ _ _ h k => k.trans h) g hg ls u
  unfold State.setRequests State.setLegends
  rw [hset, hset]
  exact (hfold _ (fun _ _ => hset ..) _ _).trans (hfold _ (fun _ _ => hset ..) _ _)

/-- An event leaves every request that is neither the Speed Computer's nor ENCLOSED as the operations left it. -/
theorem event_row (hspc : q.source ≠ .spc) (henc : q.source ≠ .enclosed) (a : Addr) :
    q ∈ ((s.closureEvent f).drive.display a).row ↔ q ∈ ((f s.work).s.display a).row := by
  rw [drive_display]
  rcases closureEvent_cases s f with ⟨-, heq⟩ | ⟨-, heq⟩
  · rw [heq]
    unfold State.recompute
    dsimp only
    rw [reviewRequests_eq, mem_settle_row (.inr henc), mem_setRequests_row hspc]
    exact mem_settle_row (.inr henc) a
  · rw [heq]
    exact mem_settle_row (.inr henc) a

theorem event_own_row (h : q.source.ownOf id = true) (a : Addr) :
    q ∈ ((s.closureEvent f).drive.display a).row ↔ q ∈ ((f s.work).s.display a).row := by
  obtain ⟨anchor, hsrc⟩ := source_of_ownOf h
  exact event_row (by rw [hsrc]; exact Source.noConfusion) (by rw [hsrc]; exact Source.noConfusion) a

theorem event_ownKept (f : Work → Work) (h : OwnKept id s (f s.work).s) : OwnKept id s (s.closureEvent f).drive :=
  fun a q hq => (event_own_row hq a).trans (h a q hq)

/-- No request of a record is on the signs. -/
def NoneOf (id : Nat) (s : State) : Prop :=
  ∀ a, ∀ q ∈ (s.display a).row, q.source.ownOf id = false ∧ q.source.substOf id = false

theorem noneOf_withdrawRecord (h : t.display = (s.withdrawRecord id).display) : NoneOf id t := fun a q hq => by
  rw [h, mem_withdrawRecord_row] at hq
  exact hq.2

theorem event_noneOf (f : Work → Work) (h : NoneOf id (f s.work).s) : NoneOf id (s.closureEvent f).drive := by
  intro a q hq
  constructor
  · cases hown : q.source.ownOf id
    · rfl
    · rw [event_own_row hown] at hq
      exact absurd (h a q hq).1 (by rw [hown]; decide)
  · cases hsub : q.source.substOf id
    · rfl
    · obtain ⟨anchor, hsrc⟩ := source_of_substOf hsub
      rw [event_row (by rw [hsrc]; exact Source.noConfusion) (by rw [hsrc]; exact Source.noConfusion)] at hq
      exact absurd (h a q hq).2 (by rw [hsub]; decide)

/-- R110: an event of which the Speed Computer is not told leaves it, but for the posted limit. -/
theorem event_untold (h : (f s.work).tell = false) (hspc : (f s.work).s.spc = s.spc) :
    (s.closureEvent f).drive.spc.target = s.spc.target ∧ (s.closureEvent f).drive.spc.stages = s.spc.stages := by
  have hsettled := settle_same (f s.work).s
  rcases closureEvent_cases s f with ⟨htold, -⟩ | ⟨-, heq⟩
  · exact absurd (htold.symm.trans h) (by decide)
  · have hsame : (s.closureEvent f).spc = s.spc := by
      rw [heq]
      exact hsettled.spc.trans hspc
    rw [drive_target, drive_stages, hsame]
    exact ⟨rfl, rfl⟩

/-! ### Release and burial in an event -/

/-- R121, R123: the record ended for good, in the table and on the signs. -/
theorem bury_noneOf (w : Work) (r : ClosureRecord) : NoneOf r.id (w.bury r).s := noneOf_withdrawRecord (bury_wrote w r).2

theorem release_ends (hlive : r.stage ≠ .released) (hw : r.stage ≠ .waitClear)
    (h : r.role = some .atAnchor ∨ r.role = none ∨ w.s.clearReported r = true) :
    Wrote r.id r.tombstone w.s (w.release r).s ∧ NoneOf r.id (w.release r).s := by
  by_cases ha : r.role = some .atAnchor ∨ r.role = none
  · rw [release_anchor hlive hw ha]
    exact ⟨(bury_wrote w r).1, bury_noneOf w r⟩
  · obtain ⟨hna, hnn⟩ := not_or.1 ha
    rw [release_lead hlive hw hna hnn, if_pos ((h.resolve_left hna).resolve_left hnn)]
    have hput : Wrote r.id r.waitingClear w.s (w.put r.waitingClear).s := wrote_putRecord rfl rfl
    exact ⟨hput.trans (bury_wrote ((w.put r.waitingClear).telling true) r.waitingClear).1, bury_noneOf _ r.waitingClear⟩

theorem release_waits (hlive : r.stage ≠ .released) (hw : r.stage ≠ .waitClear) (ha : r.role ≠ some .atAnchor)
    (hn : r.role ≠ none) (h : w.s.clearReported r = false) :
    Wrote r.id r.waitingClear w.s (w.release r).s ∧ (w.release r).s.display = w.s.display := by
  rw [release_lead hlive hw ha hn, h]
  exact ⟨wrote_putRecord rfl rfl, rfl⟩

theorem clearReported_iff : s.clearReported r = true ↔ s.reports 1 r.id r.gen .released = true ∨ s.lacksId 1 r.id = true :=
  Bool.or_eq_true_iff

/-! ### O33 -/

section
variable {g : RxFrame} {p : Received} {c : ReleaseFields}

theorem exec_release (hbus : s.onBus = true) (hcalm : ∀ e ∈ s.nbt, e.gone = false ∧ e.newlyStale = false)
    (hf : checkFrame g = some p) (hk : p.kind = .release) (hc : releaseOf p.payload = some c) :
    exec (.releaseReceived g) s = .next (s.lined.closureEvent fun w => w.takeRelease c).drive := by
  have hexec := exec_accepted hbus hcalm hf hk
  rw [State.takeFrame, hk] at hexec
  dsimp only at hexec
  rw [hc] at hexec
  exact hexec

theorem released_frame (s : State) (c : ReleaseFields) :
    s.sameBut [.stu, .msu, .crl, .spc, .clt, .asa] (s.lined.closureEvent fun w => w.takeRelease c).drive :=
  ((lined_sameBut s).mono (by simp)).trans
    ((event_frame (s := s.lined) fun w => takeRelease_work_same w c).mono (by simp))

theorem takeRelease_held (h0 : c.id ≠ 0) (hx : w.s.record c.id = some x) : w.takeRelease c = w.releaseHeld x c.gen := by
  unfold Work.takeRelease
  rw [if_neg h0, hx]

theorem takeRelease_unknown (h0 : c.id ≠ 0) (hx : w.s.record c.id = none) :
    w.takeRelease c =
      if w.s.position ≤ c.anchor ∧ c.anchor ≤ w.s.position + 3 ∧ w.s.clt.records.length < 8 then
        ({ w with s := w.s.unrefuse c.id } : Work).put (bareTombstone c)
      else { w with s := w.s.unrefuse c.id } := by
  unfold Work.takeRelease
  rw [if_neg h0, hx]
  rfl

theorem live_iff : x.live = true ↔ x.stage ≠ .released := by simp [ClosureRecord.live]

theorem refused_filter (s : State) (id : Nat) : (s.unrefuse id).clt.refused = s.clt.refused.filter fun q => q.id ≠ id :=
  List.filter_congr fun _ _ => by rw [Bool.eq_iff_iff, bne_iff_ne, decide_eq_true_iff]

theorem length_putRecord (hs : s.closuresSound) (hx : s.record x.id ≠ none) :
    (s.putRecord x).clt.records.length = s.clt.records.length := by
  obtain ⟨y, hy⟩ := Option.ne_none_iff_exists'.1 hx
  have hrecords : (s.putRecord x).clt.records = insertBy ClosureRecord.id x s.clt.records := insertRecord_eq ..
  rw [hrecords]
  exact length_insertBy_of_mem ((closuresSound_iff s).1 hs).2 ⟨y, mem_records_of_record s hy, record_id s hy⟩

theorem event_length (f : Work → Work) (h : (f s.work).s.clt.records.length = s.clt.records.length) :
    (s.closureEvent f).drive.clt.records.length = s.clt.records.length :=
  (congrArg (fun x : Clt => x.records.length) (event_clt s f)).trans h

/-- R103, R122: a tombstone or a record in WAIT_CLEAR once a release with a gen has reached it. -/
def ClosureRecord.renewed (x : ClosureRecord) (gen : Gen) : ClosureRecord :=
  if newerGen gen x.gen = true then
    { x with gen := gen, tombTime := if x.stage = .released then some 300000 else x.tombTime }
  else x

theorem renewed_id (x : ClosureRecord) (gen : Gen) : (x.renewed gen).id = x.id := by
  unfold ClosureRecord.renewed; split <;> rfl

theorem releaseHeld_settled (h : x.stage = .released ∨ x.stage = .waitClear) (gen : Gen) :
    w.releaseHeld x gen = w ∧ x.renewed gen = x ∨ w.releaseHeld x gen = w.put (x.renewed gen) := by
  unfold Work.releaseHeld ClosureRecord.renewed
  rcases h with h | h
  · rw [if_neg (by simp [ClosureRecord.live, h])]
    by_cases hn : newerGen gen x.gen = true
    · rw [if_pos hn, if_pos hn, if_pos h]; exact .inr rfl
    · rw [if_neg hn, if_neg hn]; exact .inl ⟨rfl, rfl⟩
  · rw [if_pos (by simp [ClosureRecord.live, h]), release_settled (r := { x with gen := gen }) (.inl h)]
    by_cases hn : newerGen gen x.gen = true
    · rw [if_pos (.inr hn), if_pos hn, if_neg (by rw [h]; decide)]
      exact .inr rfl
    · rw [if_neg hn]
      split
      case isTrue hgen => obtain rfl := hgen.resolve_right hn; exact .inr rfl
      case isFalse => exact .inl ⟨rfl, rfl⟩

theorem releaseHeld_live (hl : x.stage ≠ .released) {gen : Gen} (hg : gen = x.gen ∨ newerGen gen x.gen = true) :
    w.releaseHeld x gen = w.release { x with gen := gen } := by
  unfold Work.releaseHeld
  rw [if_pos (live_iff.2 hl), if_pos hg]

theorem releaseHeld_older {gen : Gen} (hne : gen ≠ x.gen) (hg : newerGen gen x.gen = false) : w.releaseHeld x gen = w := by
  unfold Work.releaseHeld
  rw [hg]
  split
  · exact if_neg fun h => h.elim hne (by decide)
  · exact if_neg (by decide)

/-- R103, R121, R122: what a RELEASE frame leaves of a live record that does not wait to clear. -/
theorem takeRelease_ends (h0 : c.id ≠ 0) (hx : s.record c.id = some x) (hl : x.stage ≠ .released)
    (hg : c.gen = x.gen ∨ newerGen c.gen x.gen = true) :
    s.work.takeRelease c = s.work.release { x with gen := c.gen } := by
  rw [takeRelease_held h0 hx, releaseHeld_live hl hg]

/-- Settles O33. -/
theorem releaseFrameActs : Obligations.ReleaseFrameActs := by
  refine ⟨fun s g p c x hbus hcalm hsound hf hk hc h0 hx hl hw hgen => ?_,
    fun s g p c hbus hcalm hsound hf hk hc => ⟨fun h0 hnone hlo hhi hroom => ?_, fun hold => ?_⟩,
    fun s g p c hbus hcalm hsound hf hk hc h0 => ⟨fun x hx hst => ?_, fun hnone hno => ?_⟩⟩
  · have hid : x.id = c.id := record_id s hx
    have hwork := takeRelease_ends (s := s.lined) h0 hx hl hgen
    have hreported : s.lined.clearReported { x with gen := c.gen } = true ↔
        s.reports 1 c.id c.gen .released = true ∨ s.lacksId 1 c.id = true := by
      rw [← hid]
      exact clearReported_iff
    by_cases hends : x.role = some .atAnchor ∨ x.role = none ∨ s.lined.clearReported { x with gen := c.gen } = true
    · obtain ⟨hwrote, hnone⟩ := release_ends (w := s.lined.work) (r := { x with gen := c.gen }) hl hw hends
      rw [← hwork] at hwrote hnone
      have h := event_wrote (·.takeRelease c) hwrote
      refine ⟨_, exec_release hbus hcalm hf hk hc, released_frame s c, ?_, h.refused, h.orphans, fun _ => ⟨?_, ?_⟩,
        fun ha hn hr => ?_⟩
      · rw [← hid]; exact h.others
      · rw [← hid]; exact h.record
      · rw [← hid]; exact event_noneOf (·.takeRelease c) hnone
      · exact absurd (hreported.1 ((hends.resolve_left ha).resolve_left hn)) hr
    · obtain ⟨ha, hn, hr⟩ : x.role ≠ some .atAnchor ∧ x.role ≠ none ∧ _ := by simpa only [not_or] using hends
      obtain ⟨hwrote, hdisplay⟩ := release_waits (w := s.lined.work) (r := { x with gen := c.gen }) hl hw ha hn
        (Bool.eq_false_iff.2 hr)
      rw [← hwork] at hwrote hdisplay
      have h := event_wrote (·.takeRelease c) hwrote
      refine ⟨_, exec_release hbus hcalm hf hk hc, released_frame s c, ?_, h.refused, h.orphans, fun hends => ?_,
        fun _ _ _ => ⟨?_, ?_⟩⟩
      · rw [← hid]; exact h.others
      · exact hends.elim (fun h => absurd h ha) fun h => absurd (hreported.2 h.2) hr
      · rw [← hid]; exact h.record
      · rw [← hid]; exact event_ownKept (·.takeRelease c) (.of_display hdisplay)
  · have hwork : s.lined.work.takeRelease c = ({ s.lined.work with s := s.lined.unrefuse c.id } : Work).put (bareTombstone c) :=
      (takeRelease_unknown (w := s.lined.work) h0 hnone).trans (if_pos ⟨hlo, hhi, hroom⟩)
    have hput : Wrote c.id (bareTombstone c) (s.lined.unrefuse c.id)
        (({ s.lined.work with s := s.lined.unrefuse c.id } : Work).put (bareTombstone c)).s := wrote_putRecord rfl rfl
    rw [← hwork] at hput
    refine ⟨_, exec_release hbus hcalm hf hk hc, released_frame s c, ?_, fun j hj => ?_, ?_⟩
    · exact (congrArg Clt.refused (event_clt ..)).trans (hput.refused.trans (refused_filter s c.id))
    · exact (event_record ..).trans (hput.others j hj)
    · exact (event_record ..).trans hput.record
  · have hwork : s.lined.work.takeRelease c = s.lined.work := by
      rcases hold with h0 | ⟨x, hx, hne, hn⟩
      · exact if_pos h0
      · by_cases h0 : c.id = 0
        · exact if_pos h0
        · exact (takeRelease_held (w := s.lined.work) h0 hx).trans (releaseHeld_older hne hn)
    refine ⟨_, exec_release hbus hcalm hf hk hc, released_frame s c, (event_clt ..).trans ?_⟩
    rw [hwork]
    rfl
  · have hid : x.id = c.id := record_id s hx
    have hwrote : Wrote c.id (x.renewed c.gen) s.lined (s.lined.work.takeRelease c).s ∧
        (s.lined.work.takeRelease c).s.display = s.display ∧
        (s.lined.work.takeRelease c).s.clt.records.length = s.clt.records.length := by
      rw [takeRelease_held (w := s.lined.work) h0 hx]
      rcases releaseHeld_settled (w := s.lined.work) hst c.gen with ⟨heq, hsame⟩ | heq
      · rw [heq, hsame]
        exact ⟨.refl hx, rfl, rfl⟩
      · rw [heq]
        exact ⟨wrote_putRecord rfl ((renewed_id ..).trans hid), rfl,
          length_putRecord (s := s.lined) hsound (by rw [renewed_id, hid]; exact (hx ▸ Option.some_ne_none x :))⟩
    obtain ⟨hwrote, hdisplay, hlength⟩ := hwrote
    have h := event_wrote (·.takeRelease c) hwrote
    exact ⟨_, exec_release hbus hcalm hf hk hc, released_frame s c, h.refused, h.orphans, event_length (·.takeRelease c) hlength, h.others,
      h.record, event_ownKept (·.takeRelease c) (.of_display hdisplay)⟩
  · have hwork : s.lined.work.takeRelease c = { s.lined.work with s := s.lined.unrefuse c.id } :=
      (takeRelease_unknown (w := s.lined.work) h0 hnone).trans (if_neg (by
        rintro ⟨hlo, hhi, hroom⟩
        have hlo : s.position ≤ c.anchor := hlo
        have hhi : c.anchor ≤ s.position + 3 := hhi
        have hroom : s.clt.records.length < 8 := hroom
        omega))
    refine ⟨_, exec_release hbus hcalm hf hk hc, released_frame s c, (event_clt ..).trans ?_⟩
    rw [hwork, ← refused_filter]
    rfl

end

end Sys2Proof.Machine
end

section
/-! O34 to O37: the ORPHAN_CLEAR frame (R104) and the expiries of the Closure Table's timers (R96, R102, R117, R123, R124). -/

namespace Sys2Proof.Machine

variable {s t : State} {w : Work} {id : Nat} {r x y : ClosureRecord} {q : Request} {f : Work → Work}

/-! ### Events that are not told to the Speed Computer -/

theorem event_row_untold (f : Work → Work) (h : (f s.work).tell = false) (henc : q.source ≠ .enclosed) (a : Addr) :
    q ∈ ((s.closureEvent f).drive.display a).row ↔ q ∈ ((f s.work).s.display a).row := by
  rw [drive_display]
  rcases closureEvent_cases s f with ⟨htold, -⟩ | ⟨-, heq⟩
  · exact absurd (htold.symm.trans h) (by decide)
  · rw [heq]
    exact mem_settle_row (.inr henc) a

/-! ### O34 -/

section
variable {g : RxFrame} {p : Received} {m n : Nat} {l : Lane}

theorem exec_orphanClear (hbus : s.onBus = true) (hcalm : ∀ e ∈ s.nbt, e.gone = false ∧ e.newlyStale = false)
    (hf : checkFrame g = some p) (hk : p.kind = .orphanClear) (hc : orphanClearOf p.payload = some (m, n)) :
    exec (.orphanClearReceived g) s = .next (s.lined.takeOrphanClear m n).drive := by
  have hexec := exec_accepted hbus hcalm hf hk
  rw [State.takeFrame, hk] at hexec
  dsimp only at hexec
  rw [hc] at hexec
  exact hexec

theorem takeOrphanClear_orphan (hm : m = s.position) (hl : laneOf n = some l) (ho : l ∈ s.clt.orphans) :
    s.takeOrphanClear m n = s.closureEvent fun w => { w with s := w.s.dropOrphan l } := by
  unfold State.takeOrphanClear
  rw [if_pos hm, hl]
  exact if_pos (List.contains_iff_mem.2 ho)

theorem takeOrphanClear_other (h : m ≠ s.position ∨ ∀ l, laneOf n = some l → l ∉ s.clt.orphans) : s.takeOrphanClear m n = s := by
  unfold State.takeOrphanClear
  by_cases hm : m = s.position
  · rw [if_pos hm]
    split
    case h_1 l hl => exact if_neg fun hc => h.elim (absurd hm) fun h => h l hl (List.contains_iff_mem.1 hc)
    case h_2 => rfl
  · rw [if_neg hm]

theorem dropOrphan_clt (s : State) (l : Lane) :
    (s.dropOrphan l).clt = { s.clt with orphans := s.clt.orphans.filter fun x => x ≠ l } := by
  have hfilter : (s.clt.orphans.filter fun x => x != l) = s.clt.orphans.filter fun x => decide (x ≠ l) :=
    List.filter_congr fun _ _ => by rw [Bool.eq_iff_iff, bne_iff_ne, decide_eq_true_iff]
  rw [← hfilter]
  exact (withdraw_same ..).clt

theorem mem_dropOrphan_row (l : Lane) (a : Addr) :
    q ∈ ((s.dropOrphan l).display a).row ↔
      q ∈ (s.display a).row ∧ ¬ (a = laneAddr l ∧ q.level = .closed ∧ q.source = .orphan l) :=
  mem_withdraw_row (s := { s with clt := { s.clt with orphans := s.clt.orphans.filter fun x => x != l } }) ..

/-- Settles O34. -/
theorem orphanClearRemovesOrphan : Obligations.OrphanClearRemovesOrphan := by
  refine fun s g p m n hbus hcalm hf hk hc => ⟨fun l hm hl ho => ?_, fun hno => ?_⟩
  · have hexec := exec_orphanClear hbus hcalm hf hk hc
    rw [takeOrphanClear_orphan (s := s.lined) hm hl ho] at hexec
    have hrow : ∀ (a : Addr) (q : Request), q.source ≠ .enclosed →
        (q ∈ ((s.lined.closureEvent fun w => { w with s := w.s.dropOrphan l }).drive.display a).row ↔
          q ∈ (s.display a).row ∧ ¬ (a = laneAddr l ∧ q.level = .closed ∧ q.source = .orphan l)) := fun a q henc =>
      (event_row_untold (fun w => { w with s := w.s.dropOrphan l }) rfl henc a).trans (mem_dropOrphan_row l a)
    have hspc : (s.lined.dropOrphan l).spc = s.spc := (withdraw_same ..).spc
    refine ⟨_, hexec, ((lined_sameBut s).mono (by simp)).trans
      ((event_frame (s := s.lined) (f := fun w => { w with s := w.s.dropOrphan l }) fun w => dropOrphan_same w.s l).mono (by simp)), (event_clt ..).trans (dropOrphan_clt ..),
      (event_untold (s := s.lined) (f := fun w => { w with s := w.s.dropOrphan l }) rfl hspc).1,
      fun q hq hlevel hsource => ?_, fun a q hsource henc => ?_⟩
    · exact ((hrow _ q (by rw [hsource]; exact Source.noConfusion)).1 hq).2 ⟨rfl, hlevel, hsource⟩
    · rw [hrow a q henc]
      exact and_iff_left fun h => hsource h.2.2
  · have hexec := exec_orphanClear hbus hcalm hf hk hc
    rw [takeOrphanClear_other (s := s.lined) hno] at hexec
    exact hexec

end

/-! ### An expiry (R96, R117, R123, R124) -/

theorem expire_due (hbus : s.onBus = true) (hx : s.record id = some x) {due : ClosureRecord → Bool} (hdue : due x = true)
    (f : Work → ClosureRecord → Work) : s.expire id due f = (s.closureEvent fun w => f w x).drive := by
  unfold State.expire
  rw [hx]
  exact if_pos ⟨hbus, hdue⟩

theorem expire_early (hx : s.record id = some x) {due : ClosureRecord → Bool} (hdue : due x = false)
    (f : Work → ClosureRecord → Work) : s.expire id due f = s := by
  unfold State.expire
  rw [hx]
  exact if_neg fun h => by rw [hdue] at h; cases h.2

theorem stage_counts_iff {st : Stage} : st.counts = true ↔ st ≠ .released ∧ st ≠ .waitClear := by cases st <;> decide

theorem exec_closureExpiry (hbus : s.onBus = true) (hx : s.record id = some x) (hl : x.stage ≠ .released)
    (hw : x.stage ≠ .waitClear) (he : x.expiry = some 0) :
    exec (.closureExpiry id) s = .next (s.closureEvent fun w => w.release x).drive :=
  congrArg Host.Outcome.next (expire_due hbus hx (by rw [stage_counts_iff.2 ⟨hl, hw⟩, he]; rfl) _)

/-- Settles O35. -/
theorem expiryAndClearWaitRelease : Obligations.ExpiryAndClearWaitRelease := by
  refine ⟨fun s id x hbus hsound hx hl hw => ⟨fun he ha => ?_, fun he ha hn hrel hlack => ?_, fun he => ?_⟩,
    fun s id x hbus hsound hx hst hwait => ?_⟩
  · obtain rfl : x.id = id := record_id s hx
    obtain ⟨hwrote, hnone⟩ := release_ends (w := s.work) hl hw (.inl ha)
    have h := event_wrote (·.release x) hwrote
    exact ⟨_, _, exec_closureExpiry hbus hx hl hw he, event_frame fun w => release_same w x, h.record, rfl, rfl, rfl, he,
      h.others, event_noneOf (·.release x) hnone⟩
  · obtain rfl : x.id = id := record_id s hx
    have hunreported : s.work.s.clearReported x = false := by
      show (s.reports 1 x.id x.gen .released || s.lacksId 1 x.id) = false
      rw [hrel, hlack]; rfl
    obtain ⟨hwrote, -⟩ := release_waits (w := s.work) hl hw ha hn hunreported
    have h := event_wrote (·.release x) hwrote
    exact ⟨_, exec_closureExpiry hbus hx hl hw he, event_frame fun w => release_same w x, h.record, h.others⟩
  · refine congrArg Host.Outcome.next (expire_early hx ?_ _)
    rw [Bool.and_eq_false_iff]
    exact .inr (beq_false_of_ne he)
  · obtain rfl : x.id = id := record_id s hx
    have hexec : exec (.clearWaitExpiry x.id) s = .next (s.closureEvent fun w => w.bury x).drive :=
      congrArg Host.Outcome.next (expire_due hbus hx (by rw [hst, hwait]; rfl) _)
    have h := event_wrote (·.bury x) (bury_wrote s.work x).1
    exact ⟨_, hexec, event_frame fun w => bury_same w x, h.record, event_noneOf (·.bury x) (bury_noneOf s.work x), h.others⟩

/-- Settles O36. -/
theorem tombstoneAndRefusedExpire : Obligations.TombstoneAndRefusedExpire := by
  refine ⟨fun s id x hbus hx hst htomb => ?_, fun s id hbus => ⟨fun ⟨q, hq, hid, hlife⟩ => ?_, fun hnone => ?_⟩⟩
  · obtain rfl : x.id = id := record_id s hx
    have hexec : exec (.tombstoneExpiry x.id) s =
        .next (s.closureEvent fun w => { w with s := w.s.dropRecord x.id }).drive :=
      congrArg Host.Outcome.next (expire_due hbus hx (by simp [ClosureRecord.live, hst, htomb]) _)
    have hfilter : (s.clt.records.filter fun r => r.id != x.id) = s.clt.records.filter fun r => decide (r.id ≠ x.id) :=
      List.filter_congr fun _ _ => by rw [Bool.eq_iff_iff, bne_iff_ne, decide_eq_true_iff]
    have huntold := event_untold (s := s) (f := fun w => { w with s := w.s.dropRecord x.id }) rfl rfl
    refine ⟨_, hexec, event_frame fun w => clt_same w.s _, (event_clt ..).trans ?_, huntold.1, huntold.2⟩
    rw [← hfilter]
    rfl
  · have hany : s.clt.refused.any (fun r => r.id == id && r.lifetime == 0) = true :=
      List.any_eq_true.2 ⟨q, hq, by simp [hid, hlife]⟩
    refine congrArg Host.Outcome.next ((if_pos ⟨hbus, hany⟩).trans ?_)
    rw [← refused_filter]
    rfl
  · refine congrArg Host.Outcome.next (if_neg fun ⟨_, hany⟩ => ?_)
    obtain ⟨q, hq, h⟩ := List.any_eq_true.1 hany
    simp only [Bool.and_eq_true, beq_iff_eq] at h
    exact absurd (hnone q hq h.1) (by omega)

/-! ### O37 -/

theorem drain_of_none (hr : w.s.record id = some r) (h : r.pendingMod = none) : w.drain id = w := by
  unfold Work.drain
  rw [hr]
  dsimp only
  rw [h]

theorem waitsForLead_iff : x.waitsForLead = true ↔
    x.role = some .atAnchor ∧ (x.stage = .waitLead ∨ (x.stage = .setting ∧ x.awaiting ≠ [])) := by
  simp [ClosureRecord.waitsForLead]

theorem anchor_lane_mem {n : Nat} {l : Lane} (ha : x.role = some .atAnchor) (hl : l ∈ x.localLanes) :
    (laneAddr l, (⟨.closed, .closure x.id x.anchor, .redX⟩ : Request)) ∈ x.requestSet n := by
  unfold ClosureRecord.requestSet ClosureRecord.laneRequests
  rw [ha]
  exact List.mem_append_left _ (List.mem_map.2 ⟨l, hl, rfl⟩)

theorem anchor_legend_mem {n : Nat} (ha : x.role = some .atAnchor) (hf : x.fullClosure = true) :
    (legendAddr, (⟨.roadClosed, .closure x.id x.anchor, .roadClosed⟩ : Request)) ∈ x.requestSet n := by
  unfold ClosureRecord.requestSet ClosureRecord.legendRequest
  rw [if_pos hf, ha]
  exact List.mem_append_right _ (by simp [ClosureRecord.source])

/-- Settles O37. -/
theorem leadWaitExpirySets : Obligations.LeadWaitExpirySets := by
  intro s id x hbus hsound hx ha hst hwait hmod
  obtain rfl : x.id = id := record_id s hx
  have hexec : exec (.leadWaitExpiry x.id) s = .next (s.closureEvent fun w => (w.leadGo x).drain x.id).drive :=
    congrArg Host.Outcome.next (expire_due hbus hx (by rw [waitsForLead_iff.2 ⟨ha, hst⟩, hwait]; rfl) _)
  have hruns : x.stage = .waitLead ∨ x.stage.proofRuns = true := hst.imp_right fun h => by rw [h.1]; rfl
  obtain ⟨st, hst', hwrote, hdisplay⟩ := leadGo_wrote (w := s.work) hruns
  have hdrain : (s.work.leadGo x).drain x.id = s.work.leadGo x := drain_of_none hwrote.record hmod
  have h := event_wrote (s := s) (fun w => (w.leadGo x).drain x.id) (by rw [hdrain]; exact hwrote)
  have hplaced : ∀ z ∈ x.requestSet s.lanes,
      z.2 ∈ ((s.closureEvent fun w => (w.leadGo x).drain x.id).drive.display z.1).row := fun z hz => by
    have hown : z.2.source.ownOf x.id = true := by rw [requestSet_source hz]; exact beq_self_eq_true _
    rw [event_own_row hown, hdrain, hdisplay]
    exact mem_placed_of_mem hz
  exact ⟨_, _, hexec, event_frame fun w => (leadGo_same w x).trans (drain_same ..), h.record, (proofRuns_iff st).1 hst', rfl,
    fun l hl => hplaced _ (anchor_lane_mem ha hl), fun hf => hplaced _ (anchor_legend_mem ha hf), h.others⟩

end Sys2Proof.Machine
end

section
/-! The start of a role and the modifications of a record (R116 to R118, R126, R127), each by what it leaves. -/

namespace Sys2Proof.Machine

variable {s t u : State} {w : Work} {id : Nat} {r x y : ClosureRecord} {q : Request}

theorem leadReported_congr (hstu : t.stu = s.stu) (hnbt : t.nbt = s.nbt) (hid : x.id = r.id) (hgen : x.gen = r.gen) :
    t.leadReported x = s.leadReported r := by
  unfold State.leadReported
  rw [(reports_congr hstu hnbt).1, hstu, hid, hgen]

theorem leadReported_iff : s.leadReported r = true ↔
    s.stu.straps.first = true ∨ s.reports (-1) r.id r.gen .proven = true ∨ s.reports (-1) r.id r.gen .degraded = true := by
  simp [State.leadReported, or_assoc]

/-! ### The lead (R117) -/

/-- A record put in the table that waits for its lead goes where the lead has reported, and waits where it has not. -/
theorem put_checkLead (hw : r.waitsForLead = true) (hid : r.id = id) :
    (w.put r).checkLead id = if w.s.leadReported r then (w.put r).leadGo r else w.put r := by
  subst hid
  have hfound : (w.put r).s.record r.id = some r := putRecord_record_same ..
  have hreported : (w.put r).s.leadReported r = w.s.leadReported r := leadReported_congr rfl rfl rfl rfl
  cases h : w.s.leadReported r
  · exact checkLead_of_unreported hfound (hreported.trans h)
  · exact checkLead_of_reported hfound hw (hreported.trans h)

/-! ### A role started (R116, R118) -/

/-- R116: an AT record that waits for its lead. -/
def ClosureRecord.waitingLead (r : ClosureRecord) : ClosureRecord := { r with stage := .waitLead, waitTime := some 10000 }

/-- R118: a lead-in record places its request set at once. -/
theorem startRole_lead (hrole : r.role ≠ some .atAnchor) :
    ∃ st sub, st.proofRuns = true ∧ Wrote r.id { r with stage := st, substitution := sub } w.s (w.startRole r).s ∧
      OwnKept r.id (w.s.placeAll (r.requestSet w.s.lanes)) (w.startRole r).s := by
  have hstart : w.startRole r = (((({ w with s := w.s.placeAll (r.requestSet w.s.lanes) } : Work).put
      { r with stage := .setting }).telling true).substitute r.id).prove r.id := by
    unfold Work.startRole
    split
    case h_1 h => exact absurd h hrole
    case h_2 => rfl
  have hput : Wrote r.id { r with stage := .setting } w.s
      ((w.s.placeAll (r.requestSet w.s.lanes)).putRecord { r with stage := .setting }) :=
    wrote_putRecord (placeAll_same ..).clt rfl
  obtain ⟨st, sub, hsub, hown, hruns⟩ := substitute_wrote (w := (({ w with s := w.s.placeAll (r.requestSet w.s.lanes) } :
    Work).put { r with stage := .setting }).telling true) hput.record
  obtain ⟨st', hprove, hdisplay, hruns', -⟩ := prove_wrote hsub.record
  rw [hstart]
  exact ⟨st', sub, hruns' (hruns rfl), hput.trans (hsub.trans hprove), hown.trans (.of_display hdisplay)⟩

theorem startRole_anchor (hrole : r.role = some .atAnchor) :
    w.startRole r = if w.s.leadReported r then ((w.telling true).put r.waitingLead).leadGo r.waitingLead
      else (w.telling true).put r.waitingLead := by
  have hstart : w.startRole r = ((w.telling true).put r.waitingLead).checkLead r.id := by
    unfold Work.startRole
    split
    case h_1 => rfl
    case h_2 h => exact absurd hrole h
  have hreported : (w.telling true).s.leadReported r.waitingLead = w.s.leadReported r := leadReported_congr rfl rfl rfl rfl
  rw [hstart, put_checkLead (r := r.waitingLead) (id := r.id) (waitsForLead_iff.2 ⟨hrole, .inl rfl⟩) rfl, hreported]

theorem startRole_anchor_waits (hrole : r.role = some .atAnchor) (h : w.s.leadReported r = false) :
    Wrote r.id r.waitingLead w.s (w.startRole r).s ∧ (w.startRole r).s.display = w.s.display := by
  rw [startRole_anchor hrole, h]
  exact ⟨wrote_putRecord rfl rfl, rfl⟩

theorem startRole_anchor_goes (hrole : r.role = some .atAnchor) (h : w.s.leadReported r = true) :
    ∃ st, st.proofRuns = true ∧
      Wrote r.id { r with stage := st, waitTime := none, awaiting := [], legendWaits := false } w.s (w.startRole r).s := by
  rw [startRole_anchor hrole, if_pos h]
  have hput : Wrote r.id r.waitingLead w.s ((w.telling true).put r.waitingLead).s := wrote_putRecord rfl rfl
  obtain ⟨st, hst, hgo, -⟩ := leadGo_wrote (w := (w.telling true).put r.waitingLead) (r := r.waitingLead) (.inl rfl)
  exact ⟨st, hst, hput.trans hgo⟩

/-! ### A modification within a role (R126, R127) -/

/-- R126: a lead-in record has its new request set in place of the old one. -/
theorem modifyLead_wrote (w : Work) (r : ClosureRecord) :
    ∃ st sub, st.proofRuns = true ∧
      Wrote r.id { r with stage := st, waitTime := none, substitution := sub } w.s (w.modifyLead r).s ∧
      ∀ (a : Addr) (q : Request), q.source.ownOf r.id = true →
        (q ∈ ((w.modifyLead r).s.display a).row ↔ (a, q) ∈ r.requestSet w.s.lanes) := by
  have hput : Wrote r.id { r with stage := .setting, waitTime := none } w.s
      (((w.s.withdrawOwn r.id).placeAll (r.requestSet w.s.lanes)).putRecord
        { r with stage := .setting, waitTime := none }) := wrote_putRecord (placeAll_same ..).clt rfl
  obtain ⟨st, sub, hsub, hown, hruns⟩ := substitute_wrote (w := (({ w with s := (w.s.withdrawOwn r.id).placeAll (r.requestSet w.s.lanes) } : Work).put
      { r with stage := .setting, waitTime := none }).telling (r.stage != .setting)) hput.record
  obtain ⟨st', hprove, hdisplay, hruns', -⟩ := prove_wrote hsub.record
  refine ⟨st', sub, hruns' (hruns rfl), hput.trans (hsub.trans hprove), fun a q hq => ?_⟩
  refine ((hown.trans (.of_display hdisplay)) a q hq).trans (mem_placed_own a fun hm => ?_)
  rw [mem_withdrawOwn_row, hq] at hm
  exact absurd hm.2 (by decide)

/-- R127: an AT record in WAIT_LEAD waits anew. -/
theorem modifyAnchor_waits (hrole : r.role = some .atAnchor) (hst : r.stage = .waitLead) (h : w.s.leadReported r = false) :
    Wrote r.id { r with waitTime := some 10000 } w.s (w.modifyAnchor r).s ∧ (w.modifyAnchor r).s.display = w.s.display := by
  have hreported : w.s.leadReported { r with waitTime := some 10000 } = false :=
    (leadReported_congr (t := w.s) (s := w.s) (r := r) rfl rfl rfl rfl).trans h
  have hcheck : w.modifyAnchor r = (w.put { r with waitTime := some 10000 }).checkLead r.id := if_pos hst
  rw [hcheck, put_checkLead (r := { r with waitTime := some 10000 }) (waitsForLead_iff.2 ⟨hrole, .inl hst⟩) rfl, hreported]
  exact ⟨wrote_putRecord rfl rfl, rfl⟩

/-- R127: the lanes of a record on which it has no red cross yet. -/
def ClosureRecord.addedLanes (r : ClosureRecord) (s : State) : List Lane := r.localLanes.filter fun l => !(s.holdsClosed r.id l)

/-- R127: an AT record past WAIT_LEAD with its new fields, not yet waiting. -/
def ClosureRecord.extended (r : ClosureRecord) (s : State) : ClosureRecord :=
  { r with stage := .setting, awaiting := r.addedLanes s, legendWaits := r.fullClosure && !(s.holdsRoadClosed r.id) }

/-- R127: the same, waiting for the lead's report. -/
def ClosureRecord.waitingExtended (r : ClosureRecord) (s : State) : ClosureRecord :=
  { r.extended s with waitTime := some 10000 }

/-- R127: the work once the requests that are no longer called for have gone. -/
def Work.trimmed (w : Work) (r : ClosureRecord) : Work :=
  ({ w with s := w.s.withdrawSurplus r } : Work).telling (r.stage != .setting)

theorem modifyAnchor_at_once (hst : r.stage ≠ .waitLead) (hadd : r.addedLanes w.s = []) :
    w.modifyAnchor r = (w.trimmed r).leadGo (r.extended w.s) := (if_neg hst).trans (if_pos hadd)

theorem modifyAnchor_later (hrole : r.role = some .atAnchor) (hst : r.stage ≠ .waitLead) (hadd : r.addedLanes w.s ≠ []) :
    w.modifyAnchor r =
      if w.s.leadReported r then ((w.trimmed r).put (r.waitingExtended w.s)).leadGo (r.waitingExtended w.s)
      else (w.trimmed r).put (r.waitingExtended w.s) := by
  have hcheck : w.modifyAnchor r = ((w.trimmed r).put (r.waitingExtended w.s)).checkLead r.id :=
    (if_neg hst).trans (if_neg hadd)
  have hreported : (w.trimmed r).s.leadReported (r.waitingExtended w.s) = w.s.leadReported r :=
    leadReported_congr rfl rfl rfl rfl
  rw [hcheck, put_checkLead (r := r.waitingExtended w.s) (id := r.id) (waitsForLead_iff.2 ⟨hrole, .inr ⟨rfl, hadd⟩⟩) rfl,
    hreported]

theorem trimmed_put_wrote (w : Work) (r : ClosureRecord) (hid : x.id = r.id) :
    Wrote r.id x w.s ((w.trimmed r).put x).s := wrote_putRecord (u := w.s.withdrawSurplus r) rfl hid

/-- R127: new lanes wait for the lead's report, the record's crosses on its other lanes standing. -/
theorem modifyAnchor_extends (hrole : r.role = some .atAnchor) (hst : r.stage ≠ .waitLead) (hadd : r.addedLanes w.s ≠ [])
    (h : w.s.leadReported r = false) :
    Wrote r.id (r.waitingExtended w.s) w.s (w.modifyAnchor r).s ∧
      (w.modifyAnchor r).s.display = (w.s.withdrawSurplus r).display := by
  rw [modifyAnchor_later hrole hst hadd, h]
  exact ⟨trimmed_put_wrote w r rfl, rfl⟩

theorem Wrote.of_clt (h : Wrote id x u t) (hclt : u.clt = s.clt) : Wrote id x s t := by
  have hrecord : u.record = s.record := by unfold State.record; rw [hclt]
  exact ⟨h.record, fun j hj => (h.others j hj).trans (congrFun hrecord j), h.refused.trans (congrArg Clt.refused hclt),
    h.orphans.trans (congrArg Clt.orphans hclt)⟩

/-- R117, R127: an AT record that has no lead to wait for has its whole request set placed. -/
theorem modifyAnchor_goes (hrole : r.role = some .atAnchor)
    (h : w.s.leadReported r = true ∨ (r.stage ≠ .waitLead ∧ r.addedLanes w.s = [])) :
    ∃ st, st.proofRuns = true ∧
      Wrote r.id { r with stage := st, waitTime := none, awaiting := [], legendWaits := false } w.s (w.modifyAnchor r).s ∧
      ∀ z ∈ r.requestSet w.s.lanes, z.2 ∈ ((w.modifyAnchor r).s.display z.1).row := by
  by_cases hst : r.stage = .waitLead
  · have hreported := h.resolve_right fun g => g.1 hst
    have hcheck : w.modifyAnchor r = (w.put { r with waitTime := some 10000 }).checkLead r.id := if_pos hst
    have hreported' : w.s.leadReported { r with waitTime := some 10000 } = true :=
      (leadReported_congr (t := w.s) (s := w.s) (r := r) rfl rfl rfl rfl).trans hreported
    rw [hcheck, put_checkLead (r := { r with waitTime := some 10000 }) (waitsForLead_iff.2 ⟨hrole, .inl hst⟩) rfl,
      if_pos hreported']
    have hput : Wrote r.id { r with waitTime := some 10000 } w.s (w.put { r with waitTime := some 10000 }).s :=
      wrote_putRecord rfl rfl
    obtain ⟨st, hst', hgo, hdisplay⟩ := leadGo_wrote (w := w.put { r with waitTime := some 10000 })
      (r := { r with waitTime := some 10000 }) (.inl hst)
    exact ⟨st, hst', hput.trans hgo, fun z hz => by rw [hdisplay]; exact mem_placed_of_mem (r := r) hz⟩
  · by_cases hadd : r.addedLanes w.s = []
    · rw [modifyAnchor_at_once hst hadd]
      obtain ⟨st, hst', hgo, hdisplay⟩ := leadGo_wrote (w := w.trimmed r) (r := r.extended w.s) (.inr rfl)
      exact ⟨st, hst', hgo.of_clt rfl, fun z hz => by rw [hdisplay]; exact mem_placed_of_mem (r := r) hz⟩
    · rw [modifyAnchor_later hrole hst hadd, if_pos (h.resolve_right fun g => hadd g.2)]
      obtain ⟨st, hst', hgo, hdisplay⟩ := leadGo_wrote (w := (w.trimmed r).put (r.waitingExtended w.s))
        (r := r.waitingExtended w.s) (.inr rfl)
      exact ⟨st, hst', (trimmed_put_wrote w r (x := r.waitingExtended w.s) rfl).trans hgo,
        fun z hz => by rw [hdisplay]; exact mem_placed_of_mem (r := r) hz⟩

end Sys2Proof.Machine
end

section
/-! O30 to O32: what a CLOSE frame leaves (R100 to R102, R116, R118, R125 to R128). -/

namespace Sys2Proof.Machine

variable {s t u : State} {w : Work} {id : Nat} {r x y : ClosureRecord} {q : Request} {k : Closure} {b : Bool}

/-! ### The frame -/

section
variable {g : RxFrame} {p : Received} {c : CloseFields}

theorem exec_close (hbus : s.onBus = true) (hcalm : ∀ e ∈ s.nbt, e.gone = false ∧ e.newlyStale = false)
    (hf : checkFrame g = some p) (hk : p.kind = .close) (hc : closeOf p.payload = some c) (hform : c.inForm = some k) :
    exec (.closeReceived g) s = .next (s.lined.closureEvent fun w => w.offer k c.afterCurrent).drive := by
  have hexec := exec_accepted hbus hcalm hf hk
  rw [takeFrame_close hk hc, State.takeClose, hform] at hexec
  exact hexec

end

theorem closed_frame (s : State) (k : Closure) (b : Bool) :
    s.sameBut [.stu, .msu, .crl, .spc, .clt, .asa] (s.lined.closureEvent fun w => w.offer k b).drive :=
  ((lined_sameBut s).mono (by simp)).trans ((event_frame (s := s.lined) fun w => offer_same w k b).mono (by simp))

theorem closed_crl (s : State) (k : Closure) (b : Bool) :
    (s.lined.closureEvent fun w => w.offer k b).drive.crl = { s.crl with receiver := .ready, idleBits := 10 } :=
  (closureEvent_same s.lined _ fun w => offer_same w k b).crl

/-! ### How a CLOSE reaches the table (R100, R101, R125) -/

theorem offer_unknown (hx : w.s.record k.id = none) : w.offer k b = w.install k := by
  unfold Work.offer; rw [hx]

theorem offer_older (hx : w.s.record k.id = some x) (hn : newerGen k.gen x.gen = false) : w.offer k b = w := by
  unfold Work.offer
  rw [hx]
  exact if_neg (by rw [hn]; decide)

theorem offer_tombstone (hx : w.s.record k.id = some x) (hn : newerGen k.gen x.gen = true) (hst : x.stage = .released) :
    w.offer k b = w.install k := by
  unfold Work.offer
  rw [hx]
  exact (if_pos hn).trans (if_neg fun h => live_iff.1 h hst)

theorem offer_live (hx : w.s.record k.id = some x) (hn : newerGen k.gen x.gen = true) (hst : x.stage ≠ .released) :
    w.offer k b = w.modify x k b := by
  unfold Work.offer
  rw [hx]
  exact (if_pos hn).trans (if_pos (live_iff.2 hst))

theorem install_unconcerned (h : roleOf w.s.position k.anchor k.leadIn = none) : w.install k = w := by
  unfold Work.install; rw [h]

/-! ### The oldest tombstone (R96, R101) -/

theorem oldestTombstone_isSome {rs : List ClosureRecord} (h : ∃ z ∈ rs, z.live = false) : ∃ e, oldestTombstone rs = some e := by
  induction rs with
  | nil => obtain ⟨z, hz, -⟩ := h; cases hz
  | cons z rest ih =>
    unfold oldestTombstone
    split
    case h_1 hnone =>
      obtain ⟨d, hd, hdead⟩ := h
      rcases List.mem_cons.1 hd with rfl | hd
      · exact ⟨_, if_neg (by rw [hdead]; decide)⟩
      · obtain ⟨e, he⟩ := ih ⟨d, hd, hdead⟩
        rw [he] at hnone; cases hnone
    case h_2 => split <;> exact ⟨_, rfl⟩

theorem older_iff : r.older x = true ↔
    r.tombTime.getD 0 < x.tombTime.getD 0 ∨ (r.tombTime.getD 0 = x.tombTime.getD 0 ∧ r.id ≤ x.id) := by
  simp [ClosureRecord.older]

theorem oldestTombstone_least {rs : List ClosureRecord} {e : ClosureRecord} (h : oldestTombstone rs = some e) :
    ∀ z ∈ rs, z.live = false → e.older z = true := by
  induction rs generalizing e with
  | nil => cases h
  | cons z rest ih =>
    have hself : ∀ d : ClosureRecord, d.older d = true := fun d => older_iff.2 (.inr ⟨rfl, le_rfl⟩)
    unfold oldestTombstone at h
    split at h
    case h_1 hnone =>
      split at h
      · cases h
      · cases h
        intro d hd hdead
        rcases List.mem_cons.1 hd with rfl | hd
        · exact hself _
        · obtain ⟨e, he⟩ := oldestTombstone_isSome ⟨d, hd, hdead⟩
          rw [he] at hnone; cases hnone
    case h_2 e' he' =>
      have hrest := ih he'
      split at h
      case isTrue hz =>
        cases h
        intro d hd hdead
        rcases List.mem_cons.1 hd with rfl | hd
        · exact hself _
        · have := older_iff.1 hz.2
          have := older_iff.1 (hrest d hd hdead)
          exact older_iff.2 (by omega)
      case isFalse hz =>
        cases h
        intro d hd hdead
        rcases List.mem_cons.1 hd with hdz | hd
        · rw [hdz] at hdead ⊢
          have hnot : ¬ z.older e = true := fun h => hz ⟨hdead, h⟩
          rw [older_iff] at hnot
          exact older_iff.2 (by omega)
        · exact hrest d hd hdead

theorem roomFor_of_room {rs : List ClosureRecord} (h : rs.length < 8) : roomFor rs = some rs := if_pos h

/-- R101: with a full table the slot is that of the oldest tombstone. -/
theorem roomFor_of_full {rs : List ClosureRecord} {d : ClosureRecord} (hfull : rs.length = 8) (hd : d ∈ rs)
    (hdead : d.stage = .released)
    (hold : ∀ z ∈ rs, z.stage = .released → d.tombTime.getD 0 < z.tombTime.getD 0 ∨
      (d.tombTime.getD 0 = z.tombTime.getD 0 ∧ d.id ≤ z.id)) :
    roomFor rs = some (rs.filter fun z => z.id != d.id) := by
  have hdl : d.live = false := by simp [ClosureRecord.live, hdead]
  obtain ⟨e, he⟩ := oldestTombstone_isSome ⟨d, hd, hdl⟩
  have hel : e.stage = .released := by simpa [ClosureRecord.live] using oldestTombstone_dead he
  have hed := older_iff.1 (oldestTombstone_least he d hd hdl)
  have hde := hold e (oldestTombstone_mem he) hel
  have hid : e.id = d.id := by omega
  unfold roomFor
  rw [if_neg (by omega), he, Option.map_some, hid]

theorem roomFor_of_live {rs : List ClosureRecord} (hfull : rs.length = 8) (hlive : ∀ z ∈ rs, z.stage ≠ .released) :
    roomFor rs = none := by
  have hnone : oldestTombstone rs = none := by
    cases h : oldestTombstone rs with
    | none => rfl
    | some e => exact absurd (live_iff.2 (hlive e (oldestTombstone_mem h))) (by rw [oldestTombstone_dead h]; decide)
  unfold roomFor
  rw [if_neg (by omega), hnone]
  rfl

theorem filter_unheld (hx : s.record id = none) : (s.clt.records.filter fun z => z.id != id) = s.clt.records := by
  refine List.filter_eq_self.2 fun z hz => ?_
  have hne := List.find?_eq_none.1 hx z hz
  simpa using hne

/-! ### O31 -/

theorem install_refused {role : Role} (hrole : roleOf w.s.position k.anchor k.leadIn = some role)
    (h : roomFor (w.s.clt.records.filter fun z => z.id != k.id) = none) : w.install k = { w with s := w.s.refuse k.id } := by
  unfold Work.install
  rw [hrole]
  dsimp only
  rw [h]

theorem refusedAfter_eq (rs : List Refused) (id : Nat) :
    refusedAfter rs id =
      (if (rs.filter fun q => q.id ≠ id).length < 4 then rs.filter fun q => q.id ≠ id
        else (rs.filter fun q => q.id ≠ id).drop 1) ++ [⟨id, 300000⟩] := by
  have hfilter : (rs.filter fun q => q.id != id) = rs.filter fun q => decide (q.id ≠ id) :=
    List.filter_congr fun _ _ => by rw [Bool.eq_iff_iff, bne_iff_ne, decide_eq_true_iff]
  rw [← hfilter]
  rfl

theorem defer_eq (x : ClosureRecord) (k : Closure) :
    x.defer k = { x with
      pendingMod := match x.pendingMod with
        | none => some k
        | some p => if newerGen k.gen p.gen then some k else some p } := by
  unfold ClosureRecord.defer
  cases h : x.pendingMod with
  | none => rfl
  | some p =>
    dsimp only
    split
    · rfl
    · rw [← h]

theorem modify_deferred (hac : b = true) (hst : x.stage = .waitLead ∨ x.stage = .setting) :
    w.modify x k b = w.put (x.defer k) := if_pos ⟨hac, hst⟩

/-- Settles O31. -/
theorem closeRefusedOrDeferred : Obligations.CloseRefusedOrDeferred := by
  refine ⟨fun s g p c k hbus hcalm hf hk hc hform hrole hx hfull hlive => ?_,
    fun s g p c k x hbus hcalm hsound hf hk hc hform hx => ⟨fun hn => ?_, fun hn hac hst => ?_⟩⟩
  · obtain ⟨role, hrole⟩ := Option.ne_none_iff_exists'.1 hrole
    have hwork : s.lined.work.offer k c.afterCurrent = { s.lined.work with s := s.lined.refuse k.id } :=
      (offer_unknown (w := s.lined.work) hx).trans (install_refused (w := s.lined.work) hrole
        ((congrArg roomFor (filter_unheld (s := s.lined) hx)).trans (roomFor_of_live hfull hlive)))
    have hclt : (s.lined.closureEvent fun w => w.offer k c.afterCurrent).drive.clt =
        { s.clt with refused := refusedAfter s.clt.refused k.id } := by
      rw [event_clt]
      rw [hwork]
      rfl
    have huntold := event_untold (s := s.lined) (f := (·.offer k c.afterCurrent)) (by rw [hwork]; rfl)
      (by rw [hwork]; rfl)
    refine ⟨_, exec_close hbus hcalm hf hk hc hform, closed_frame s k _, huntold.1, (congrArg Clt.records hclt :),
      (congrArg Clt.orphans hclt :), fun hlen => ?_, fun q rest hcons hlen => ?_⟩
    · rw [hclt]
      dsimp only
      rw [refusedAfter_eq, if_pos hlen]
    · rw [hclt]
      dsimp only
      rw [refusedAfter_eq, hcons, if_neg (by rw [List.length_cons, hlen]; decide)]
      rfl
  · have hwork : s.lined.work.offer k c.afterCurrent = s.lined.work := offer_older (w := s.lined.work) hx hn
    have huntold := event_untold (s := s.lined) (f := (·.offer k c.afterCurrent)) (by rw [hwork]; rfl)
      (by rw [hwork]; rfl)
    refine ⟨_, exec_close hbus hcalm hf hk hc hform, (event_clt ..).trans ?_, huntold.1⟩
    rw [hwork]
    rfl
  · have hlive : x.stage ≠ .released := by rcases hst with h | h <;> rw [h] <;> decide
    have hwork : s.lined.work.offer k c.afterCurrent = s.lined.work.put (x.defer k) :=
      (offer_live (w := s.lined.work) hx hn hlive).trans (modify_deferred hac hst)
    have hidx : x.id = k.id := record_id s hx
    have hid : (x.defer k).id = k.id := (congrArg ClosureRecord.id (defer_eq x k)).trans hidx
    have hwrote : Wrote k.id (x.defer k) s.lined (s.lined.work.offer k c.afterCurrent).s := by
      rw [hwork]
      exact wrote_putRecord rfl hid
    have huntold := event_untold (s := s.lined) (f := (·.offer k c.afterCurrent)) (by rw [hwork]; rfl)
      (by rw [hwork]; rfl)
    have h := event_wrote (·.offer k c.afterCurrent) hwrote
    exact ⟨_, exec_close hbus hcalm hf hk hc hform, huntold.1, h.refused, h.others, h.record.trans (congrArg some (defer_eq x k))⟩

/-! ### O30 -/

/-- R101: the table with the slot that an installation takes, the id off the refused list. -/
def State.cleared (s : State) (rs : List ClosureRecord) (id : Nat) : State :=
  ({ s with clt := { s.clt with records := rs } } : State).unrefuse id

theorem install_taken {role : Role} {rs : List ClosureRecord} (hrole : roleOf w.s.position k.anchor k.leadIn = some role)
    (h : roomFor (w.s.clt.records.filter fun z => z.id != k.id) = some rs) :
    w.install k =
      (({ w with s := w.s.cleared rs k.id } : Work).startRole (freshRecord w.s.lanes k (some role))).drain k.id := by
  unfold Work.install
  rw [hrole]
  dsimp only
  rw [h]
  rfl

/-- What an installation leaves: the record by its role, the rest of the table as the slot taken leaves it. -/
structure Installed (s : State) (k : Closure) (role : Role) (rs : List ClosureRecord) (x : ClosureRecord) (v : Work) : Prop where
  wrote : Wrote k.id x (s.cleared rs k.id) v.s
  fields : ∃ st wt sub, x = { freshRecord s.lanes k (some role) with stage := st, waitTime := wt, substitution := sub } ∧
    (st = .waitLead ∨ st.proofRuns = true)
  lead : role ≠ .atAnchor → x.stage.proofRuns = true ∧ ∀ z ∈ x.requestSet s.lanes, z.2 ∈ (v.s.display z.1).row
  anchor : role = .atAnchor → s.stu.straps.first = false → s.reports (-1) k.id k.gen .proven = false →
    s.reports (-1) k.id k.gen .degraded = false → x.stage = .waitLead ∧ x.waitTime = some 10000
  told : ∀ t, ToldOrWithin t v

theorem install_installed {role : Role} {rs : List ClosureRecord} (hrole : roleOf w.s.position k.anchor k.leadIn = some role)
    (h : roomFor (w.s.clt.records.filter fun z => z.id != k.id) = some rs) :
    ∃ x, Installed w.s k role rs x (w.install k) := by
  rw [install_taken hrole h]
  have hdrain : ∀ {v : Work} {x : ClosureRecord}, Wrote k.id x (w.s.cleared rs k.id) v.s → x.pendingMod = none →
      v.drain k.id = v := fun hw hx => drain_of_none hw.record hx
  have htold := fun t => ToldOrWithin.startRole (t := t) (w := { w with s := w.s.cleared rs k.id })
    (freshRecord w.s.lanes k (some role))
  by_cases ha : role = .atAnchor
  · subst ha
    cases hrep : (w.s.cleared rs k.id).leadReported (freshRecord w.s.lanes k (some .atAnchor))
    · obtain ⟨hwrote, -⟩ := startRole_anchor_waits (w := { w with s := w.s.cleared rs k.id })
        (r := freshRecord w.s.lanes k (some .atAnchor)) rfl hrep
      rw [hdrain hwrote rfl]
      exact ⟨_, hwrote, ⟨_, _, _, rfl, .inl rfl⟩, fun h => absurd rfl h, fun _ _ _ _ => ⟨rfl, rfl⟩, htold⟩
    · obtain ⟨st, hst, hwrote⟩ := startRole_anchor_goes (w := { w with s := w.s.cleared rs k.id })
        (r := freshRecord w.s.lanes k (some .atAnchor)) rfl hrep
      rw [hdrain hwrote rfl]
      refine ⟨_, hwrote, ⟨_, _, _, rfl, .inr hst⟩, fun h => absurd rfl h, fun _ hf hp hd => ?_, htold⟩
      rcases leadReported_iff.1 hrep with h | h | h
      · exact absurd (h.symm.trans hf) (by decide)
      · exact absurd (h.symm.trans hp) (by decide)
      · exact absurd (h.symm.trans hd) (by decide)
  · obtain ⟨st, sub, hst, hwrote, hown⟩ := startRole_lead (w := { w with s := w.s.cleared rs k.id })
      (r := freshRecord w.s.lanes k (some role)) fun h => ha (Option.some.inj h)
    rw [hdrain hwrote rfl]
    refine ⟨_, hwrote, ⟨_, _, _, rfl, .inr hst⟩, fun _ => ⟨hst, fun z hz => ?_⟩, fun h => absurd h ha, htold⟩
    refine (hown z.1 z.2 ?_).2 (mem_placed_of_mem (r := freshRecord w.s.lanes k (some role)) hz)
    rw [requestSet_source hz]
    exact beq_self_eq_true _

theorem cleared_refused (rs : List ClosureRecord) : ∀ q ∈ (s.cleared rs id).clt.refused, q.id ≠ id := fun q hq => by
  have hq : q ∈ s.clt.refused.filter fun q => q.id != id := hq
  simpa using (List.mem_filter.1 hq).2

/-- R110: an event that is told, or leaves T within the ceilings, leaves it within the ceiling of every record. -/
theorem event_target_le (f : Work → Work) (h : ToldOrWithin s.spc.target (f s.work)) (hspc : (f s.work).s.spc = s.spc)
    {x : ClosureRecord} (hx : x ∈ (f s.work).s.clt.records) {c : Limit} (hc : x.ceiling = some c) :
    (s.closureEvent f).drive.spc.target.num ≤ c.num := by
  have hsettled := settle_same (f s.work).s
  rw [drive_target]
  rcases closureEvent_cases s f with ⟨-, heq⟩ | ⟨huntold, heq⟩
  · have hrecords : x ∈ (f s.work).s.settle.clt.records := by rw [hsettled.clt]; exact hx
    have hle := le_closureCeiling_iff (f s.work).s.settle.closureCeiling (f s.work).s.settle
    rw [heq, recompute_spc]
    exact ((applyEvent_le ..).trans (c2_num_le _).1).trans (hle.1 le_rfl x hrecords c hc)
  · rw [heq]
    have htarget : (f s.work).s.settle.spc.target = s.spc.target := by rw [hsettled.spc, hspc]
    have hwithin := h.resolve_left fun htold => by
      have huntold : (f s.work).tell = false := huntold
      rw [htold] at huntold
      cases huntold
    exact (congrArg Limit.num htarget).le.trans (hwithin x hx c hc)

/-- The installation as the event leaves it. -/
theorem event_installed {role : Role} {rs : List ClosureRecord} (f : Work → Work) (h : Installed s k role rs x (f s.work)) :
    Wrote k.id x (s.cleared rs k.id) (s.closureEvent f).drive := by
  have hw := h.wrote
  exact ⟨(event_record ..).trans hw.record, fun j hj => (event_record ..).trans (hw.others j hj),
    (congrArg Clt.refused (event_clt s f)).trans hw.refused, (congrArg Clt.orphans (event_clt s f)).trans hw.orphans⟩

theorem ne_released_of_live {st : Stage} (h : st = .waitLead ∨ st.proofRuns = true) : st ≠ .released := by
  rintro rfl; rcases h with h | h <;> cases h

/-- Settles O30. -/
theorem closeInstallsRecord : Obligations.CloseInstallsRecord := by
  refine ⟨fun s g p c k role hbus hcalm hsound hf hk hc hform hrole hx hroom => ?_,
    fun s g p c k hbus hcalm hsound hf hk hc hform => ?_⟩
  · have hwork : s.lined.work.offer k c.afterCurrent = s.lined.work.install k := offer_unknown (w := s.lined.work) hx
    obtain ⟨x, hin⟩ := install_installed (w := s.lined.work) (k := k) hrole
      ((congrArg roomFor (filter_unheld (s := s.lined) hx)).trans (roomFor_of_room hroom))
    rw [← hwork] at hin
    have h := event_installed (s := s.lined) (·.offer k c.afterCurrent) hin
    have hrefused := cleared_refused (s := s.lined) (id := k.id) s.lined.clt.records
    rw [← h.refused] at hrefused
    have hspc : (s.lined.work.offer k c.afterCurrent).s.spc = s.lined.spc :=
      WorkRun.spc (.single (.offer s.lined.work k c.afterCurrent))
    have htarget := event_target_le (s := s.lined) (·.offer k c.afterCurrent) (hin.told _) hspc
      (mem_records_of_record _ hin.wrote.record) (c := roleCeiling role k.leadSpeed)
    have hrow := fun z => event_own_row (s := s.lined) (f := (·.offer k c.afterCurrent)) (q := z) (id := k.id)
    obtain ⟨st, wt, sub, rfl, hst⟩ := hin.fields
    refine ⟨_, _, exec_close hbus hcalm hf hk hc hform, closed_frame s k _, closed_crl s k _, h.record, rfl, rfl, rfl, rfl, rfl,
      rfl, rfl, rfl, rfl, rfl, rfl, h.others, hrefused, h.orphans, htarget (if_pos (live_iff.2 (ne_released_of_live hst))),
      fun hne => ⟨(proofRuns_iff _).1 (hin.lead hne).1, fun y hy => ?_⟩, hin.anchor⟩
    refine (hrow y.2 ?_ y.1).2 ((hin.lead hne).2 y hy)
    rw [requestSet_source hy]
    exact beq_self_eq_true _
  · intro installed
    have hinstalls : ∀ (role : Role) (rs : List ClosureRecord), roleOf s.position k.anchor k.leadIn = some role →
        s.lined.work.offer k c.afterCurrent = s.lined.work.install k →
        roomFor (s.clt.records.filter fun z => z.id != k.id) = some rs →
        ∃ t x, exec (.closeReceived g) s = .next t ∧ installed t role x ∧ Wrote k.id x (s.lined.cleared rs k.id) t := by
      intro role rs hrole hwork hroom
      obtain ⟨x, hin⟩ := install_installed (w := s.lined.work) (k := k) hrole hroom
      rw [← hwork] at hin
      have h := event_installed (s := s.lined) (·.offer k c.afterCurrent) hin
      have hrefused := cleared_refused (s := s.lined) (id := k.id) rs
      rw [← h.refused] at hrefused
      obtain ⟨st, wt, sub, rfl, hst⟩ := hin.fields
      exact ⟨_, _, exec_close hbus hcalm hf hk hc hform, ⟨h.record, rfl, rfl, rfl, rfl, rfl, rfl, rfl, rfl, rfl,
        ne_released_of_live hst, rfl, rfl, hrefused⟩, h⟩
    have hids := ((closuresSound_iff s).1 hsound).2
    refine ⟨fun role d hrole hx hfull hd hdead hold => ?_, fun z hz hdead hn => ⟨fun role hrole => ?_, fun hrole => ?_⟩⟩
    · obtain ⟨t, x, hexec, hinst, hwrote⟩ := hinstalls role (s.clt.records.filter fun z => z.id != d.id) hrole
        (offer_unknown (w := s.lined.work) hx)
        ((congrArg roomFor (filter_unheld hx)).trans (roomFor_of_full hfull hd hdead hold))
      have hdk : d.id ≠ k.id := fun h => by
        have hfound : s.record d.id = some d := find_of_mem hids hd
        rw [h, hx] at hfound; cases hfound
      refine ⟨t, x, hexec, hinst, (hwrote.others _ hdk).trans ?_, fun id hid hidd => (hwrote.others _ hid).trans ?_⟩
      · exact List.find?_eq_none.2 fun z hz => by simpa using (List.mem_filter.1 hz).2
      · exact find_filter_ne ClosureRecord.id s.clt.records hidd
    · have hzid : z.id = k.id := record_id s hz
      have hlen : (s.clt.records.filter fun z => z.id != k.id).length < 8 := by
        have hlt := length_filter_ne_lt (f := ClosureRecord.id) (mem_records_of_record s hz)
        rw [hzid] at hlt
        exact lt_of_lt_of_le hlt hsound.1
      obtain ⟨t, x, hexec, hinst, hwrote⟩ := hinstalls role _ hrole (offer_tombstone (w := s.lined.work) hz hn hdead)
        (roomFor_of_room hlen)
      exact ⟨t, x, hexec, hinst, fun id hid => (hwrote.others _ hid).trans (find_filter_ne ClosureRecord.id s.clt.records hid)⟩
    · have hwork : s.lined.work.offer k c.afterCurrent = s.lined.work :=
        (offer_tombstone (w := s.lined.work) hz hn hdead).trans (install_unconcerned (w := s.lined.work) hrole)
      refine ⟨_, exec_close hbus hcalm hf hk hc hform, (event_clt ..).trans ?_⟩
      rw [hwork]
      rfl

end Sys2Proof.Machine
end

section
/-! O32: what a newer CLOSE frame leaves of a live record (R125 to R128). -/

namespace Sys2Proof.Machine

variable {s t u : State} {w : Work} {id : Nat} {r x y : ClosureRecord} {q : Request} {k p : Closure} {b : Bool}

/-! ### A modification at once (R125, R126) -/

/-- R125: a record whose pending modification is discarded. -/
def ClosureRecord.undeferred (x : ClosureRecord) : ClosureRecord := { x with pendingMod := none }

theorem keepNewer_discards {gen : Gen} (h : ∀ p, x.pendingMod = some p → newerGen p.gen gen = false) :
    x.keepNewer gen = x.undeferred := by
  unfold ClosureRecord.keepNewer ClosureRecord.undeferred
  cases hp : x.pendingMod with
  | none => rfl
  | some p => rw [Option.filter_some, h p hp]; rfl

theorem keepNewer_keeps {gen : Gen} (hp : x.pendingMod = some p) (hn : newerGen p.gen gen = true) : x.keepNewer gen = x := by
  unfold ClosureRecord.keepNewer
  rw [hp, Option.filter_some, hn, if_pos rfl, ← hp]

theorem offer_modifies (hx : w.s.record k.id = some x) (hn : newerGen k.gen x.gen = true) (hst : x.stage ≠ .released)
    (hac : b = true → x.stage ≠ .waitLead ∧ x.stage ≠ .setting) :
    w.offer k b = (w.applyMod (x.keepNewer k.gen) k).drain x.id := by
  rw [offer_live hx hn hst]
  exact if_neg fun ⟨hb, h⟩ => h.elim (hac hb).1 (hac hb).2

/-- A modification at once whose pending one is discarded: nothing is left to be applied after it. -/
theorem offer_modifies_once (hx : w.s.record k.id = some x) (hn : newerGen k.gen x.gen = true) (hst : x.stage ≠ .released)
    (hac : b = true → x.stage ≠ .waitLead ∧ x.stage ≠ .setting)
    (hold : ∀ p, x.pendingMod = some p → newerGen p.gen k.gen = false) (hy : y.pendingMod = none)
    (hwrote : Wrote x.id y w.s (w.applyMod x.undeferred k).s) : w.offer k b = w.applyMod x.undeferred k := by
  rw [offer_modifies hx hn hst hac, keepNewer_discards hold, drain_of_none hwrote.record hy]

/-- R126: a record with the fields of a modification. -/
def ClosureRecord.modified (x : ClosureRecord) (s : State) (k : Closure) (role : Role) : ClosureRecord :=
  x.takeFields s.lanes k (some role)

/-- The work when a modification that changes the lead speed is told (R110). -/
def Work.modifying (w : Work) (x : ClosureRecord) (k : Closure) : Work := w.telling (x.leadSpeed != k.leadSpeed)

section
variable {role : Role}

theorem applyMod_lead (hrole : roleOf w.s.position k.anchor k.leadIn = some role) (hx : x.role = some role)
    (ha : role ≠ .atAnchor) : w.applyMod x k = (w.modifying x k).modifyLead (x.modified w.s k role) := by
  unfold Work.applyMod
  rw [hrole]
  dsimp only
  rw [if_pos hx, if_neg ha]
  rfl

theorem applyMod_anchor (hrole : roleOf w.s.position k.anchor k.leadIn = some .atAnchor) (hx : x.role = some .atAnchor) :
    w.applyMod x k = (w.modifying x k).modifyAnchor (x.modified w.s k .atAnchor) := by
  unfold Work.applyMod
  rw [hrole]
  dsimp only
  rw [if_pos hx, if_pos rfl]
  rfl

theorem applyMod_other (hrole : roleOf w.s.position k.anchor k.leadIn = some role) (hx : x.role ≠ some role) :
    w.applyMod x k =
      ({ w.modifying x k with s := w.s.withdrawRecord x.id } : Work).startRole (x.modified w.s k role).clearWaits := by
  unfold Work.applyMod
  rw [hrole]
  dsimp only
  rw [if_neg hx]
  rfl

theorem applyMod_unconcerned (hrole : roleOf w.s.position k.anchor k.leadIn = none) :
    w.applyMod x k = w.release { x with gen := k.gen } := by
  unfold Work.applyMod; rw [hrole]

end

/-! ### The outcome, whatever the roles -/

/-- A live record past a modification: in WAIT_LEAD or a stage in which proof runs. -/
def Stage.rolledOut (st : Stage) : Prop := st = .waitLead ∨ st.proofRuns = true

theorem release_wrote (w : Work) (r : ClosureRecord) :
    ∃ y, Wrote r.id y w.s (w.release r).s ∧ y.gen = r.gen ∧ (r.pendingMod = none → y.pendingMod = none) := by
  by_cases hset : r.stage = .waitClear ∨ r.stage = .released
  · rw [release_settled hset]
    exact ⟨r, wrote_putRecord rfl rfl, rfl, fun h => h⟩
  · obtain ⟨hw, hl⟩ := not_or.1 hset
    by_cases hends : r.role = some .atAnchor ∨ r.role = none ∨ w.s.clearReported r = true
    · exact ⟨_, (release_ends hl hw hends).1, rfl, fun _ => rfl⟩
    · obtain ⟨ha, hn, hr⟩ : r.role ≠ some .atAnchor ∧ r.role ≠ none ∧ _ := by simpa only [not_or] using hends
      exact ⟨_, (release_waits hl hw ha hn (Bool.eq_false_iff.2 hr)).1, rfl, fun _ => rfl⟩

/-- The record that a modification into a role leaves has its new fields in that role. -/
structure Rolled (w : Work) (x : ClosureRecord) (k : Closure) (role : Role) (y : ClosureRecord) (v : Work) : Prop where
  wrote : Wrote x.id y w.s v.s
  fields : ∃ st wt aw lw sub, y = { x.modified w.s k role with
    stage := st, waitTime := wt, awaiting := aw, legendWaits := lw, substitution := sub }
  stage : y.stage.rolledOut

theorem modifyAnchor_rolled (hrole : roleOf w.s.position k.anchor k.leadIn = some .atAnchor) (hx : x.role = some .atAnchor) :
    ∃ y, Rolled w x k .atAnchor y (w.applyMod x k) := by
  rw [applyMod_anchor hrole hx]
  have hnew : (x.modified w.s k .atAnchor).role = some .atAnchor := rfl
  by_cases hgo : (w.modifying x k).s.leadReported (x.modified w.s k .atAnchor) = true ∨
      ((x.modified w.s k .atAnchor).stage ≠ .waitLead ∧ (x.modified w.s k .atAnchor).addedLanes (w.modifying x k).s = [])
  · obtain ⟨st, hst, hwrote, -⟩ := modifyAnchor_goes hnew hgo
    exact ⟨_, hwrote, ⟨_, _, _, _, _, rfl⟩, .inr hst⟩
  · obtain ⟨hrep, hadd⟩ := not_or.1 hgo
    have hrep := Bool.eq_false_iff.2 hrep
    by_cases hst : (x.modified w.s k .atAnchor).stage = .waitLead
    · exact ⟨_, (modifyAnchor_waits hnew hst hrep).1, ⟨_, _, _, _, _, rfl⟩, .inl hst⟩
    · exact ⟨_, (modifyAnchor_extends hnew hst (fun h => hadd ⟨hst, h⟩) hrep).1, ⟨_, _, _, _, _, rfl⟩, .inr rfl⟩

theorem startRole_rolled {role : Role} (hrole : roleOf w.s.position k.anchor k.leadIn = some role) (hx : x.role ≠ some role) :
    ∃ y, Rolled w x k role y (w.applyMod x k) := by
  rw [applyMod_other hrole hx]
  by_cases ha : role = .atAnchor
  · subst ha
    cases hrep : (w.s.withdrawRecord x.id).leadReported (x.modified w.s k .atAnchor).clearWaits
    · have hwrote := (startRole_anchor_waits (w := { w.modifying x k with s := w.s.withdrawRecord x.id })
        (r := (x.modified w.s k .atAnchor).clearWaits) rfl hrep).1
      exact ⟨_, hwrote.of_clt rfl, ⟨_, _, _, _, _, rfl⟩, .inl rfl⟩
    · obtain ⟨st, hst, hwrote⟩ := startRole_anchor_goes (w := { w.modifying x k with s := w.s.withdrawRecord x.id })
        (r := (x.modified w.s k .atAnchor).clearWaits) rfl hrep
      exact ⟨_, hwrote.of_clt rfl, ⟨_, _, _, _, _, rfl⟩, .inr hst⟩
  · obtain ⟨st, sub, hst, hwrote, -⟩ := startRole_lead (w := { w.modifying x k with s := w.s.withdrawRecord x.id })
      (r := (x.modified w.s k role).clearWaits) fun h => ha (Option.some.inj h)
    exact ⟨_, hwrote.of_clt rfl, ⟨_, _, _, _, _, rfl⟩, .inr hst⟩

theorem applyMod_rolled {role : Role} (hrole : roleOf w.s.position k.anchor k.leadIn = some role) :
    ∃ y, Rolled w x k role y (w.applyMod x k) := by
  by_cases hx : x.role = some role
  · by_cases ha : role = .atAnchor
    · subst ha
      exact modifyAnchor_rolled hrole hx
    · rw [applyMod_lead hrole hx ha]
      obtain ⟨st, sub, hst, hwrote, -⟩ := modifyLead_wrote (w.modifying x k) (x.modified w.s k role)
      exact ⟨_, hwrote, ⟨_, _, _, _, _, rfl⟩, .inr hst⟩
  · exact startRole_rolled hrole hx

theorem applyMod_wrote (w : Work) (x : ClosureRecord) (k : Closure) :
    ∃ y, Wrote x.id y w.s (w.applyMod x k).s ∧ y.gen = k.gen ∧ (x.pendingMod = none → y.pendingMod = none) := by
  cases hrole : roleOf w.s.position k.anchor k.leadIn with
  | none =>
    rw [applyMod_unconcerned hrole]
    exact release_wrote w { x with gen := k.gen }
  | some role =>
    obtain ⟨y, hy⟩ := applyMod_rolled (x := x) hrole
    obtain ⟨st, wt, aw, lw, sub, rfl⟩ := hy.fields
    exact ⟨_, hy.wrote, rfl, fun h => h⟩

/-! ### O32 -/

theorem mem_withdrawSurplus_lane (hown : q.source.ownOf r.id = true) (l : Lane) :
    q ∈ ((s.withdrawSurplus r).display (laneAddr l)).row ↔ q ∈ (s.display (laneAddr l)).row ∧ l ∈ r.localLanes := by
  unfold State.withdrawSurplus
  rw [keepRequests_row_mem, hown, addrLane_laneAddr]
  exact and_congr_right fun _ => by simp

theorem mem_withdrawSurplus_legend (hown : q.source.ownOf r.id = true) :
    q ∈ ((s.withdrawSurplus r).display legendAddr).row ↔ q ∈ (s.display legendAddr).row ∧ r.fullClosure = true := by
  have hlegend : addrLane legendAddr = none := rfl
  unfold State.withdrawSurplus
  rw [keepRequests_row_mem, hown, hlegend]
  exact and_congr_right fun _ => by simp

theorem drain_applies (hr : w.s.record id = some r) (hp : r.pendingMod = some p) (hst : r.stage = .proven ∨ r.stage = .degraded) :
    w.drain id = w.applyMod r.undeferred p := by
  unfold Work.drain
  rw [hr]
  dsimp only
  rw [hp]
  exact if_pos hst

theorem drain_waits (hr : w.s.record id = some r) (hst : ¬ (r.stage = .proven ∨ r.stage = .degraded)) : w.drain id = w := by
  unfold Work.drain
  rw [hr]
  dsimp only
  split
  · rfl
  · exact if_neg hst

/-- Settles O32. -/
theorem closeModifiesLead : Obligations.CloseModifiesLead := by
  refine ⟨?_, ?_, ?_, ?_⟩
  · intro s g m c k x role hbus hcalm hsound hf hk hc hform hac hx hl hn hold hxr hrole ha
    have hid : x.id = k.id := record_id s hx
    obtain ⟨st, sub, hst, hwrote, hrow⟩ := modifyLead_wrote (s.lined.work.modifying x.undeferred k)
      (x.undeferred.modified s.lined k role)
    have happly : s.lined.work.applyMod x.undeferred k = _ :=
      applyMod_lead (w := s.lined.work) (x := x.undeferred) hrole hxr ha
    have hwork := offer_modifies_once (w := s.lined.work) (b := c.afterCurrent) hx hn hl hac hold
      (y := { x.undeferred.modified s.lined k role with stage := st, waitTime := none, substitution := sub }) rfl
      (by rw [happly]; exact hwrote)
    rw [happly] at hwork
    have h := event_wrote (s := s.lined) (id := x.id) (·.offer k c.afterCurrent) (by rw [hwork]; exact hwrote)
    rw [← hid]
    refine ⟨_, _, exec_close hbus hcalm hf hk hc hform, closed_frame s k _, h.record, rfl, rfl, rfl, rfl, rfl, rfl, rfl, rfl, rfl,
      (proofRuns_iff st).1 hst, rfl, rfl, h.others, fun a q hq => (event_own_row hq a).trans ?_⟩
    rw [hwork]
    exact hrow a q hq
  · intro s g m c k x hbus hcalm hsound hf hk hc hform hac hx hl hw hn hold hxr hrole
    have hid : x.id = k.id := record_id s hx
    rw [← hid]
    intro added reported
    have hexec := exec_close hbus hcalm hf hk hc hform
    let new := x.undeferred.modified s.lined k .atAnchor
    have happly : s.lined.work.applyMod x.undeferred k = (s.lined.work.modifying x.undeferred k).modifyAnchor new :=
      applyMod_anchor (w := s.lined.work) (x := x.undeferred) hrole hxr
    have hreported : (s.lined.work.modifying x.undeferred k).s.leadReported new = true ↔ reported := leadReported_iff
    have hadded : new.addedLanes (s.lined.work.modifying x.undeferred k).s = added := rfl
    have hwork : ∀ y, y.pendingMod = none → Wrote x.id y s.lined ((s.lined.work.modifying x.undeferred k).modifyAnchor new).s →
        s.lined.work.offer k c.afterCurrent = (s.lined.work.modifying x.undeferred k).modifyAnchor new := fun y hy hwrote =>
      (offer_modifies_once (w := s.lined.work) (b := c.afterCurrent) hx hn hl hac hold hy (by rw [happly]; exact hwrote)).trans
        happly
    by_cases hgo : reported ∨ (x.stage ≠ .waitLead ∧ added = [])
    · obtain ⟨st, hst, hwrote, hplaced⟩ := modifyAnchor_goes (w := s.lined.work.modifying x.undeferred k) (r := new) rfl
        (hgo.imp_left hreported.2)
      have hw' := hwork _ rfl hwrote
      have h := event_wrote (s := s.lined) (id := x.id) (·.offer k c.afterCurrent) (by rw [hw']; exact hwrote)
      refine ⟨_, _, hexec, closed_frame s k _, h.record, rfl, rfl, rfl, rfl, rfl, rfl, rfl, rfl, rfl, rfl, h.others,
        fun hst hr => absurd hgo fun h => h.elim hr fun h => h.1 hst,
        fun hst ha hr => absurd hgo fun h => h.elim hr fun h => ha h.2,
        fun _ => ⟨(proofRuns_iff st).1 hst, rfl, rfl, fun z hz => ?_⟩⟩
      have hown : z.2.source.ownOf x.id = true := by rw [requestSet_source hz]; exact beq_self_eq_true _
      rw [event_own_row hown, hw']
      exact hplaced z hz
    · obtain ⟨hr, hadd⟩ := not_or.1 hgo
      have hunreported := Bool.eq_false_iff.2 (hreported.not.2 hr)
      by_cases hst : x.stage = .waitLead
      · obtain ⟨hwrote, hdisplay⟩ := modifyAnchor_waits (w := s.lined.work.modifying x.undeferred k) (r := new) rfl hst
          hunreported
        have hw' := hwork _ rfl hwrote
        have h := event_wrote (s := s.lined) (id := x.id) (·.offer k c.afterCurrent) (by rw [hw']; exact hwrote)
        refine ⟨_, _, hexec, closed_frame s k _, h.record, rfl, rfl, rfl, rfl, rfl, rfl, rfl, rfl, rfl, rfl, h.others,
          fun _ _ => ⟨hst, rfl, fun a q hq => (event_own_row hq a).trans ?_⟩, fun hne => absurd hst hne,
          fun h => absurd h hgo⟩
        rw [hw', hdisplay]
        exact .rfl
      · have hadd : new.addedLanes (s.lined.work.modifying x.undeferred k).s ≠ [] := fun h => hadd ⟨hst, h⟩
        obtain ⟨hwrote, hdisplay⟩ := modifyAnchor_extends (w := s.lined.work.modifying x.undeferred k) (r := new) rfl hst hadd
          hunreported
        have hw' := hwork _ rfl hwrote
        have h := event_wrote (s := s.lined) (id := x.id) (·.offer k c.afterCurrent) (by rw [hw']; exact hwrote)
        refine ⟨_, _, hexec, closed_frame s k _, h.record, rfl, rfl, rfl, rfl, rfl, rfl, rfl, rfl, rfl, rfl, h.others,
          fun h => absurd h hst, fun _ _ _ => ⟨rfl, rfl, rfl, fun l q hq => (event_own_row hq _).trans ?_,
            fun q hq => (event_own_row hq _).trans ?_⟩, fun h => absurd h hgo⟩
        · rw [hw', hdisplay]
          exact mem_withdrawSurplus_lane (r := new) hq l
        · rw [hw', hdisplay]
          exact mem_withdrawSurplus_legend (r := new) hq
  · intro s g m c k x hbus hcalm hsound hf hk hc hform hac hx hl hn hold
    have hid : x.id = k.id := record_id s hx
    rw [← hid]
    have hexec := exec_close hbus hcalm hf hk hc hform
    have hwork : ∀ y, y.pendingMod = none → Wrote x.id y s.lined (s.lined.work.applyMod x.undeferred k).s →
        s.lined.work.offer k c.afterCurrent = s.lined.work.applyMod x.undeferred k := fun y hy hwrote =>
      offer_modifies_once (w := s.lined.work) (b := c.afterCurrent) hx hn hl hac hold hy hwrote
    have hevent : ∀ y, y.pendingMod = none → Wrote x.id y s.lined (s.lined.work.applyMod x.undeferred k).s →
        Wrote x.id y s.lined (s.lined.closureEvent fun w => w.offer k c.afterCurrent).drive := fun y hy hwrote =>
      event_wrote (·.offer k c.afterCurrent) (by rw [hwork y hy hwrote]; exact hwrote)
    cases hrole : roleOf s.position k.anchor k.leadIn with
    | none =>
      have happly : s.lined.work.applyMod x.undeferred k = s.lined.work.release { x.undeferred with gen := k.gen } :=
        applyMod_unconcerned (w := s.lined.work) hrole
      by_cases hset : x.stage = .waitClear
      · have hput : s.lined.work.release { x.undeferred with gen := k.gen } = s.lined.work.put { x.undeferred with gen := k.gen } :=
          release_settled (.inl hset)
        have h := hevent { x.undeferred with gen := k.gen } rfl (by rw [happly, hput]; exact wrote_putRecord rfl rfl)
        exact ⟨_, _, hexec, closed_frame s k _, h.record, rfl, rfl, h.others, nofun,
          fun _ => ⟨fun _ => rfl, fun hne => absurd hset hne, fun hne => absurd hset hne⟩⟩
      · by_cases hends : x.role = some .atAnchor ∨ x.role = none ∨
            s.lined.clearReported { x.undeferred with gen := k.gen } = true
        · obtain ⟨hwrote, hnone⟩ := release_ends (w := s.lined.work) (r := { x.undeferred with gen := k.gen }) hl hset hends
          rw [← happly] at hwrote hnone
          have hw' := hwork _ rfl hwrote
          have h := hevent _ rfl hwrote
          refine ⟨_, _, hexec, closed_frame s k _, h.record, rfl, rfl, h.others, nofun,
            fun _ => ⟨fun h => absurd h hset, fun _ _ => ⟨rfl, event_noneOf (·.offer k c.afterCurrent) (by rw [hw']; exact hnone)⟩,
              fun _ ha hn' hrel hlack => absurd hends ?_⟩⟩
          rintro (h | h | h)
          · exact ha h
          · exact hn' h
          · rcases clearReported_iff.1 h with h | h
            · exact absurd (h.symm.trans hrel) (by decide)
            · exact absurd (h.symm.trans hlack) (by decide)
        · obtain ⟨ha, hnr, hr⟩ : x.role ≠ some .atAnchor ∧ x.role ≠ none ∧ _ := by simpa only [not_or] using hends
          obtain ⟨hwrote, hdisplay⟩ := release_waits (w := s.lined.work) (r := { x.undeferred with gen := k.gen }) hl hset ha hnr
            (Bool.eq_false_iff.2 hr)
          rw [← happly] at hwrote hdisplay
          have hw' := hwork _ rfl hwrote
          have h := hevent _ rfl hwrote
          exact ⟨_, _, hexec, closed_frame s k _, h.record, rfl, rfl, h.others, nofun,
            fun _ => ⟨fun h => absurd h hset, fun _ h => absurd h ha, fun _ _ _ _ _ => ⟨rfl,
              event_ownKept (·.offer k c.afterCurrent) (by rw [hw']; exact .of_display hdisplay)⟩⟩⟩
    | some role =>
      by_cases hsame : x.role = some role
      · obtain ⟨y, hy⟩ := applyMod_rolled (w := s.lined.work) (x := x.undeferred) (k := k) hrole
        have hwrote := hy.wrote
        obtain ⟨st, wt, aw, lw, sub, rfl⟩ := hy.fields
        have h := hevent _ rfl hwrote
        exact ⟨_, _, hexec, closed_frame s k _, h.record, rfl, rfl, h.others,
          fun role' hr hne => absurd (hsame.trans hr) hne, nofun⟩
      · have happly : s.lined.work.applyMod x.undeferred k =
            ({ s.lined.work.modifying x.undeferred k with s := s.lined.withdrawRecord x.id } : Work).startRole
              (x.undeferred.modified s.lined k role).clearWaits := applyMod_other (w := s.lined.work) hrole hsame
        by_cases ha : role = .atAnchor
        · subst ha
          cases hrep : (s.lined.withdrawRecord x.id).leadReported (x.undeferred.modified s.lined k .atAnchor).clearWaits
          · obtain ⟨hwrote, hdisplay⟩ := startRole_anchor_waits
              (w := { s.lined.work.modifying x.undeferred k with s := s.lined.withdrawRecord x.id })
              (r := (x.undeferred.modified s.lined k .atAnchor).clearWaits) rfl hrep
            have hwrote := hwrote.of_clt (s := s.lined) rfl
            rw [← happly] at hwrote
            have hnone : NoneOf x.id (s.lined.work.offer k c.afterCurrent).s := by
              rw [hwork _ rfl hwrote, happly]
              exact noneOf_withdrawRecord hdisplay
            have h := hevent _ rfl hwrote
            refine ⟨_, _, hexec, closed_frame s k _, h.record, rfl, rfl, h.others, fun role' hr _ => ?_, nofun⟩
            obtain rfl := Option.some.inj hr
            exact ⟨rfl, rfl, rfl, rfl, rfl, rfl, rfl, rfl, fun hne => absurd rfl hne,
              fun _ _ _ _ => ⟨rfl, rfl, event_noneOf (·.offer k c.afterCurrent) hnone⟩⟩
          · obtain ⟨st, hst, hwrote⟩ := startRole_anchor_goes
              (w := { s.lined.work.modifying x.undeferred k with s := s.lined.withdrawRecord x.id })
              (r := (x.undeferred.modified s.lined k .atAnchor).clearWaits) rfl hrep
            have hwrote := hwrote.of_clt (s := s.lined) rfl
            rw [← happly] at hwrote
            have h := hevent _ rfl hwrote
            refine ⟨_, _, hexec, closed_frame s k _, h.record, rfl, rfl, h.others, fun role' hr _ => ?_, nofun⟩
            obtain rfl := Option.some.inj hr
            refine ⟨rfl, rfl, rfl, rfl, rfl, rfl, rfl, rfl, fun hne => absurd rfl hne, fun _ hf hp hd => ?_⟩
            rcases leadReported_iff.1 hrep with h | h | h
            · exact absurd (h.symm.trans hf) (by decide)
            · exact absurd (h.symm.trans hp) (by decide)
            · exact absurd (h.symm.trans hd) (by decide)
        · obtain ⟨st, sub, hst, hwrote, hown⟩ := startRole_lead
            (w := { s.lined.work.modifying x.undeferred k with s := s.lined.withdrawRecord x.id })
            (r := (x.undeferred.modified s.lined k role).clearWaits) fun h => ha (Option.some.inj h)
          have hwrote := hwrote.of_clt (s := s.lined) rfl
          rw [← happly] at hwrote
          have hw' := hwork _ rfl hwrote
          have h := hevent _ rfl hwrote
          refine ⟨_, _, hexec, closed_frame s k _, h.record, rfl, rfl, h.others, fun role' hr _ => ?_, nofun⟩
          obtain rfl := Option.some.inj hr
          refine ⟨rfl, rfl, rfl, rfl, rfl, rfl, rfl, rfl, fun _ => ⟨(proofRuns_iff st).1 hst, rfl, fun a q hq => ?_⟩,
            fun h => absurd h ha⟩
          refine (event_own_row hq a).trans ?_
          rw [hw', happly]
          refine (hown a q hq).trans (mem_placed_own (r := (x.undeferred.modified s.lined k role).clearWaits) a fun hm => ?_)
          have hkept := (mem_withdrawRecord_row a).1 hm
          exact absurd (hkept.2.1.symm.trans hq) (by decide)
  · intro s g m c k p x role hbus hcalm hsound hf hk hc hform hac hx hl hn hp hpn hrole
    have hid : x.id = k.id := record_id s hx
    have hkeep : x.keepNewer k.gen = x := keepNewer_keeps hp hpn
    have hwork := offer_modifies (w := s.lined.work) (b := c.afterCurrent) hx hn hl hac
    rw [hkeep] at hwork
    obtain ⟨y, hy⟩ := applyMod_rolled (w := s.lined.work) (x := x) (k := k) hrole
    have hwrote := hy.wrote
    have hstage := hy.stage
    obtain ⟨st, wt, aw, lw, sub, rfl⟩ := hy.fields
    rw [← hid]
    have hexec := exec_close hbus hcalm hf hk hc hform
    by_cases hset : st = .proven ∨ st = .degraded
    · obtain ⟨z, hz, hgen, hnone⟩ := applyMod_wrote (s.lined.work.applyMod x k)
        ({ x.modified s.lined k role with stage := st, waitTime := wt, awaiting := aw, legendWaits := lw, substitution := sub } :
          ClosureRecord).undeferred p
      have hw' : s.lined.work.offer k c.afterCurrent = _ := hwork.trans (drain_applies hwrote.record hp hset)
      have h := event_wrote (s := s.lined) (id := x.id) (·.offer k c.afterCurrent) (by rw [hw']; exact hwrote.trans hz)
      exact ⟨_, z, hexec, closed_frame s k _, h.record, h.others, .inr ⟨hgen, hnone rfl⟩⟩
    · have hw' : s.lined.work.offer k c.afterCurrent = _ := hwork.trans (drain_waits hwrote.record hset)
      have h := event_wrote (s := s.lined) (id := x.id) (·.offer k c.afterCurrent) (by rw [hw']; exact hwrote)
      refine ⟨_, _, hexec, closed_frame s k _, h.record, h.others, .inl ⟨rfl, rfl, hp, ?_⟩⟩
      rcases hstage with h | h
      · exact .inl h
      · exact .inr (((proofRuns_iff _).1 h).resolve_right hset)

end Sys2Proof.Machine
end

section
/-! O39 and O41: the winner of a row (R141, R142), displayable forms (R145) and the change entries of an event (R146 to R148). -/

namespace Sys2Proof.Machine

variable {s : State} {a : Addr}

/-! ### The winner of a row (R141, R142) -/

/-- R142: `w` stands before `q` in a DIVERT slot: a lower anchor, or the same one and no higher id. -/
def Source.notBehind (w q : Source) : Prop := w.low < q.low ∨ (w.low = q.low ∧ w.closureId ≤ q.closureId)

theorem nearer_iff {w q : Source} : w.nearer q = true ↔ w.notBehind q := by simp [Source.nearer, Source.notBehind]

theorem nearestArrow_spec (r : Request) (row : List Request) :
    nearestArrow r row ∈ r :: row ∧ ∀ q ∈ r :: row, (nearestArrow r row).source.notBehind q.source := by
  induction row generalizing r with
  | nil => exact ⟨List.mem_cons_self, fun q hq => by rw [List.mem_singleton.1 hq]; exact .inr ⟨rfl, le_rfl⟩⟩
  | cons x rest ih =>
    unfold nearestArrow
    by_cases h : r.source.nearer x.source = true
    · rw [if_pos h]
      obtain ⟨hmem, hleast⟩ := ih r
      have hrx := nearer_iff.1 h
      refine ⟨by rw [List.mem_cons] at hmem ⊢; exact hmem.imp_right (List.mem_cons_of_mem _), fun q hq => ?_⟩
      rcases List.mem_cons.1 hq with rfl | hq
      · exact hleast _ List.mem_cons_self
      · rcases List.mem_cons.1 hq with rfl | hq
        · have hr := hleast r List.mem_cons_self
          unfold Source.notBehind at *
          omega
        · exact hleast q (List.mem_cons_of_mem _ hq)
    · rw [if_neg h]
      obtain ⟨hmem, hleast⟩ := ih x
      rw [nearer_iff] at h
      refine ⟨List.mem_cons_of_mem _ hmem, fun q hq => ?_⟩
      rcases List.mem_cons.1 hq with rfl | hq
      · have hx := hleast x List.mem_cons_self
        unfold Source.notBehind at *
        omega
      · exact hleast q hq

/-- R141, R142: the winner of a sorted row that is not empty. -/
theorem rowWinner_spec {row : List Request} (hsorted : RowSorted row) (hne : row ≠ []) :
    ∃ w ∈ row, rowWinner row = w.aspect ∧ ∀ q ∈ row, w.level.order ≤ q.level.order ∧
      (w.level = .divert → q.level = .divert → w.source.notBehind q.source) := by
  cases row with
  | nil => exact absurd rfl hne
  | cons r rest =>
    obtain ⟨hhead, -⟩ := List.pairwise_cons.1 hsorted
    have hfirst : ∀ q ∈ r :: rest, r.level.order ≤ q.level.order := fun q hq => by
      rcases List.mem_cons.1 hq with rfl | hq
      · exact le_rfl
      · exact hhead q hq
    by_cases hd : r.level = .divert
    · obtain ⟨hmem, hleast⟩ := nearestArrow_spec r (slotOf rest .divert)
      have hwin : nearestArrow r (slotOf rest .divert) ∈ r :: rest ∧ (nearestArrow r (slotOf rest .divert)).level = .divert := by
        rcases List.mem_cons.1 hmem with h | h
        · rw [h]; exact ⟨List.mem_cons_self, hd⟩
        · obtain ⟨hin, hlevel⟩ := List.mem_filter.1 h
          exact ⟨List.mem_cons_of_mem _ hin, beq_iff_eq.1 hlevel⟩
      refine ⟨_, hwin.1, if_pos hd, fun q hq => ⟨?_, fun _ hqd => ?_⟩⟩
      · rw [hwin.2, ← hd]; exact hfirst q hq
      · refine hleast q ?_
        rcases List.mem_cons.1 hq with rfl | hq
        · exact List.mem_cons_self
        · exact List.mem_cons_of_mem _ (List.mem_filter.2 ⟨hq, beq_iff_eq.2 hqd⟩)
    · exact ⟨r, List.mem_cons_self, if_neg hd, fun q hq => ⟨hfirst q hq, fun h => absurd h hd⟩⟩

theorem mem_unenclosed {row : List Request} {q : Request} :
    q ∈ row.filter (fun r => r.source != .enclosed) ↔ q ∈ row ∧ q.source ≠ .enclosed := by
  rw [List.mem_filter, bne_iff_ne]

/-- Settles O39. -/
theorem highestLevelWins : Obligations.HighestLevelWins := by
  rintro s l hsorted hl ⟨q, hq, henc⟩
  have hrow : RowSorted ((s.display (laneAddr l)).row.filter fun r => r.source != .enclosed) := (hsorted _).filter _
  obtain ⟨w, hw, hwin, hleast⟩ := rowWinner_spec hrow (List.ne_nil_of_mem (mem_unenclosed.2 ⟨hq, henc⟩))
  obtain ⟨hmem, hwe⟩ := mem_unenclosed.1 hw
  have hbase : s.baseWinners.get l = rowBaseWinner (s.display (laneAddr l)).row := by
    unfold State.baseWinners
    rw [Per6.get_build, if_pos hl]
  exact ⟨w, hmem, hwe, (settle_baseWinner hl).trans (congrArg some (hbase.trans hwin)),
    fun x hx hxe => hleast x (mem_unenclosed.2 ⟨hx, hxe⟩)⟩

/-! ### Displayable forms (R145) -/

/-- The first aspect shown of limits in descending order is that of the greatest. -/
theorem find_greatest {p : Aspect → Bool} {ls : List Limit} (h : ls.Pairwise fun x y => y.num ≤ x.num) {b : Aspect}
    (hb : (ls.filterMap Limit.aspect).find? p = some b) :
    ∃ u ∈ ls, Limit.aspect u = some b ∧ p b = true ∧
      ∀ x ∈ ls, ∀ c, Limit.aspect x = some c → p c = true → x.num ≤ u.num := by
  induction ls with
  | nil => cases hb
  | cons x rest ih =>
    obtain ⟨hx, hrest⟩ := List.pairwise_cons.1 h
    have hskip : (∀ c, Limit.aspect x = some c → p c = false) → (rest.filterMap Limit.aspect).find? p = some b →
        ∃ u ∈ x :: rest, Limit.aspect u = some b ∧ p b = true ∧
          ∀ y ∈ x :: rest, ∀ c, Limit.aspect y = some c → p c = true → y.num ≤ u.num := fun hno hfound => by
      obtain ⟨u, hu, hub, hpb, hall⟩ := ih hrest hfound
      refine ⟨u, List.mem_cons_of_mem _ hu, hub, hpb, fun y hy c hc hp => ?_⟩
      rcases List.mem_cons.1 hy with rfl | hy
      · rw [hno c hc] at hp; cases hp
      · exact hall y hy c hc hp
    cases hxa : Limit.aspect x with
    | none =>
      rw [List.filterMap_cons_none hxa] at hb
      exact hskip (fun c hc => by rw [hxa] at hc; cases hc) hb
    | some c =>
      rw [List.filterMap_cons_some hxa, List.find?_cons] at hb
      cases hp : p c with
      | false =>
        rw [hp] at hb
        exact hskip (fun d hd => by rw [hxa] at hd; cases hd; exact hp) hb
      | true =>
        rw [hp] at hb
        cases hb
        refine ⟨x, List.mem_cons_self, hxa, hp, fun y hy _ _ _ => ?_⟩
        rcases List.mem_cons.1 hy with rfl | hy
        · exact le_rfl
        · exact hx y hy

/-- The limits that a sign can show, greatest first. -/
def shownLimits : List Limit := [.v100, .v80, .v60, .v50, .v40]

theorem mem_shownLimits {x : Limit} {b : Aspect} (h : Limit.aspect x = some b) : x ∈ shownLimits := by
  cases x with
  | unlimited => cases h
  | _ => decide

theorem mem_lowerLimits {v x : Limit} {b : Aspect} (h : Limit.aspect x = some b) (hx : x.num < v.num) :
    x ∈ shownLimits.filter fun x => decide (x.num < v.num) :=
  List.mem_filter.2 ⟨mem_shownLimits h, decide_eq_true hx⟩

theorem lowerSpeed_some {rep : BitVec 16} {v : Limit} {b : Aspect} (h : lowerSpeed rep v = some b) :
    ∃ u, u.num < v.num ∧ Limit.aspect u = some b ∧ canShow rep b = true ∧
      ∀ x c, x.num < v.num → Limit.aspect x = some c → canShow rep c = true → x.num ≤ u.num := by
  have hsorted : (shownLimits.filter fun x => decide (x.num < v.num)).Pairwise fun x y => y.num ≤ x.num :=
    List.Pairwise.filter _ (by decide)
  obtain ⟨u, hu, hub, hpb, hall⟩ := find_greatest hsorted h
  exact ⟨u, of_decide_eq_true (List.mem_filter.1 hu).2, hub, hpb,
    fun x c hx hc hp => hall x (mem_lowerLimits hc hx) c hc hp⟩

theorem lowerSpeed_none {rep : BitVec 16} {v : Limit} (h : lowerSpeed rep v = none) :
    ∀ x b, x.num < v.num → Limit.aspect x = some b → canShow rep b = false := fun x b hx hb =>
  Bool.eq_false_iff.2 (List.find?_eq_none.1 h b (List.mem_filterMap.2 ⟨x, mem_lowerLimits hb hx, hb⟩))

theorem form_absent {m : Module} (h : m.state = .absent) (w : Aspect) : m.form w = (w, false) := if_pos h

theorem form_shown {m : Module} (h : m.state ≠ .absent) {w : Aspect} (hw : canShow m.repertoire w = true) :
    m.form w = (w, false) := (if_neg h).trans (if_pos hw)

/-- R145: the form of a speed that cannot be shown. -/
theorem formOf_speed {rep : BitVec 16} {w : Aspect} {v : Limit} (hw : canShow rep w = false) (hv : w.speed = some v) :
    formOf rep w = ((lowerSpeed rep v).getD .blank, true) := by
  unfold formOf
  rw [if_neg (by rw [hw]; decide)]
  split
  · cases hv
  · cases hv
  · rw [hv]

theorem formOf_other {rep : BitVec 16} {w : Aspect} (hw : canShow rep w = false) (hv : w.speed = none) (he : w ≠ .endSign)
    (hf : w ≠ .flash) : formOf rep w = (.blank, true) := by
  unfold formOf
  rw [if_neg (by rw [hw]; decide)]
  split
  · exact absurd rfl he
  · exact absurd rfl hf
  · rw [hv]

theorem form_eq {m : Module} (h : m.state ≠ .absent) (w : Aspect) : m.form w = formOf m.repertoire w := if_neg h

/-! ### The order of an aspect and the entry that carries it (R146 to R148) -/

/-- R146: an ABSENT module of the list takes its form at once, the others keep what they show. -/
theorem orderAbsent_display (as : List Addr) (s : State) (a : Addr) :
    (s.orderAbsent as).display a =
      if a ∈ as ∧ (s.mod a).state = .absent then { s.display a with ordered := (s.display a).form } else s.display a := by
  induction as generalizing s with
  | nil => simp [State.orderAbsent]
  | cons b as ih =>
    have hcons : s.orderAbsent (b :: as) =
        (if (s.mod b).state = .absent then s.setDisplay b { s.display b with ordered := (s.display b).form } else s).orderAbsent
          as := rfl
    rw [hcons, ih]
    by_cases hb : (s.mod b).state = .absent
    · rw [if_pos hb, mod_setDisplay, display_setDisplay]
      by_cases hab : a = b
      · subst hab
        simp [hb]
      · simp [hab]
    · rw [if_neg hb]
      by_cases hab : a = b
      · subst hab
        simp [hb]
      · simp [hab]

theorem orderEntries_display_other {es : List ChangeEntry} (h : ∀ e ∈ es, e.addr ≠ a) (s : State) :
    (s.orderEntries es).display a = s.display a := by
  induction es generalizing s with
  | nil => rfl
  | cons e es ih =>
    have hcons : s.orderEntries (e :: es) =
        (s.setDisplay e.addr { s.display e.addr with ordered := e.aspect }).orderEntries es := rfl
    rw [hcons, ih fun f hf => h f (List.mem_cons_of_mem _ hf), display_setDisplay,
      if_neg fun ha => h e List.mem_cons_self ha.symm]

theorem orderEntries_ordered {es : List ChangeEntry} (hes : FreshEntries es) {e : ChangeEntry} (he : e ∈ es) (s : State) :
    ((s.orderEntries es).display e.addr).ordered = e.aspect := by
  obtain ⟨pre, post, rfl⟩ := List.append_of_mem he
  have hfold : s.orderEntries (pre ++ e :: post) =
      (((s.orderEntries pre).setDisplay e.addr { (s.orderEntries pre).display e.addr with ordered := e.aspect }).orderEntries
        post) := by
    unfold State.orderEntries
    rw [List.foldl_append, List.foldl_cons]
  have hlater : ∀ f ∈ post, f.addr ≠ e.addr := fun f hf =>
    ((List.pairwise_cons.1 (List.pairwise_append.1 hes.1).2.1).1 f hf).ne'
  rw [hfold, orderEntries_display_other hlater, display_setDisplay, if_pos rfl]

/-! ### A sound queue takes every new entry -/

theorem mergeFirst_takes {es : List ChangeEntry} {q : List Group} (h : ∃ g ∈ q, g.beingSent = false) :
    (queueEntries (mergeFirst es q)).Perm (es ++ queueEntries q) := by
  induction q with
  | nil => obtain ⟨g, hg, -⟩ := h; cases hg
  | cons g rest ih =>
    unfold mergeFirst
    split
    case isTrue hsent =>
      obtain ⟨x, hx, hw⟩ := h
      have hrest := ih <| (List.mem_cons.1 hx).elim (fun hxg => by rw [hxg, hsent] at hw; cases hw) fun hx => ⟨x, hx, hw⟩
      simp only [queueEntries, List.flatMap_cons] at hrest ⊢
      refine (hrest.append_left g.entries).trans ?_
      rw [← List.append_assoc, ← List.append_assoc]
      exact List.perm_append_comm.append_right _
    case isFalse =>
      simp only [queueEntries, List.flatMap_cons, ← List.append_assoc]
      exact (mergeEntries_perm ..).append_right _

theorem mergeLast_takes {es : List ChangeEntry} {pre : List Group} {g : Group} (h : g.beingSent = false) :
    (queueEntries (mergeLast es (pre ++ [g]))).Perm (es ++ queueEntries (pre ++ [g])) := by
  unfold mergeLast
  rw [List.reverse_append, List.reverse_singleton]
  dsimp only [List.singleton_append]
  rw [if_neg (by rw [h]; decide), List.reverse_cons, List.reverse_reverse]
  simp only [queueEntries, List.flatMap_append, List.flatMap_singleton]
  refine ((mergeEntries_perm es g.entries).append_left _).trans ?_
  rw [← List.append_assoc, ← List.append_assoc]
  exact List.perm_append_comm.append_right _

/-- R148: in a sound queue that is full the groups behind the head wait, so that there is one to merge with. -/
theorem QueueSound.last_waits {q : List Group} (h : QueueSound q) (hfull : ¬ q.length < 8) :
    ∃ pre x, q = pre ++ [x] ∧ x.beingSent = false := by
  obtain ⟨g, rest, rfl⟩ := List.exists_cons_of_ne_nil (l := q) (by rintro rfl; exact hfull (by decide))
  have hne : rest ≠ [] := by rintro rfl; exact hfull (by simp)
  refine ⟨g :: rest.dropLast, rest.getLast hne, ?_, h.head _ (List.getLast_mem hne)⟩
  rw [List.cons_append, List.dropLast_append_getLast]

theorem placeUrgent_takes {g : Group} {q : List Group} (h : QueueSound q) :
    (queueEntries (placeUrgent g q)).Perm (g.entries ++ queueEntries q) := by
  unfold placeUrgent
  split
  · split
    · split
      · simp only [queueEntries, List.flatMap_cons, ← List.append_assoc]
        exact List.perm_append_comm.append_right _
      · exact .refl _
    · exact .refl _
  case isFalse hfull =>
    obtain ⟨pre, x, rfl, hx⟩ := h.last_waits hfull
    exact mergeFirst_takes ⟨x, by simp, hx⟩

theorem placeNormal_takes {g : Group} {q : List Group} (h : QueueSound q) :
    (queueEntries (placeNormal g q)).Perm (g.entries ++ queueEntries q) := by
  unfold placeNormal
  split
  · simp only [queueEntries, List.flatMap_append, List.flatMap_singleton]
    exact List.perm_append_comm
  case isFalse hfull =>
    obtain ⟨pre, x, rfl, hx⟩ := h.last_waits hfull
    exact mergeLast_takes hx

/-- R148: the entries of a group placed in a sound queue join those of the queue. -/
theorem placeGroup_takes (k : GroupKind) (es : List ChangeEntry) (h : QueueSound s.asa.queue) :
    (queueEntries (s.placeGroup k es).asa.queue).Perm (es ++ queueEntries s.asa.queue) := by
  unfold State.placeGroup
  split
  case isTrue hnil =>
    rw [List.isEmpty_iff.1 hnil]
    exact .refl _
  case isFalse =>
    cases k
    · exact placeUrgent_takes h
    · exact placeNormal_takes h

/-- The queue once the UNSENT entries of the modules with a new entry have gone. -/
def State.withoutEntries (s : State) (es : List ChangeEntry) : State :=
  { s with asa := { s.asa with queue := removeUnsent (es.map ChangeEntry.addr) s.asa.queue } }

theorem orderEntries_queue (es : List ChangeEntry) (s : State) : (s.orderEntries es).asa.queue = s.asa.queue :=
  foldl_keeps (fun s t : State => t.asa.queue = s.asa.queue) (fun _ => rfl) (fun _ _ _ h g => g.trans h)
    (fun (s : State) (e : ChangeEntry) => s.setDisplay e.addr { s.display e.addr with ordered := e.aspect })
    (fun _ _ => rfl) es s

theorem orderAbsent_queue (as : List Addr) (s : State) : (s.orderAbsent as).asa.queue = s.asa.queue := by
  refine foldl_keeps (fun s t : State => t.asa.queue = s.asa.queue) (fun _ => rfl) (fun _ _ _ h g => g.trans h) _
    (fun s a => ?_) as s
  dsimp only
  split <;> rfl

/-- R148: every new entry waits in the queue, and the entries that were there stay, but for the UNSENT ones replaced. -/
theorem placeEntries_queue {es : List ChangeEntry} (h : QueueSound s.asa.queue) (hes : FreshEntries es) :
    (queueEntries (s.placeEntries es).asa.queue).Perm (es ++ queueEntries (removeUnsent (es.map ChangeEntry.addr) s.asa.queue)) := by
  have hremoved : QueueSound (s.withoutEntries es).asa.queue := h.removeUnsent _
  have hfree : ∀ e ∈ es, (s.withoutEntries es).entryWaits e.addr = false := fun e he =>
    removeUnsent_entryWaits (List.mem_map_of_mem he)
  have hurgent : QueueSound ((s.withoutEntries es).placeGroup .urgent (es.filter s.isUrgent)).asa.queue :=
    (SignAct.placeGroup (s.withoutEntries es) .urgent _ (hes.filter s.isUrgent) fun e he =>
      hfree e (List.mem_of_mem_filter he)).queueSound hremoved
  have hfirst := placeGroup_takes .urgent (es.filter s.isUrgent) hremoved
  have hsecond := placeGroup_takes .normal (es.filter fun e => !s.isUrgent e) hurgent
  have hqueue : (s.placeEntries es).asa.queue = (((s.withoutEntries es).placeGroup .urgent (es.filter s.isUrgent)).placeGroup
      .normal (es.filter fun e => !s.isUrgent e)).asa.queue := orderEntries_queue ..
  rw [hqueue]
  refine hsecond.trans ((hfirst.append_left _).trans ?_)
  rw [← List.append_assoc]
  exact (List.perm_append_comm.trans (List.filter_append_perm s.isUrgent es)).append_right _

theorem mem_placeEntries_queue {es : List ChangeEntry} {e : ChangeEntry} (h : QueueSound s.asa.queue) (hes : FreshEntries es)
    (he : e ∈ es) : ∃ g ∈ (s.placeEntries es).asa.queue, e ∈ g.entries :=
  List.mem_flatMap.1 ((placeEntries_queue h hes).mem_iff.2 (List.mem_append_left _ he))

theorem placeGroup_display (s : State) (k : GroupKind) (es : List ChangeEntry) : (s.placeGroup k es).display = s.display := by
  unfold State.placeGroup; split <;> rfl

theorem placeEntries_display_other {es : List ChangeEntry} (h : ∀ e ∈ es, e.addr ≠ a) :
    (s.placeEntries es).display a = s.display a := by
  unfold State.placeEntries
  dsimp only
  rw [orderEntries_display_other h, placeGroup_display, placeGroup_display]
  rfl

theorem placeEntries_ordered {es : List ChangeEntry} (hes : FreshEntries es) {e : ChangeEntry} (he : e ∈ es) :
    ((s.placeEntries es).display e.addr).ordered = e.aspect := orderEntries_ordered hes he _

/-! ### The modules that an event changes (R146) -/

section
variable {as : List Addr}

theorem changeEntry_some {e : ChangeEntry} : s.changeEntry a = some e ↔
    (s.mod a).state ≠ .absent ∧ (s.mod a).state ≠ .failed ∧ (s.display a).form ≠ (s.display a).ordered ∧
      e = ⟨a, (s.display a).form, (s.display a).limited, false⟩ := by
  unfold State.changeEntry
  dsimp only
  split
  · simp; tauto
  · split <;> simp <;> tauto

theorem formEntries_fresh (has : as.Pairwise (· < ·)) : FreshEntries (as.filterMap s.changeEntry) :=
  freshEntries_filterMap has fun _ _ => changeEntry_addr

theorem formEntries_noEntry (h : s.changeEntry a = none) : (s.formEntries as).display a = (s.orderAbsent as).display a :=
  placeEntries_display_other fun e he hea => by
    obtain ⟨b, -, hb⟩ := List.mem_filterMap.1 he
    obtain rfl : b = a := (changeEntry_addr hb).1.symm.trans hea
    rw [h] at hb; cases hb

theorem changeEntry_none_of_state (h : (s.mod a).state = .absent ∨ (s.mod a).state = .failed) : s.changeEntry a = none :=
  if_pos h

theorem formEntries_absent (ha : a ∈ as) (h : (s.mod a).state = .absent) :
    (s.formEntries as).display a = { s.display a with ordered := (s.display a).form } := by
  rw [formEntries_noEntry (changeEntry_none_of_state (.inl h)), orderAbsent_display, if_pos ⟨ha, h⟩]

theorem formEntries_failed (h : (s.mod a).state = .failed) : (s.formEntries as).display a = s.display a := by
  rw [formEntries_noEntry (changeEntry_none_of_state (.inr h)), orderAbsent_display, if_neg fun g => by rw [h] at g; cases g.2]

/-- R146: a present module that is not FAILED and whose form is not what is ordered has an entry with the form. -/
theorem formEntries_entry (has : as.Pairwise (· < ·)) (hq : QueueSound s.asa.queue) (ha : a ∈ as) (hna : (s.mod a).state ≠ .absent)
    (hnf : (s.mod a).state ≠ .failed) (hne : (s.display a).form ≠ (s.display a).ordered) :
    (∃ g ∈ (s.formEntries as).asa.queue, (⟨a, (s.display a).form, (s.display a).limited, false⟩ : ChangeEntry) ∈ g.entries) ∧
      ((s.formEntries as).display a).ordered = (s.display a).form := by
  have he : (⟨a, (s.display a).form, (s.display a).limited, false⟩ : ChangeEntry) ∈ as.filterMap s.changeEntry :=
    List.mem_filterMap.2 ⟨a, ha, changeEntry_some.2 ⟨hna, hnf, hne, rfl⟩⟩
  exact ⟨mem_placeEntries_queue ((orderAbsent_queue as s).symm ▸ hq) (formEntries_fresh has) he,
    placeEntries_ordered (formEntries_fresh has) he⟩

theorem formEntries_ordered (has : as.Pairwise (· < ·)) (ha : a ∈ as) (hna : (s.mod a).state ≠ .absent)
    (hnf : (s.mod a).state ≠ .failed) : ((s.formEntries as).display a).ordered = (s.display a).form := by
  by_cases hne : (s.display a).form = (s.display a).ordered
  · have hnone : s.changeEntry a = none := (if_neg (by rintro (h | h); exacts [hna h, hnf h])).trans (if_pos hne)
    rw [formEntries_noEntry hnone, orderAbsent_display, if_neg fun g => hna g.2]
    exact hne.symm
  · have he : (⟨a, (s.display a).form, (s.display a).limited, false⟩ : ChangeEntry) ∈ as.filterMap s.changeEntry :=
      List.mem_filterMap.2 ⟨a, ha, changeEntry_some.2 ⟨hna, hnf, hne, rfl⟩⟩
    exact placeEntries_ordered (formEntries_fresh has) he

end

/-! ### O41 -/

theorem settledDisplay_ordered (s : State) (a : Addr) : (s.settledDisplay a).ordered = (s.display a).ordered := by
  unfold State.settledDisplay
  dsimp only
  split
  · split <;> rfl
  · split <;> rfl

theorem mem_changedModules {t : State} : a ∈ changedModules s t ↔ a ∈ t.moduleAddrs ∧
    ((t.display a).winner ≠ (s.display a).winner ∨ (t.display a).form ≠ (s.display a).form ∨
      (t.display a).limited ≠ (s.display a).limited) := by
  unfold changedModules
  rw [List.mem_filter, Bool.or_eq_true, Bool.or_eq_true, bne_iff_ne, bne_iff_ne, bne_iff_ne, or_assoc, ne_comm, ne_comm
    (a := (s.display a).form), ne_comm (a := (s.display a).limited)]

/-- Settles O41. -/
theorem eventFormsEntries : Obligations.EventFormsEntries := by
  refine ⟨fun m w => ⟨fun h => form_absent h w, fun h => ⟨fun hw => form_shown h hw, fun hw => ?_⟩⟩, fun s a hq ha hchanged => ?_⟩
  · rw [form_eq h]
    refine ⟨?_, ?_, fun hv he hf => formOf_other hw hv he hf, fun v hv => ?_⟩
    · rintro rfl; exact if_neg (by rw [hw]; decide)
    · rintro rfl; exact if_neg (by rw [hw]; decide)
    · rw [formOf_speed hw hv]
      refine ⟨rfl, ?_⟩
      cases hlow : lowerSpeed m.repertoire v with
      | none => exact .inr ⟨rfl, lowerSpeed_none hlow⟩
      | some b =>
        obtain ⟨u, hu, hub, hp, hall⟩ := lowerSpeed_some hlow
        exact .inl ⟨u, b, hu, hub, hp, rfl, hall⟩
  · obtain ⟨x, hx⟩ := (formEntries_sameButOrdered s.settleTable (changedModules s s.settleTable)).display a
    have hshown : s.settle.display a = { s.settleTable.display a with ordered := x } := hx
    have hform : (s.settle.display a).form = (s.settleTable.display a).form := (congrArg Display.form hshown :)
    have hlimited : (s.settle.display a).limited = (s.settleTable.display a).limited := (congrArg Display.limited hshown :)
    have hordered : (s.settleTable.display a).ordered = (s.display a).ordered := by
      rw [settleTable_display, settledDisplay_ordered]
    have hin : a ∈ changedModules s s.settleTable := by
      rw [settle_winner_eq, hform, hlimited] at hchanged
      exact mem_changedModules.2 ⟨ha, hchanged⟩
    have hpairs : (changedModules s s.settleTable).Pairwise (· < ·) := moduleAddrs_pairwise.filter _
    rw [hform, hlimited]
    refine ⟨fun h => ?_, fun h => ?_, fun h => ?_⟩
    · exact (congrArg Display.ordered (formEntries_absent (s := s.settleTable) hin h) :)
    · exact (congrArg Display.ordered (formEntries_failed (s := s.settleTable) h)).trans hordered
    · have hna : (s.settleTable.mod a).state ≠ .absent := by
        show (s.mod a).state ≠ .absent
        rcases h with h | h <;> rw [h] <;> decide
      have hnf : (s.settleTable.mod a).state ≠ .failed := by
        show (s.mod a).state ≠ .failed
        rcases h with h | h <;> rw [h] <;> decide
      refine ⟨formEntries_ordered hpairs hin hna hnf, fun hne => ?_⟩
      obtain ⟨⟨g, hg, he⟩, -⟩ := formEntries_entry (s := s.settleTable) hpairs ((queueSound_iff s).1 hq) hin hna hnf
        (by rw [hordered]; exact hne.symm)
      exact ⟨g, hg, _, he, rfl, rfl, rfl, rfl⟩

end Sys2Proof.Machine
end

section
/-! O38: the proof of a record (R119, R120). -/

namespace Sys2Proof.Machine

variable {s : State} {a : Addr}

/-! ### The stage that an evaluation gives (R120) -/

theorem stageAfterProof_satisfied {cs : List ProofClass} (h : ∀ c ∈ cs, c = .satisfied) (st : Stage) :
    stageAfterProof cs st = .proven :=
  if_pos (List.all_eq_true.2 fun c hc => beq_iff_eq.2 (h c hc))

theorem not_all_satisfied {cs : List ProofClass} {c : ProofClass} (hc : c ∈ cs) (hne : c ≠ .satisfied) :
    ¬ (cs.all fun c => c == .satisfied) = true := fun h => hne (beq_iff_eq.1 (List.all_eq_true.1 h c hc))

theorem stageAfterProof_pending {cs : List ProofClass} (h : .pending ∈ cs) (st : Stage) : stageAfterProof cs st = st :=
  (if_neg (not_all_satisfied h (by decide))).trans (if_pos (List.contains_iff_mem.2 h))

theorem stageAfterProof_degraded {cs : List ProofClass} (h : .pending ∉ cs) (hc : ∃ c ∈ cs, c ≠ .satisfied) (st : Stage) :
    stageAfterProof cs st = .degraded := by
  obtain ⟨c, hc, hne⟩ := hc
  exact (if_neg (not_all_satisfied hc hne)).trans (if_neg fun hp => h (List.contains_iff_mem.1 hp))

/-! ### The counted modules and the rank requested of each (R119) -/

theorem le_foldr_max {n : Nat} {ns : List Nat} (h : n ∈ ns) : n ≤ ns.foldr max 0 := by
  induction ns with
  | nil => cases h
  | cons m rest ih =>
    rw [List.foldr_cons]
    rcases List.mem_cons.1 h with rfl | h
    · exact le_max_left ..
    · exact (ih h).trans (le_max_right ..)

theorem foldr_max_mem {ns : List Nat} (h : ns ≠ []) : ns.foldr max 0 ∈ ns := by
  induction ns with
  | nil => exact absurd rfl h
  | cons m rest ih =>
    rw [List.foldr_cons]
    by_cases hrest : rest = []
    · subst hrest; simp
    · rcases max_choice m (rest.foldr max 0) with hm | hm
      · rw [hm]; exact List.mem_cons_self
      · rw [hm]; exact List.mem_cons_of_mem _ (ih hrest)

/-- The rank that requests ask of a module: the highest of theirs. -/
def highestRank (qs : List Request) : Nat := (qs.map fun q => q.aspect.rank).foldr max 0

theorem highestRank_eq_iff {qs : List Request} {n : Nat} (h : qs ≠ []) :
    highestRank qs = n ↔ ∃ q ∈ qs, (∀ x ∈ qs, x.aspect.rank ≤ q.aspect.rank) ∧ q.aspect.rank = n := by
  constructor
  · rintro rfl
    obtain ⟨q, hq, hmax⟩ := List.mem_map.1 (foldr_max_mem (ns := qs.map fun q => q.aspect.rank) (by simpa using h))
    exact ⟨q, hq, fun x hx => hmax ▸ le_foldr_max (List.mem_map_of_mem hx), hmax⟩
  · rintro ⟨q, hq, hall, rfl⟩
    refine le_antisymm ?_ (le_foldr_max (List.mem_map_of_mem hq))
    obtain ⟨x, hx, hmax⟩ := List.mem_map.1 (foldr_max_mem (ns := qs.map fun q => q.aspect.rank) (by simpa using h))
    exact hmax.symm.le.trans (hall x hx)

theorem mem_proofClasses {id : Nat} {c : ProofClass} :
    c ∈ s.proofClasses id ↔
      c ≠ .notCounted ∧ ∃ a ∈ s.moduleAddrs, s.requestsOf id a ≠ [] ∧ c = s.proofClass a (highestRank (s.requestsOf id a)) := by
  unfold State.proofClasses
  rw [List.mem_filter, bne_iff_ne, and_comm, List.mem_filterMap]
  refine and_congr_right fun _ => exists_congr fun a => and_congr_right fun _ => ?_
  cases h : s.requestsOf id a with
  | nil => simp
  | cons q qs => exact ⟨fun h => ⟨by simp, (Option.some.inj h).symm⟩, fun h => congrArg some h.2.symm⟩

/-! ### The class of a module (R119) -/

theorem proofClass_notCounted {rank : Nat} : s.proofClass a rank = .notCounted ↔ a = legendAddr ∧ (s.mod a).state = .absent := by
  unfold State.proofClass
  dsimp only
  split
  case isTrue h => exact ⟨fun _ => h, fun _ => rfl⟩
  case isFalse h =>
    refine ⟨fun hc => ?_, fun g => absurd g h⟩
    split at hc
    · cases hc
    · split at hc
      · cases hc
      · split at hc <;> cases hc

section
variable {rank : Nat} (hcount : a = legendAddr → (s.mod a).state ≠ .absent)
include hcount

theorem proofClass_held (hheld : s.slc.link = .held) : s.proofClass a rank = .pending :=
  (if_neg fun h => hcount h.1 h.2).trans (if_pos hheld)

/-- R119: the class of a counted module with the link OWNED. -/
theorem proofClass_owned (hown : s.slc.link = .owned) :
    s.proofClass a rank =
      if (s.mod a).state = .failed ∨ (s.mod a).state = .absent ∨ ((s.mod a).state = .ready ∧ (s.mod a).limited = true) then .failed
      else if (s.mod a).state = .ready ∧ (s.mod a).provesRank rank = true then .satisfied
      else .pending :=
  (if_neg fun h => hcount h.1 h.2).trans (if_neg (by rw [hown]; decide))

end

theorem provesRank_iff {m : Module} {rank : Nat} : m.provesRank rank = true ↔ ∃ x, m.proven = some x ∧ rank ≤ x.rank := by
  unfold Module.provesRank
  cases m.proven with
  | none => simp
  | some x => simp

/-- Settles O38. -/
theorem proofGivesStage : Obligations.ProofGivesStage := by
  refine ⟨fun cs st => ⟨fun h => stageAfterProof_satisfied h st, fun h => stageAfterProof_pending h st,
    fun h hc => stageAfterProof_degraded h hc st⟩, fun s id c => ?_, fun s a rank => ⟨proofClass_notCounted, fun hcount =>
    ⟨proofClass_held hcount, fun hown => ?_⟩⟩⟩
  · rw [mem_proofClasses]
    refine and_congr_right fun _ => exists_congr fun a => and_congr_right fun _ => ⟨fun ⟨hne, hc⟩ => ?_, fun ⟨q, hq, hall, hc⟩ => ?_⟩
    · obtain ⟨q, hq, hall, hrank⟩ := (highestRank_eq_iff hne).1 rfl
      exact ⟨q, hq, hall, hrank ▸ hc⟩
    · have hne := List.ne_nil_of_mem hq
      exact ⟨hne, by rw [(highestRank_eq_iff hne).2 ⟨q, hq, hall, rfl⟩]; exact hc⟩
  · rw [proofClass_owned hcount hown]
    by_cases hfail : (s.mod a).state = .failed ∨ (s.mod a).state = .absent ∨
        ((s.mod a).state = .ready ∧ (s.mod a).limited = true)
    · rw [if_pos hfail]
      refine ⟨iff_of_true rfl hfail, iff_of_false (by decide) fun ⟨hready, hlim, _⟩ => ?_⟩
      rcases hfail with h | h | ⟨-, h⟩
      · rw [hready] at h; cases h
      · rw [hready] at h; cases h
      · rw [hlim] at h; cases h
    · rw [if_neg hfail]
      have hlimited : (s.mod a).state = .ready → (s.mod a).limited = false := fun h =>
        Bool.eq_false_iff.2 fun hl => hfail (.inr (.inr ⟨h, hl⟩))
      by_cases hsat : (s.mod a).state = .ready ∧ (s.mod a).provesRank rank = true
      · rw [if_pos hsat]
        exact ⟨iff_of_false (by decide) hfail, iff_of_true rfl ⟨hsat.1, hlimited hsat.1, provesRank_iff.1 hsat.2⟩⟩
      · rw [if_neg hsat]
        exact ⟨iff_of_false (by decide) hfail,
          iff_of_false (by decide) fun ⟨hready, _, hx⟩ => hsat ⟨hready, provesRank_iff.2 hx⟩⟩

end Sys2Proof.Machine
end

section
/-! O42 and O43: what the arbiter starts at a transaction boundary (R149, R158, R159, R162, R165, R171 to R173). -/

namespace Sys2Proof.Machine

variable {s u : State} {a b : Addr} {t : Transaction} {g : Group} {rest : List Group}

/-! ### The start of a transaction -/

theorem startTxn_slc (s : State) (t : Transaction) :
    (s.startTxn t).slc =
      { s.slc with
        modules := s.slc.modules.set t.addr { s.mod t.addr with refresh := some 0 }, transaction := some t, retry := none } := rfl

theorem startTxn_mod (s : State) (t : Transaction) (a : Addr) :
    (s.startTxn t).mod a = if a = t.addr then { s.mod a with refresh := some 0 } else s.mod a := by
  have h : (s.startTxn t).mod a = if a = t.addr then { s.mod t.addr with refresh := some 0 } else s.mod a := Per8.get_set ..
  rw [h]
  split
  case isTrue h => rw [h]
  case isFalse => rfl

theorem startTxn_sameBut (s : State) (t : Transaction) : s.sameBut [.slc] (s.startTxn t) := sameBut_slc ..

theorem set_set {α : Type} (m : Per8 α) (a : Addr) (x y : α) : (m.set a x).set a y = m.set a y := by
  fin_cases a <;> rfl

/-- The slc of a transaction started where no retry is left, its module's entry having been set before. -/
theorem setMod_startTxn_slc (hr : s.slc.retry = none) (m : Module) (c : LinkCommand) (p : Purpose) :
    ((s.setMod a m).startTxn ⟨a, c, p, false⟩).slc =
      { s.slc with
        modules := s.slc.modules.set a { m with refresh := some 0 }, transaction := some ⟨a, c, p, false⟩ } := by
  have h := startTxn_slc (s.setMod a m) ⟨a, c, p, false⟩
  rw [h, mod_setMod_same, ← hr]
  exact congrArg (fun x => { s.slc with modules := x, transaction := some ⟨a, c, p, false⟩ }) (set_set ..)

/-! ### The boundary (R149) -/

theorem boundary_sameBut (s : State) : s.sameBut [.asa] s.boundary := by simp [State.sameBut, State.boundary]

theorem boundary_slc (s : State) : s.boundary.slc = s.slc := rfl

theorem boundary_mod (s : State) (a : Addr) : s.boundary.mod a = s.mod a := rfl

theorem boundary_display (s : State) (a : Addr) : s.boundary.display a = s.display a := rfl

/-- R149: nothing leaves a queue whose group BEING_SENT, if there is one, has a SET left. -/
theorem boundary_eq (h : ∀ g ∈ s.asa.queue, g.beingSent = true → ∃ e ∈ g.entries, e.sent = false) : s.boundary = s := by
  have hq : leaveQueue s.asa.queue = s.asa.queue := List.filter_eq_self.2 fun g hg => by
    by_contra hgone
    simp only [Bool.not_eq_true', Bool.not_eq_false, Bool.and_eq_true, List.all_eq_true] at hgone
    obtain ⟨e, he, hunsent⟩ := h g hg hgone.1
    rw [hgone.2 e he] at hunsent
    cases hunsent
  unfold State.boundary
  rw [hq]

theorem boundary_sendingHead (h : ∀ g ∈ s.asa.queue, g.beingSent = true → ∀ e ∈ g.entries, e.sent = true) :
    s.boundary.sendingHead = false := by
  unfold State.sendingHead
  have hleft : ∀ g ∈ s.boundary.asa.queue, g.beingSent = false := fun g hg => by
    obtain ⟨hin, hkeep⟩ := List.mem_filter.1 hg
    by_contra hsent
    have hsent : g.beingSent = true := by simpa using hsent
    rw [hsent, List.all_eq_true.2 (h g hin hsent)] at hkeep
    cases hkeep
  split
  case h_1 g rest hq => exact hleft g (by rw [hq]; exact List.mem_cons_self)
  case h_2 => rfl

/-! ### The arbiter's list (R159) -/

theorem exec_transactionStart (hrun : s.running = true) (hown : s.slc.link = .owned) (ht : s.slc.transaction = none) :
    exec .transactionStart s = .next s.arbitrate :=
  congrArg Host.Outcome.next (if_pos ⟨hrun, hown, ht⟩)

theorem arbitrate_retry (hr : s.slc.retry = some t) : s.arbitrate = s.boundary.startTxn t := by
  unfold State.arbitrate
  dsimp only
  rw [boundary_slc, hr]

theorem arbitrate_round {as : List Addr} (hr : s.slc.retry = none) (hround : s.slc.round = some (a :: as)) :
    s.arbitrate = s.boundary.startTxn ⟨a, .proof, .proofRound, false⟩ := by
  unfold State.arbitrate State.roundHead
  dsimp only
  rw [boundary_slc, hr, hround]
  rfl

section
variable (hr : s.slc.retry = none) (hround : s.slc.round = none)
include hr hround

theorem arbitrate_free :
    s.arbitrate =
      if s.boundary.sendingHead = true ∧ s.stu.station = .run then s.boundary.startSet.getD s.boundary
      else if s.slc.holdPending then
        (if s.boundary.onBus then s.boundary.grantHold.reviewProof else s.boundary.grantHold).drive
      else if s.stu.station = .discover then s.boundary.discoveryStep
      else s.boundary.ownItems := by
  unfold State.arbitrate State.roundHead
  dsimp only
  rw [boundary_slc, hr, hround]
  rfl

theorem arbitrate_sends (hsend : s.boundary.sendingHead = true) (hs : s.stu.station = .run) :
    s.arbitrate = s.boundary.startSet.getD s.boundary := (arbitrate_free hr hround).trans (if_pos ⟨hsend, hs⟩)

theorem arbitrate_holds (hsend : s.boundary.sendingHead = false) (hp : s.slc.holdPending = true) :
    s.arbitrate = (if s.boundary.onBus then s.boundary.grantHold.reviewProof else s.boundary.grantHold).drive := by
  rw [arbitrate_free hr hround, hsend, if_neg (by simp), if_pos hp]

theorem arbitrate_own (hsend : s.boundary.sendingHead = false) (hp : s.slc.holdPending = false) (hbus : s.onBus = true) :
    s.arbitrate = s.boundary.ownItems := by
  have hs : s.stu.station ≠ .discover := by rcases onBus_cases hbus with h | h <;> rw [h] <;> decide
  rw [arbitrate_free hr hround, hsend, hp, if_neg (by simp), if_neg (by decide), if_neg hs]

end

/-! ### O42 -/

theorem grantHold_mod (s : State) (a : Addr) : s.grantHold.mod a = { s.mod a with pollDue := false, refreshDue := false } :=
  Per8.get_build ..

theorem recompute_signsDown (s : State) : s.recompute.spc.signsDown = s.spc.signsDown := by
  rw [recompute_spc]
  unfold Spc.applyEvent
  split <;> rfl

/-- An event of the Closure Table leaves SIGNS_DOWN to the outputs that follow it. -/
theorem reviewProof_signsDown (s : State) : s.reviewProof.spc.signsDown = s.spc.signsDown := by
  have hrun : WorkRun s.work (s.work.s.recordIds.foldl (fun w id => (w.prove id).drain id) s.work) :=
    reflTransGen_foldl _ (fun w id => (Relation.ReflTransGen.single (.prove w id)).tail (.drain _ id)) _ _
  have hsettled := settle_same (s.work.s.recordIds.foldl (fun w id => (w.prove id).drain id) s.work).s
  rcases closureEvent_cases s fun w => w.s.recordIds.foldl (fun w id => (w.prove id).drain id) w with ⟨-, heq⟩ | ⟨-, heq⟩
  · rw [State.reviewProof, heq, recompute_signsDown]
    exact congrArg Spc.signsDown (hsettled.spc.trans hrun.spc)
  · rw [State.reviewProof, heq]
    exact congrArg Spc.signsDown (hsettled.spc.trans hrun.spc)

theorem drive_signsDown (hbus : s.onBus = true) : s.drive.spc.signsDown = s.signsDownLevel := by
  unfold State.drive; rw [hbus]; rfl

/-- R171, R172: a hold granted, with what the Closure Table and the outputs make of it. -/
theorem granted_outcome (s : State) :
    let u := (if s.onBus then s.grantHold.reviewProof else s.grantHold).drive
    s.sameBut [.stu, .msu, .spc, .clt, .asa, .slc] u ∧ u.slc = s.grantHold.slc ∧
      (s.onBus = true → u.spc.posted = u.spc.target ∧ u.spc.signsDown = s.spc.signsDown) := by
  have hgrant : s.sameBut [.slc] s.grantHold := sameBut_slc ..
  have hslc : (if s.onBus then s.grantHold.reviewProof else s.grantHold).slc = s.grantHold.slc := by
    split
    · exact (reviewProof_same _).slc
    · rfl
  refine ⟨?_, hslc, fun hbus => ?_⟩
  · split
    · exact (hgrant.mono (by simp)).trans ((reviewProof_drive_sameBut _).mono (by simp))
    · exact (hgrant.mono (by simp)).trans ((drive_sameBut _).mono (by simp))
  · rw [if_pos hbus]
    have hsame := reviewProof_same s.grantHold
    have hbus' : s.grantHold.reviewProof.onBus = true := by unfold State.onBus; rw [hsame.stu]; exact hbus
    have hheld : s.grantHold.reviewProof.slc.link = .held := by rw [hsame.slc]; rfl
    refine ⟨?_, ?_⟩
    · rw [drive_posted hbus', drive_target, State.postedLevel, State.provenSpeeds, if_pos hheld, leastLimit_nil,
        Limit.lower_unlimited]
    · rw [drive_signsDown hbus', State.signsDownLevel, if_pos hheld, reviewProof_signsDown]
      rfl

/-- Settles O42. -/
theorem boundaryServesRetryRoundHold : Obligations.BoundaryServesRetryRoundHold := by
  refine fun s hrun hown ht => ⟨fun t hnext => ?_, fun hr hround hp hsent => ?_⟩
  · refine ⟨s.boundary.startTxn t, ?_, (boundary_sameBut s).mono (by simp) |>.trans ((startTxn_sameBut ..).mono (by simp)), ?_,
      fun a => startTxn_mod s.boundary t a⟩
    · rw [exec_transactionStart hrun hown ht]
      rcases hnext with hr | ⟨hr, a, rest, hround, rfl⟩
      · rw [arbitrate_retry hr]
      · rw [arbitrate_round hr hround]
    · rw [startTxn_slc]
      rfl
  · obtain ⟨hframe, hslc, hposted⟩ := granted_outcome s.boundary
    refine ⟨_, by rw [exec_transactionStart hrun hown ht, arbitrate_holds hr hround (boundary_sendingHead hsent) hp],
      ((boundary_sameBut s).mono (by simp)).trans hframe, ?_, fun a => ?_, hposted⟩
    · rw [hslc]; rfl
    · have hmod := grantHold_mod s.boundary a
      rw [← boundary_mod s a, ← hmod]
      exact congrArg (·.modules.get a) hslc

end Sys2Proof.Machine
end

section
/-! O43: the items of a transaction boundary in their order (R149, R159, R162 to R170). -/

namespace Sys2Proof.Machine

variable {s u : State} {a b : Addr} {t : Transaction} {g : Group} {rest : List Group} {e : ChangeEntry}
  {pre es : List ChangeEntry}

/-! ### A SET of the head group (R149, R162) -/

theorem nextEntry_eq (hg : g.entries = pre ++ e :: es) (hpre : ∀ x ∈ pre, x.sent = true) (he : e.sent = false) :
    g.nextEntry = some e := by
  unfold Group.nextEntry
  rw [hg, List.find?_append, List.find?_eq_none.2 fun x hx => by simp [hpre x hx]]
  simp [he]

theorem markSent_eq (hg : g.entries = pre ++ e :: es) (hne : ∀ x ∈ pre ++ es, x.addr ≠ e.addr) :
    g.markSent e.addr = { g with beingSent := true, entries := pre ++ { e with sent := true } :: es } := by
  have hkeep : ∀ xs : List ChangeEntry, (∀ x ∈ xs, x.addr ≠ e.addr) →
      (xs.map fun x => if x.addr = e.addr then { x with sent := true } else x) = xs := fun xs hxs =>
    (List.map_congr_left fun x hx => if_neg (hxs x hx)).trans (List.map_id xs)
  have hmark : (g.entries.map fun x => if x.addr = e.addr then { x with sent := true } else x) =
      pre ++ { e with sent := true } :: es := by
    rw [hg, List.map_append, List.map_cons, if_pos rfl, hkeep pre fun x hx => hne x (List.mem_append_left _ hx),
      hkeep es fun x hx => hne x (List.mem_append_right _ hx)]
  unfold Group.markSent
  rw [hmark]

/-- The state with the SET of an entry on the line. -/
def State.sending (s : State) (g : Group) (rest : List Group) (pre : List ChangeEntry) (e : ChangeEntry) (es : List ChangeEntry) :
    State :=
  State.startTxn
    { s with asa := { s.asa with
        queue := { g with beingSent := true, entries := pre ++ { e with sent := true } :: es } :: rest } }
    ⟨e.addr, .set e.aspect g.tag, .groupSet e.limited, false⟩

theorem startSet_eq (hq : s.asa.queue = g :: rest) (hg : g.entries = pre ++ e :: es) (hpre : ∀ x ∈ pre, x.sent = true)
    (he : e.sent = false) (hne : ∀ x ∈ pre ++ es, x.addr ≠ e.addr) : s.startSet = some (s.sending g rest pre e es) := by
  unfold State.startSet
  rw [hq]
  dsimp only
  rw [nextEntry_eq hg hpre he, Option.map_some, markSent_eq hg hne]
  rfl

theorem sending_sameBut (s : State) (g : Group) (rest : List Group) (pre : List ChangeEntry) (e : ChangeEntry)
    (es : List ChangeEntry) : s.sameBut [.asa, .slc] (s.sending g rest pre e es) := by
  simp [State.sameBut, State.sending, State.startTxn]

theorem sending_slc (hr : s.slc.retry = none) :
    (s.sending g rest pre e es).slc =
      { s.slc with
        modules := s.slc.modules.set e.addr { s.mod e.addr with refresh := some 0 }
        transaction := some ⟨e.addr, .set e.aspect g.tag, .groupSet e.limited, false⟩ } := by
  have h := startTxn_slc { s with asa := { s.asa with
    queue := { g with beingSent := true, entries := pre ++ { e with sent := true } :: es } :: rest } }
    ⟨e.addr, .set e.aspect g.tag, .groupSet e.limited, false⟩
  rw [State.sending, h, ← hr]
  rfl

/-! ### The free choices (assumption 9) -/

theorem pick_some {cs : List Addr} (h : cs ≠ []) : ∃ a ∈ cs, ∃ n, s.pick cs = some (a, { s with choices := n }) := by
  unfold State.pick
  split
  · exact absurd rfl h
  · exact ⟨_, List.mem_singleton.2 rfl, s.choices, rfl⟩
  case h_3 x ys _ =>
    refine ⟨_, ?_, s.choices + 1, rfl⟩
    have hlt : Config.choice s.choices % (ys.length + 1) < (x :: ys).length := by
      rw [List.length_cons]; exact Nat.mod_lt _ (Nat.succ_pos _)
    rw [List.getD_eq_getElem _ _ hlt]
    exact List.getElem_mem hlt

theorem pick_none : s.pick [] = none := rfl

/-! ### The poll that fell due first (R159, item 6) -/

theorem earliestPoll_spec {as : List Addr} (hne : as ≠ []) (hsorted : as.Pairwise (· < ·)) :
    ∃ a ∈ as, s.earliestPoll as = some a ∧
      ∀ b ∈ as, (s.mod b).overdue < (s.mod a).overdue ∨ ((s.mod b).overdue = (s.mod a).overdue ∧ a ≤ b) := by
  induction as with
  | nil => exact absurd rfl hne
  | cons x rest ih =>
    obtain ⟨hx, hrest⟩ := List.pairwise_cons.1 hsorted
    unfold State.earliestPoll
    by_cases hnil : rest = []
    · subst hnil
      exact ⟨x, List.mem_singleton.2 rfl, rfl, fun b hb => by rw [List.mem_singleton.1 hb]; exact .inr ⟨rfl, le_rfl⟩⟩
    · obtain ⟨a, ha, hfirst, hleast⟩ := ih hnil hrest
      rw [hfirst]
      dsimp only
      by_cases hle : (s.mod a).overdue ≤ (s.mod x).overdue
      · refine ⟨x, List.mem_cons_self, if_pos hle, fun b hb => ?_⟩
        rcases List.mem_cons.1 hb with rfl | hb
        · exact .inr ⟨rfl, le_rfl⟩
        · have hxb := (hx b hb).le
          rcases hleast b hb with h | ⟨h, -⟩
          · exact .inl (by omega)
          · rcases Nat.lt_or_ge (s.mod b).overdue (s.mod x).overdue with hlt | hge
            · exact .inl hlt
            · exact .inr ⟨by omega, hxb⟩
      · refine ⟨a, List.mem_cons_of_mem _ ha, if_neg hle, fun b hb => ?_⟩
        rcases List.mem_cons.1 hb with rfl | hb
        · exact .inl (by omega)
        · exact hleast b hb

/-! ### The items in their order (R159) -/

theorem ownItems_urgent (hs : s.stu.station = .run) (hu : s.urgentHead = true) : s.ownItems = s.startSet.getD s :=
  if_pos ⟨beq_iff_eq.2 hs, hu⟩

section
variable (hu : s.stu.station = .run → s.urgentHead = false)
include hu

theorem ownItems_not_urgent : s.ownItems =
    match s.pick (s.moduleAddrs.filter fun a => (s.stu.station == .run) && (s.mod a).blankOwed) with
    | some (a, s) => s.startBlank a
    | none => s.lowItems (s.stu.station == .run) :=
  if_neg fun ⟨hs, h⟩ => by rw [hu (beq_iff_eq.1 hs)] at h; cases h

theorem ownItems_blank (hb : (s.moduleAddrs.filter fun a => (s.stu.station == .run) && (s.mod a).blankOwed) ≠ []) :
    ∃ a ∈ s.moduleAddrs.filter (fun a => (s.stu.station == .run) && (s.mod a).blankOwed), ∃ n,
      s.ownItems = ({ s with choices := n } : State).startBlank a := by
  obtain ⟨a, ha, n, hpick⟩ := pick_some (s := s) hb
  exact ⟨a, ha, n, by rw [ownItems_not_urgent hu, hpick]⟩

theorem ownItems_low (hb : (s.moduleAddrs.filter fun a => (s.stu.station == .run) && (s.mod a).blankOwed) = []) :
    s.ownItems = s.lowItems (s.stu.station == .run) := by
  rw [ownItems_not_urgent hu, hb]
  rfl

end

theorem lowItems_poll {inRun : Bool} (h : s.earliestPoll s.duePolls = some a) : s.lowItems inRun = s.startPoll a := by
  unfold State.lowItems; rw [h]

theorem lowItems_no_poll {inRun : Bool} (h : s.duePolls = []) :
    s.lowItems inRun = if inRun = true ∧ s.normalHead = true then s.startSet.getD s else s.lastItems inRun := by
  unfold State.lowItems
  rw [h]
  rfl

theorem lastItems_ident {inRun : Bool} (h : (s.moduleAddrs.filter fun a => inRun && (s.mod a).identDue) ≠ []) :
    ∃ a ∈ s.moduleAddrs.filter (fun a => inRun && (s.mod a).identDue), ∃ n,
      s.lastItems inRun = ({ s with choices := n } : State).startIdent a := by
  obtain ⟨a, ha, n, hpick⟩ := pick_some (s := s) h
  refine ⟨a, ha, n, ?_⟩
  unfold State.lastItems
  rw [hpick]

theorem lastItems_refresh {inRun : Bool} (h : (s.moduleAddrs.filter fun a => inRun && (s.mod a).identDue) = [])
    (hr : (s.moduleAddrs.filter fun a => (s.mod a).refreshDue) ≠ []) :
    ∃ a ∈ s.moduleAddrs.filter (fun a => (s.mod a).refreshDue), ∃ n,
      s.lastItems inRun = ({ s with choices := n } : State).startRefresh a := by
  obtain ⟨a, ha, n, hpick⟩ := pick_some (s := s) hr
  refine ⟨a, ha, n, ?_⟩
  unfold State.lastItems
  rw [h, pick_none]
  dsimp only
  rw [hpick]

theorem lastItems_none {inRun : Bool} (h : (s.moduleAddrs.filter fun a => inRun && (s.mod a).identDue) = [])
    (hr : (s.moduleAddrs.filter fun a => (s.mod a).refreshDue) = []) : s.lastItems inRun = s := by
  unfold State.lastItems
  rw [h, hr]
  rfl

/-- No item below a group starts a SET or touches the change queue. -/
theorem lastItems_quiet (s : State) (inRun : Bool) :
    (s.lastItems inRun).asa = s.asa ∧ ((s.lastItems inRun).slc.transaction = s.slc.transaction ∨
      ∃ t, (s.lastItems inRun).slc.transaction = some t ∧ t.command.isSet = false) := by
  by_cases hi : (s.moduleAddrs.filter fun a => inRun && (s.mod a).identDue) = []
  · by_cases hr : (s.moduleAddrs.filter fun a => (s.mod a).refreshDue) = []
    · rw [lastItems_none hi hr]
      exact ⟨rfl, .inl rfl⟩
    · obtain ⟨a, -, n, heq⟩ := lastItems_refresh hi hr
      rw [heq]
      exact ⟨rfl, .inr ⟨_, rfl, rfl⟩⟩
  · obtain ⟨a, -, n, heq⟩ := lastItems_ident hi
    rw [heq]
    exact ⟨rfl, .inr ⟨_, rfl, rfl⟩⟩

/-- A head group that may not be taken: what the boundary starts instead is no SET. -/
theorem ownItems_quiet (hu : s.stu.station = .run → s.urgentHead = false) (hn : s.normalHead = false) :
    s.ownItems.asa = s.asa ∧ (s.ownItems.slc.transaction = s.slc.transaction ∨
      ∃ t, s.ownItems.slc.transaction = some t ∧ t.command.isSet = false) := by
  by_cases hb : (s.moduleAddrs.filter fun a => (s.stu.station == .run) && (s.mod a).blankOwed) = []
  · rw [ownItems_low hu hb]
    by_cases hp : s.duePolls = []
    · rw [lowItems_no_poll hp, if_neg fun h => by rw [hn] at h; cases h.2]
      exact lastItems_quiet s _
    · obtain ⟨a, -, hfirst, -⟩ := earliestPoll_spec (s := s) hp (moduleAddrs_pairwise.filter _)
      rw [lowItems_poll hfirst]
      exact ⟨rfl, .inr ⟨_, rfl, rfl⟩⟩
  · obtain ⟨a, -, n, heq⟩ := ownItems_blank hu hb
    rw [heq]
    exact ⟨rfl, .inr ⟨_, rfl, rfl⟩⟩

/-! ### O43 -/

section
variable (hown : s.slc.link = .owned) (ht : s.slc.transaction = none) (hr : s.slc.retry = none) (hround : s.slc.round = none)
include hown ht hr hround

/-- R159: with no group BEING_SENT, the boundary comes to the station's own items. -/
theorem exec_own (hbus : s.onBus = true) (hp : s.slc.holdPending = false) (hidle : ∀ g ∈ s.asa.queue, g.beingSent = false) :
    exec .transactionStart s = .next s.ownItems := by
  have hwait : ∀ (P : Group → Prop), ∀ g ∈ s.asa.queue, g.beingSent = true → P g := fun P g hg h => by
    rw [hidle g hg] at h; cases h
  rw [exec_transactionStart (by unfold State.running; rcases onBus_cases hbus with h | h <;> rw [h] <;> rfl) hown ht,
    arbitrate_own hr hround (boundary_sendingHead (hwait _)) hp hbus, boundary_eq (hwait _)]

/-- R149, R162: the head group that may go on, or that is urgent, has its next SET started. -/
theorem exec_startSet (hs : s.stu.station = .run) (hsound : s.queueSound) (hq : s.asa.queue = g :: rest)
    (hset : s.startSet = some u) (hleft : ∃ e ∈ g.entries, e.sent = false)
    (hgo : g.beingSent = true ∨ (g.kind = .urgent ∧ s.slc.holdPending = false)) : exec .transactionStart s = .next u := by
  have hwaiting := ((queueSound_iff s).1 hsound).head
  rw [hq] at hwaiting
  have hrun : s.running = true := by unfold State.running; rw [hs]; rfl
  by_cases hsent : g.beingSent = true
  · have hstay : s.boundary = s := boundary_eq fun x hx h => by
      rw [hq] at hx
      rcases List.mem_cons.1 hx with rfl | hx
      · exact hleft
      · rw [hwaiting x hx] at h; cases h
    rw [exec_transactionStart hrun hown ht, arbitrate_sends hr hround (by unfold State.sendingHead; rw [hstay, hq]; exact hsent) hs,
      hstay, hset, Option.getD_some]
  · obtain ⟨hkind, hp⟩ := hgo.resolve_left hsent
    have hbus : s.onBus = true := by unfold State.onBus; rw [hs]; rfl
    have hidle : ∀ x ∈ s.asa.queue, x.beingSent = false := fun x hx => by
      rw [hq] at hx
      rcases List.mem_cons.1 hx with rfl | hx
      · exact Bool.eq_false_iff.2 hsent
      · exact hwaiting x hx
    rw [exec_own hown ht hr hround hbus hp hidle,
      ownItems_urgent hs (by unfold State.urgentHead; rw [hq]; exact beq_iff_eq.2 hkind), hset, Option.getD_some]

/-- R165: a normal head group with a CHANGING module is not taken. -/
theorem exec_normal_waits (hs : s.stu.station = .run) (hsound : s.queueSound) (hq : s.asa.queue = g :: rest)
    (hkind : g.kind = .normal) (hsent : g.beingSent = false) (hp : s.slc.holdPending = false)
    (hchanging : ∃ e ∈ g.entries, (s.mod e.addr).state = .changing) :
    ∃ u, exec .transactionStart s = .next u ∧ u.asa.queue = s.asa.queue ∧
      ∀ t, u.slc.transaction = some t → t.command.isSet = false := by
  have hwaiting := ((queueSound_iff s).1 hsound).head
  rw [hq] at hwaiting
  have hidle : ∀ x ∈ s.asa.queue, x.beingSent = false := fun x hx => by
    rw [hq] at hx
    rcases List.mem_cons.1 hx with rfl | hx
    · exact hsent
    · exact hwaiting x hx
  obtain ⟨e, he, hstate⟩ := hchanging
  have hurgent : s.urgentHead = false := by
    unfold State.urgentHead
    rw [hq]
    dsimp only
    rw [hkind]
    rfl
  have hnormal : s.normalHead = false := by
    unfold State.normalHead
    rw [hq]
    have hbusy : (g.entries.all fun e => (s.mod e.addr).state != .changing) = false :=
      List.all_eq_false.2 ⟨e, he, by rw [hstate]; decide⟩
    dsimp only
    rw [hbusy, Bool.and_false]
  obtain ⟨hasa, hquiet⟩ := ownItems_quiet (fun _ => hurgent) hnormal
  refine ⟨_, exec_own hown ht hr hround (by unfold State.onBus; rw [hs]; rfl) hp hidle, by rw [hasa], fun t h => ?_⟩
  rcases hquiet with hstays | ⟨t', hstart, hno⟩
  · rw [hstays, ht] at h; cases h
  · rw [hstart] at h; cases h; exact hno

end

/-- What a SET on the line leaves of the rest. -/
theorem sending_mod (s : State) (g : Group) (rest : List Group) (pre : List ChangeEntry) (e : ChangeEntry)
    (es : List ChangeEntry) (a : Addr) :
    (s.sending g rest pre e es).mod a = if a = e.addr then { s.mod a with refresh := some 0 } else s.mod a := startTxn_mod ..

theorem ascending_after (h : (pre ++ e :: es).Pairwise fun x y => x.addr < y.addr) : ∀ x ∈ es, e.addr < x.addr :=
  (List.pairwise_cons.1 (List.pairwise_append.1 h).2.1).1

/-- R159, items 5 and 8: the modules of an item that RUN alone allows. -/
theorem filter_inRun (s : State) (p : Module → Bool) :
    (s.moduleAddrs.filter fun a => (s.stu.station == .run) && p (s.mod a)) =
      s.moduleAddrs.filter fun a => decide (s.stu.station = .run ∧ p (s.mod a) = true) :=
  List.filter_congr fun a _ => by rw [Bool.eq_iff_iff]; simp

theorem duePolls_eq (s : State) :
    s.duePolls = s.moduleAddrs.filter fun a => decide ((s.mod a).pollDue = true ∧ (s.mod a).state = .changing) :=
  List.filter_congr fun a _ => by rw [Bool.eq_iff_iff]; simp

/-- R149: the normal head group that may be taken in RUN. -/
def State.takeable (s : State) (g : Group) : Bool :=
  decide (s.stu.station = .run ∧ ∀ e ∈ g.entries, (s.mod e.addr).state ≠ .changing)

theorem normalHead_of_takeable (hq : s.asa.queue = g :: rest) (hkind : g.kind = .normal) (h : s.takeable g = true) :
    s.normalHead = true := by
  have hfree := (of_decide_eq_true h).2
  unfold State.normalHead
  rw [hq]
  simpa [hkind] using hfree

theorem not_normalHead (hs : s.stu.station = .run) (h : s.asa.queue.head?.filter s.takeable = none) :
    s.normalHead = false := by
  unfold State.normalHead
  split
  case h_1 g rest hq =>
    by_contra hnormal
    have hnormal := (Bool.and_eq_true_iff.1 (Bool.not_eq_false _ ▸ hnormal)).2
    rw [hq, List.head?_cons, Option.filter_some, if_pos (show s.takeable g = true from decide_eq_true ⟨hs, by simpa using hnormal⟩)] at h
    cases h
  case h_2 => rfl


/-- A transaction that an item of the boundary starts, no retry being left. -/
theorem startTxn_slc_fresh (hr : s.slc.retry = none) (n : Nat) (a : Addr) (c : LinkCommand) (p : Purpose) :
    (({ s with choices := n } : State).startTxn ⟨a, c, p, false⟩).slc =
      { s.slc with
        modules := s.slc.modules.set a { s.mod a with refresh := some 0 }, transaction := some ⟨a, c, p, false⟩ } := by
  have h := startTxn_slc { s with choices := n } ⟨a, c, p, false⟩
  rw [h, ← hr]
  rfl

/-- Settles O43. -/
theorem boundarySendsGroup : Obligations.BoundarySendsGroup := by
  refine ⟨fun s g rest hs hown ht hr hround hsound hq => ⟨fun pre e es hg hpre he hne hgo => ?_,
      fun hkind hsent hp hchanging => exec_normal_waits hown ht hr hround hs hsound hq hkind hsent hp hchanging⟩,
    fun s hbus hown ht hr hround hp hsound hidle hnormal => ?_⟩
  · have horder := ((queueSound_iff s).1 hsound).order g (by rw [hq]; exact List.mem_cons_self)
    rw [hg] at horder
    exact ⟨_, exec_startSet hown ht hr hround hs hsound hq (startSet_eq hq hg hpre he hne) ⟨e, by rw [hg]; simp, he⟩ hgo,
      sending_sameBut .., rfl, sending_slc hr, ascending_after horder, sending_mod s g rest pre e es⟩
  · intro inRun blanks polls heads idents refreshes starts
    have hurgent : s.stu.station = .run → s.urgentHead = false := fun hs => by
      unfold State.urgentHead
      split
      case h_1 g rest hq => rw [hnormal hs g (by rw [hq]; rfl)]; rfl
      case h_2 => rfl
    have hblanks : _ = blanks := filter_inRun s Module.blankOwed
    have hidents : _ = idents := filter_inRun s Module.identDue
    have hpolls : s.duePolls = polls := duePolls_eq s
    have hrefreshes : (s.moduleAddrs.filter fun a => (s.mod a).refreshDue) = refreshes :=
      List.filter_congr fun a _ => Bool.decide_eq_true.symm
    have hheads : heads = s.asa.queue.head?.filter s.takeable := rfl
    have hlow : blanks = [] → exec .transactionStart s = .next (s.lowItems (s.stu.station == .run)) := fun hb => by
      rw [exec_own hown ht hr hround hbus hp hidle, ownItems_low hurgent (hblanks.trans hb)]
    have hlast : blanks = [] → polls = [] → heads = none →
        exec .transactionStart s = .next (s.lastItems (s.stu.station == .run)) := fun hb hpoll hh => by
      have hno : ¬ ((s.stu.station == .run) = true ∧ s.normalHead = true) := fun ⟨hs, hn⟩ => by
        rw [not_normalHead (beq_iff_eq.1 hs) (hheads ▸ hh)] at hn
        cases hn
      rw [hlow hb, lowItems_no_poll (hpolls.trans hpoll), if_neg hno]
    refine ⟨fun hb => ?_, fun hb hpoll => ?_, fun hb hpoll g hg => ?_, fun hb hpoll hh hi => ?_,
      fun hb hpoll hh hi hre => ?_, fun hb hpoll hh hi hre => ?_⟩
    · obtain ⟨a, ha, n, heq⟩ := ownItems_blank hurgent (hblanks ▸ hb)
      exact ⟨_, (exec_own hown ht hr hround hbus hp hidle).trans (congrArg _ heq), by simp [State.sameBut, State.startBlank, State.startTxn],
        a, hblanks ▸ ha, startTxn_slc_fresh hr ..⟩
    · obtain ⟨a, ha, hfirst, hleast⟩ := earliestPoll_spec (s := s) (hpolls ▸ hpoll) (moduleAddrs_pairwise.filter _)
      exact ⟨_, (hlow hb).trans (congrArg _ (lowItems_poll hfirst)), by simp [State.sameBut, State.startPoll, State.startTxn], a, hpolls ▸ ha,
        setMod_startTxn_slc hr .., fun b hb => hleast b (hpolls ▸ hb :)⟩
    · obtain ⟨hhead, htake⟩ := Option.filter_eq_some_iff.1 (hheads.symm.trans hg)
      obtain ⟨rest, hq⟩ := List.head?_eq_some_iff.1 hhead
      have hin : g ∈ s.asa.queue := by rw [hq]; exact List.mem_cons_self
      have hs := (of_decide_eq_true htake).1
      obtain ⟨hne, hunsent⟩ := ((queueSound_iff s).1 hsound).waiting g hin (hidle g hin)
      obtain ⟨e, es, hes⟩ := List.exists_cons_of_ne_nil hne
      have horder := ((queueSound_iff s).1 hsound).order g hin
      rw [hes] at horder
      have hafter := ascending_after (pre := []) horder
      have he : e ∈ g.entries := by rw [hes]; exact List.mem_cons_self
      have hset := startSet_eq (pre := []) hq hes nofun (hunsent e he) fun x hx => (hafter x hx).ne'
      refine ⟨s.sending g rest [] e es, ?_, sending_sameBut .., e, he, sending_slc hr, fun x hx => ?_, ?_⟩
      · rw [hlow hb, lowItems_no_poll (hpolls.trans hpoll),
          if_pos ⟨beq_iff_eq.2 hs, normalHead_of_takeable hq (hnormal hs g hhead) htake⟩, hset, Option.getD_some]
      · rcases List.mem_cons.1 (hes ▸ hx) with rfl | hx
        · exact le_rfl
        · exact (hafter x hx).le
      · rw [hes, hq]; rfl
    · obtain ⟨a, ha, n, heq⟩ := lastItems_ident (hidents ▸ hi)
      exact ⟨_, (hlast hb hpoll hh).trans (congrArg _ heq), by simp [State.sameBut, State.startIdent, State.startTxn, State.setMod], a,
        hidents ▸ ha, setMod_startTxn_slc (s := { s with choices := n }) hr ..⟩
    · obtain ⟨a, ha, n, heq⟩ := lastItems_refresh (hidents.trans hi) (hrefreshes ▸ hre)
      exact ⟨_, (hlast hb hpoll hh).trans (congrArg _ heq), by simp [State.sameBut, State.startRefresh, State.startTxn, State.setMod], a,
        hrefreshes ▸ ha, setMod_startTxn_slc (s := { s with choices := n }) hr ..⟩
    · rw [hlast hb hpoll hh, lastItems_none (hidents.trans hi) (hrefreshes.trans hre)]

end Sys2Proof.Machine
end

section
/-! The end of a transaction: its reply (R157, R191), the retry of one that is missing (R158), what a module that fails
leaves (R150, R169), and what the module table's readers derive from the outcome (R91, R92, R120, R185). -/

namespace Sys2Proof.Machine

variable {s t u : State} {a b : Addr}

/-! ### The bytes of a reply (R191) -/

theorem foldl_byteSum (bs : List Byte) (x : Byte) : bs.foldl (· + ·) x = x + byteSum bs := by
  unfold byteSum
  induction bs generalizing x with
  | nil => simp
  | cons b bs ih => rw [List.foldl_cons, List.foldl_cons, ih (x + b), ih (0#8 + b), BitVec.zero_add, BitVec.add_assoc]

theorem byteSum_withChecksum (bs : List Byte) : byteSum (withChecksum bs) = 0#8 := by
  have h : byteSum (withChecksum bs) = byteSum bs + -(byteSum bs) := by
    unfold withChecksum byteSum
    rw [List.foldl_append]
    rfl
  rw [h, BitVec.add_neg_eq_sub, BitVec.sub_self]

theorem echo_toNat (a : Addr) : (BitVec.ofNat 8 (a.val + 1)).toNat = a.val + 1 := by
  rw [BitVec.toNat_ofNat]
  exact Nat.mod_eq_of_lt (by omega)

section
variable {tx : Transaction}

theorem replyOf_bytes (status : Byte) (payload : List Byte) :
    replyOf tx (withChecksum (BitVec.ofNat 8 (tx.addr.val + 1) :: status :: payload)) =
      if status = 0x02#8 then (if payload = [] then some .refuse else none)
      else if status = 0x01#8 then acceptPayload tx.command payload
      else none := by
  unfold replyOf
  rw [if_neg (by simp [byteSum_withChecksum])]
  simp only [withChecksum, List.cons_append, List.dropLast_concat, echo_toNat]
  rw [if_neg (by simp)]

theorem replyOf_accept (payload : List Byte) :
    replyOf tx (withChecksum (BitVec.ofNat 8 (tx.addr.val + 1) :: 0x01#8 :: payload)) = acceptPayload tx.command payload := by
  rw [replyOf_bytes, if_neg (by decide), if_pos rfl]

theorem replyOf_refuse : replyOf tx (withChecksum [BitVec.ofNat 8 (tx.addr.val + 1), 0x02#8]) = some .refuse := by
  rw [replyOf_bytes, if_pos rfl, if_pos rfl]

end

/-! ### The end of a transaction (R157, R158) -/

/-- The state with no transaction on the line. -/
def State.txnOver (s : State) : State := { s with slc := { s.slc with transaction := none } }

theorem txnOver_mod (s : State) (a : Addr) : s.txnOver.mod a = s.mod a := rfl

theorem txnOver_slc (s : State) : s.txnOver.slc = { s.slc with transaction := none } := rfl

theorem txnOver_sameBut (s : State) : s.sameBut [.slc] s.txnOver := sameBut_slc ..

section
variable {tx : Transaction} {r : Reply} {bytes : List Byte}

theorem complete_reply {n : Nat} (ht : s.slc.transaction = some tx) (hn : tx.command.code = n)
    (hr : replyOf tx bytes = some r) : s.complete n bytes = (s.txnOver.outcome tx (some r)).afterTxn := by
  unfold State.complete
  rw [ht]
  dsimp only
  rw [if_pos hn, hr]
  unfold State.endTxn
  rw [if_neg (by simp)]
  rfl

theorem exec_identComplete (ht : s.slc.transaction = some tx) (hn : tx.command.code = 1) (hr : replyOf tx bytes = some r) :
    exec (.identComplete bytes) s = .next (s.txnOver.outcome tx (some r)).afterTxn :=
  congrArg Host.Outcome.next (complete_reply ht hn hr)

theorem exec_setComplete (ht : s.slc.transaction = some tx) (hn : tx.command.code = 2) (hr : replyOf tx bytes = some r) :
    exec (.setComplete bytes) s = .next (s.txnOver.outcome tx (some r)).afterTxn :=
  congrArg Host.Outcome.next (complete_reply ht hn hr)

theorem exec_proofComplete (ht : s.slc.transaction = some tx) (hn : tx.command.code = 3) (hr : replyOf tx bytes = some r) :
    exec (.proofComplete bytes) s = .next (s.txnOver.outcome tx (some r)).afterTxn :=
  congrArg Host.Outcome.next (complete_reply ht hn hr)

theorem exec_refreshComplete (ht : s.slc.transaction = some tx) (hn : tx.command.code = 4) (hr : replyOf tx bytes = some r) :
    exec (.refreshComplete bytes) s = .next (s.txnOver.outcome tx (some r)).afterTxn :=
  congrArg Host.Outcome.next (complete_reply ht hn hr)

theorem exec_blankComplete (ht : s.slc.transaction = some tx) (hn : tx.command.code = 5) (hr : replyOf tx bytes = some r) :
    exec (.blankComplete bytes) s = .next (s.txnOver.outcome tx (some r)).afterTxn :=
  congrArg Host.Outcome.next (complete_reply ht hn hr)

theorem exec_replyTimeout_retried (ht : s.slc.transaction = some tx) (hrep : tx.repeats = true) :
    exec .replyTimeout s = .next
      { s with slc := { s.slc with transaction := none, retry := some { tx with isRetry := true } } }.boundary := by
  refine congrArg Host.Outcome.next ?_
  rw [ht]
  exact if_pos ⟨rfl, hrep⟩

theorem exec_replyTimeout_ended (ht : s.slc.transaction = some tx) (hrep : tx.repeats = false) :
    exec .replyTimeout s = .next (s.txnOver.outcome tx none).afterTxn := by
  refine congrArg Host.Outcome.next ?_
  rw [ht]
  exact if_neg fun h => by rw [hrep] at h; cases h.2

end

/-! ### What follows an outcome -/

theorem afterTxn_reads (s : State) : s.sameBut [.stu, .msu, .spc, .clt, .asa] s.afterTxn := by
  unfold State.afterTxn
  split
  · exact ((boundary_sameBut s).mono (by simp)).trans (reviewProof_drive_sameBut _)
  · exact ((boundary_sameBut s).mono (by simp)).trans ((drive_sameBut _).mono (by simp))

theorem afterTxn_slc (s : State) : s.afterTxn.slc = s.slc := by
  unfold State.afterTxn
  split
  · rw [drive_slc, (reviewProof_same _).slc, boundary_slc]
  · rw [drive_slc, boundary_slc]

theorem afterTxn_mod (s : State) (a : Addr) : s.afterTxn.mod a = s.mod a := congrArg (·.modules.get a) (afterTxn_slc s)

theorem afterTxn_offBus (h : s.onBus = false) : s.sameBut [.stu, .asa] s.afterTxn := by
  unfold State.afterTxn
  rw [if_neg (by simp [h])]
  exact ((boundary_sameBut s).mono (by simp)).trans ((drive_sameBut_offBus (s := s.boundary) h).mono (by simp))

theorem afterTxn_stu (s : State) : s.afterTxn.stu.station = s.stu.station ∧ s.afterTxn.stu.straps = s.stu.straps := by
  unfold State.afterTxn
  split
  · rw [drive_station, drive_straps, (reviewProof_same _).stu]
    exact ⟨rfl, rfl⟩
  · rw [drive_station, drive_straps]
    exact ⟨rfl, rfl⟩

/-- What an outcome that changes no block but ASA and SLC leaves of the rest. -/
theorem outcome_reads {bs : List Block} (h : s.sameBut bs t) (hbs : bs ⊆ [.stu, .msu, .spc, .clt, .asa, .slc]) :
    s.sameBut [.stu, .msu, .spc, .clt, .asa, .slc] t.afterTxn :=
  (h.mono hbs).trans ((afterTxn_reads t).mono (by simp))

/-! ### A FAILED module keeps its order (R146, R147) -/

/-- The order of a module stands, and no entry has come into the queue for it. -/
structure OrderKept (a : Addr) (s t : State) : Prop where
  ordered : (t.display a).ordered = (s.display a).ordered
  entries : ∀ e ∈ queueEntries t.asa.queue, e.addr = a → e ∈ queueEntries s.asa.queue

theorem OrderKept.refl (s : State) : OrderKept a s s := ⟨rfl, fun _ h _ => h⟩

theorem OrderKept.trans (h : OrderKept a s t) (g : OrderKept a t u) : OrderKept a s u :=
  ⟨g.ordered.trans h.ordered, fun e he ha => h.entries e (g.entries e he ha) ha⟩

theorem OrderKept.of_asa (h : t.asa = s.asa) : OrderKept a s t :=
  ⟨congrArg (fun x => (x.modules.get a).ordered) h, fun _ he _ => h ▸ he⟩

theorem SameButRows.orderKept (h : SameButRows s t) : OrderKept a s t :=
  ⟨(congrArg Display.ordered (h.display a) :), fun _ he _ => h.queue ▸ he⟩

theorem placeGroup_orderKept {k : GroupKind} {es : List ChangeEntry} (hes : ∀ e ∈ es, e.addr ≠ a) :
    OrderKept a s (s.placeGroup k es) := by
  refine ⟨congrArg Display.ordered (congrFun (placeGroup_display s k es) a), fun e he ha => ?_⟩
  rcases placeGroup_entries s k es with h | h
  · exact (List.mem_append.1 (h.mem_iff.1 he)).resolve_left fun hin => hes e hin ha
  · exact h ▸ he

theorem placeEntries_orderKept {es : List ChangeEntry} (hes : ∀ e ∈ es, e.addr ≠ a) : OrderKept a s (s.placeEntries es) := by
  refine ⟨congrArg Display.ordered (placeEntries_display_other hes), fun e he ha => ?_⟩
  have hfirst : OrderKept a (s.withoutEntries es) ((s.withoutEntries es).placeGroup .urgent (es.filter s.isUrgent)) :=
    placeGroup_orderKept fun e he => hes e (List.mem_of_mem_filter he)
  have hsecond := hfirst.trans (placeGroup_orderKept (k := .normal) (es := es.filter fun e => !s.isUrgent e)
    fun e he => hes e (List.mem_of_mem_filter he))
  have hqueue : (s.placeEntries es).asa.queue = (((s.withoutEntries es).placeGroup .urgent (es.filter s.isUrgent)).placeGroup
      .normal (es.filter fun e => !s.isUrgent e)).asa.queue := orderEntries_queue ..
  exact (mem_queueEntries_removeUnsent (hsecond.entries e (hqueue ▸ he) ha)).1

theorem formEntries_orderKept (as : List Addr) (hf : (s.mod a).state = .failed) : OrderKept a s (s.formEntries as) := by
  refine ⟨congrArg Display.ordered (formEntries_failed hf), fun e he ha => ?_⟩
  rw [← orderAbsent_queue as s]
  refine (placeEntries_orderKept (s := s.orderAbsent as) (a := a) fun x hx hxa => ?_).entries e he ha
  obtain ⟨b, -, hb⟩ := List.mem_filterMap.1 hx
  obtain rfl : b = a := (changeEntry_addr hb).1.symm.trans hxa
  rw [changeEntry_none_of_state (.inr hf)] at hb
  cases hb

theorem settle_orderKept (hf : (s.mod a).state = .failed) : OrderKept a s s.settle := by
  have htable : OrderKept a s s.settleTable :=
    ⟨by rw [settleTable_display, settledDisplay_ordered], fun _ he _ => he⟩
  exact htable.trans (formEntries_orderKept (s := s.settleTable) _ hf)

theorem recompute_orderKept (hf : (s.mod a).state = .failed) : OrderKept a s s.recompute := by
  have hrows : OrderKept a s
      { s with spc := { s.spc.applyEvent s.stageValues.c2 with stages := some s.stageValues, isolatedDown := s.isolatedDownNow } } :=
    .of_asa rfl
  have hset := setRequests_rows
    { s with spc := { s.spc.applyEvent s.stageValues.c2 with stages := some s.stageValues, isolatedDown := s.isolatedDownNow } }
  refine (hrows.trans hset.orderKept).trans (settle_orderKept ?_)
  show (State.mod _ a).state = .failed
  unfold State.mod at hf ⊢
  rw [hset.same.slc]
  exact hf

theorem tableKept_rows (s : State) : TableKept fun t => OrderKept a s t where
  place _ _ h := h.trans (place_rows ..).orderKept
  keep _ h := h.trans (keepRequests_rows ..).orderKept
  put _ _ h := h.trans (.of_asa rfl)
  room _ h := h.trans (.of_asa rfl)
  drop _ h := h.trans (.of_asa rfl)
  refuse _ h := h.trans (.of_asa rfl)
  unrefuse _ h := h.trans (.of_asa rfl)
  dropOrphan _ h := h.trans (withdraw_rows ..).orderKept |>.trans (.of_asa rfl)

theorem closureEvent_orderKept {f : Work → Work} (hrun : WorkRun ⟨s, false⟩ (f ⟨s, false⟩)) (hf : (s.mod a).state = .failed) :
    OrderKept a s (s.closureEvent f) := by
  have hslc : (f ⟨s, false⟩).s.slc = s.slc := hrun.same.slc
  have hwork : ((f ⟨s, false⟩).s.mod a).state = .failed := by unfold State.mod; rw [hslc]; exact hf
  have hsettled : ((f ⟨s, false⟩).s.settle.mod a).state = .failed := by
    unfold State.mod; rw [(settle_same _).slc, hslc]; exact hf
  have hkept := ((tableKept_rows (a := a) s).workRun hrun (.refl s)).trans (settle_orderKept hwork)
  rcases closureEvent_cases s f with ⟨-, heq⟩ | ⟨-, heq⟩
  · rw [heq]; exact hkept.trans (recompute_orderKept hsettled)
  · rw [heq]; exact hkept

theorem reviewProof_orderKept (hf : (s.mod a).state = .failed) : OrderKept a s s.reviewProof :=
  closureEvent_orderKept (reflTransGen_foldl _ (fun w id => (Relation.ReflTransGen.single (.prove w id)).tail (.drain _ id)) _ _) hf

theorem boundary_orderKept (s : State) : OrderKept a s s.boundary :=
  ⟨rfl, fun e he _ => by
    obtain ⟨g, hg, heg⟩ := List.mem_flatMap.1 he
    exact List.mem_flatMap.2 ⟨g, List.mem_of_mem_filter hg, heg⟩⟩

theorem drive_orderKept (s : State) : OrderKept a s s.drive := .of_asa (drive_asa s)

theorem afterTxn_orderKept (hf : (s.mod a).state = .failed) : OrderKept a s s.afterTxn := by
  unfold State.afterTxn
  split
  · exact ((boundary_orderKept s).trans (reviewProof_orderKept (s := s.boundary) hf)).trans (drive_orderKept _)
  · exact (boundary_orderKept s).trans (drive_orderKept _)

theorem afterTxn_faultLit {l : Lane} (hs : s.stu.station ≠ .inReset) (hl : l ∈ s.lanesInUse)
    (hf : (s.mod (laneAddr l)).state = .failed) : s.afterTxn.stu.faultLit = true := by
  unfold State.afterTxn
  split
  · have hsame := reviewProof_same s.boundary
    rw [drive_faultLit]
    refine faultLevel_of_failed (l := l) (by rw [hsame.stu]; exact hs) ?_ ?_
    · unfold State.lanesInUse State.lanes at hl ⊢
      rw [hsame.stu]
      exact hl
    · unfold State.mod; rw [hsame.slc]; exact hf
  · rw [drive_faultLit]
    exact faultLevel_of_failed (s := s.boundary) hs hl hf

/-! ### A module that becomes FAILED (R150, R169) -/

section
variable {anew : Bool} (h : (s.mod a).state ≠ .failed ∨ anew = true)

theorem moduleFailedAsa_mod (s : State) (a b : Addr) :
    (s.moduleFailedAsa a).mod b = if b = a then { s.mod a with blankOwed := true } else s.mod b := Per8.get_set ..

theorem failModule_sameBut (s : State) (a : Addr) (anew : Bool) : s.sameBut [.asa, .slc] (s.failModule a anew) := by
  unfold State.failModule
  split <;> simp [State.sameBut, State.moduleFailedAsa, State.setMod, State.setDisplay]

theorem failModule_stu (s : State) (a : Addr) (anew : Bool) : (s.failModule a anew).stu = s.stu := by
  unfold State.failModule
  split <;> rfl

theorem failModule_slc (s : State) (a : Addr) (anew : Bool) :
    (s.failModule a anew).slc = { s.slc with modules := (s.failModule a anew).slc.modules } := by
  unfold State.failModule
  split <;> rfl

theorem failModule_mod_other (hb : b ≠ a) : (s.failModule a anew).mod b = s.mod b := by
  unfold State.failModule
  split
  · rfl
  · rw [moduleFailedAsa_mod, if_neg hb, mod_setMod, if_neg hb]

include h

theorem failModule_eq : s.failModule a anew = (s.setMod a (s.mod a).fail).moduleFailedAsa a :=
  if_neg fun ⟨hf, hn⟩ => by
    rcases h with h | h
    · exact h hf
    · rw [h] at hn; cases hn

theorem failModule_mod : (s.failModule a anew).mod a = { (s.mod a).fail with blankOwed := true } := by
  rw [failModule_eq h, moduleFailedAsa_mod, if_pos rfl, mod_setMod_same]

theorem failModule_ordered : ((s.failModule a anew).display a).ordered = darkAspect a := by
  rw [failModule_eq h]
  have hget : ((s.setMod a (s.mod a).fail).moduleFailedAsa a).display a =
    { ((s.setMod a (s.mod a).fail).display a) with ordered := darkAspect a } := (Per8.get_set ..).trans (if_pos rfl)
  rw [hget]

theorem failModule_entries : ∀ e ∈ queueEntries (s.failModule a anew).asa.queue, e.addr = a → e.sent = true := by
  rw [failModule_eq h]
  rintro e he rfl
  exact (mem_queueEntries_removeUnsent (as := [e.addr]) he).2.resolve_right fun hn => hn (List.mem_singleton.2 rfl)

end

/-- What a module that fails at the end of a transaction leaves behind. -/
theorem failModule_after {anew : Bool} (h : (s.mod a).state ≠ .failed ∨ anew = true) :
    ((s.failModule a anew).afterTxn.mod a = { (s.mod a).fail with blankOwed := true }) ∧
      (∀ b, b ≠ a → (s.failModule a anew).afterTxn.mod b = s.mod b) ∧
      ((s.failModule a anew).afterTxn.display a).ordered = darkAspect a ∧
      ∀ g ∈ (s.failModule a anew).afterTxn.asa.queue, ∀ e ∈ g.entries, e.addr = a → e.sent = true := by
  have hmod := failModule_mod h
  have hkept := afterTxn_orderKept (s := s.failModule a anew) (a := a) (by rw [hmod]; rfl)
  refine ⟨(afterTxn_mod ..).trans hmod, fun b hb => (afterTxn_mod ..).trans (failModule_mod_other hb),
    hkept.ordered.trans (failModule_ordered h), fun g hg e he ha => ?_⟩
  exact failModule_entries h e (hkept.entries e (List.mem_flatMap.2 ⟨g, hg, he⟩) ha) ha

/-- What a module's new entry leaves behind at the end of a transaction. -/
theorem setMod_after (s : State) (a : Addr) (m : Module) :
    s.sameBut [.stu, .msu, .spc, .clt, .asa, .slc] (s.txnOver.setMod a m).afterTxn ∧
      (s.txnOver.setMod a m).afterTxn.slc = { s.slc with modules := s.slc.modules.set a m, transaction := none } ∧
      (s.txnOver.setMod a m).afterTxn.mod a = m ∧ ∀ b, b ≠ a → (s.txnOver.setMod a m).afterTxn.mod b = s.mod b := by
  refine ⟨outcome_reads (bs := [.slc]) (by simp [State.sameBut, State.setMod, State.txnOver]) (by simp), afterTxn_slc _,
    ?_, fun b hb => ?_⟩
  · rw [afterTxn_mod, mod_setMod_same]
  · rw [afterTxn_mod, mod_setMod, if_neg hb, txnOver_mod]

/-- The transaction that fails a module is over. -/
theorem failModule_frame (s : State) (a : Addr) (anew : Bool) :
    s.sameBut [.stu, .msu, .spc, .clt, .asa, .slc] (s.txnOver.failModule a anew).afterTxn ∧
      (s.txnOver.failModule a anew).afterTxn.slc.transaction = none := by
  refine ⟨outcome_reads (((txnOver_sameBut s).mono (by simp)).trans (failModule_sameBut s.txnOver a anew)) (by simp), ?_⟩
  rw [afterTxn_slc, failModule_slc]
  rfl

/-! ### Discovery goes on (R160, R161) -/

section
variable {d : Discovery} {rest : List Addr}

theorem discoveryHead_acting (hd : s.slc.discovery = some d) (hi : d.identing = []) (ha : d.acting = a :: rest) :
    s.discoveryHead = some a := by
  unfold State.discoveryHead
  rw [hd, Option.bind_some, hi, ha]
  rfl

theorem discoveryHead_identing (hd : s.slc.discovery = some d) (hi : d.identing = a :: rest) : s.discoveryHead = some a := by
  unfold State.discoveryHead
  rw [hd, Option.bind_some, hi]

/-- The end of a transaction in DISCOVER that leaves a module's entry and discovery's place. -/
theorem discovery_after (hs : s.stu.station = .discover) (a : Addr) (m : Module) (x : Option Discovery) :
    let u := { s.txnOver.setMod a m with slc := { (s.txnOver.setMod a m).slc with discovery := x } }.afterTxn
    s.sameBut [.stu, .asa, .slc] u ∧ u.stu.station = .discover ∧ u.mod a = m ∧ (∀ b, b ≠ a → u.mod b = s.mod b) ∧
      u.slc = { s.slc with modules := s.slc.modules.set a m, transaction := none, discovery := x } := by
  have hoff : State.onBus { s.txnOver.setMod a m with slc := { (s.txnOver.setMod a m).slc with discovery := x } } = false := by
    show State.onBus s = false
    unfold State.onBus; rw [hs]; rfl
  have hsame : s.sameBut [.slc] { s.txnOver.setMod a m with slc := { (s.txnOver.setMod a m).slc with discovery := x } } := by
    simp [State.sameBut, State.setMod, State.txnOver]
  refine ⟨(hsame.mono (by simp)).trans ((afterTxn_offBus hoff).mono (by simp)), (afterTxn_stu _).1.trans hs, ?_, fun b hb => ?_,
    afterTxn_slc _⟩
  · exact (afterTxn_mod ..).trans (mod_setMod_same ..)
  · refine (afterTxn_mod ..).trans ((mod_setMod (s := s.txnOver) ..).trans ?_)
    exact if_neg hb

end

end Sys2Proof.Machine
end

section
/-! O44, O45 and O47: missing replies, and the outcomes of SET, REFRESH and BLANK (R157, R158, R161, R162, R167, R169). -/

namespace Sys2Proof.Machine

variable {s u : State} {a : Addr} {tx : Transaction} {r : Option Reply}

/-! ### O44 -/

theorem outcome_refresh (h : tx.purpose = .refresh) : s.outcome tx r = s.refreshOutcome tx.addr r := by
  unfold State.outcome; rw [h]

theorem outcome_poll {i : Nat} (h : tx.purpose = .poll i) : s.outcome tx r = s.pollOutcome tx.addr i r := by
  unfold State.outcome; rw [h]

/-- R164, R167: the reply of a REFRESH, or of a CHANGING module's poll, that is missing twice fails the module. -/
theorem outcome_missing (h : (tx.purpose = .refresh ∧ (s.mod tx.addr).state ≠ .failed) ∨
    ((∃ i, tx.purpose = .poll i) ∧ (s.mod tx.addr).state = .changing)) :
    s.outcome tx none = s.failModule tx.addr false ∧ (s.mod tx.addr).state ≠ .failed := by
  rcases h with ⟨hp, hf⟩ | ⟨⟨i, hp⟩, hc⟩
  · exact ⟨outcome_refresh hp, hf⟩
  · exact ⟨(outcome_poll hp).trans (if_pos hc), by rw [hc]; decide⟩

/-- Settles O44. -/
theorem missingReplyRetriedThenFails : Obligations.MissingReplyRetriedThenFails := by
  refine fun s t ht => ⟨fun hfirst hblank => ?_, fun hretry hcase => ?_⟩
  · have hrep : t.repeats = true := by
      unfold Transaction.repeats
      rw [hfirst]
      simpa using hblank
    exact ⟨_, exec_replyTimeout_retried ht hrep, by simp [State.sameBut, State.boundary], rfl, fun _ => rfl⟩
  · have hrep : t.repeats = false := by unfold Transaction.repeats; rw [hretry]; rfl
    obtain ⟨hout, hnf⟩ := outcome_missing (s := s.txnOver) hcase
    obtain ⟨hmod, hother, hordered, hsent⟩ := failModule_after (s := s.txnOver) (anew := false) (.inl hnf)
    obtain ⟨hframe, htxn⟩ := failModule_frame s t.addr false
    have hstu := failModule_stu s.txnOver t.addr false
    refine ⟨_, by rw [exec_replyTimeout_ended ht hrep, hout], hframe, hmod, hother, htxn, hordered, hsent,
      fun l hl hla hrun => afterTxn_faultLit (l := l) ?_ ?_ ?_⟩
    · rw [hstu]
      rcases running_cases hrun with h | h | h <;> exact ne_of_eq_of_ne h (by decide)
    · unfold State.lanesInUse State.lanes at hl ⊢
      rw [hstu]
      exact hl
    · rw [hla, failModule_mod (.inl hnf)]; rfl

/-! ### O45 -/

/-- Settles O45. -/
theorem setCompletes : Obligations.SetCompletes := by
  intro s a x tag lim r ht
  refine ⟨?_, ?_, fun hr => ?_⟩
  · obtain ⟨hframe, hslc, hmod, hother⟩ := setMod_after s a ((s.mod a).recordSet x tag lim).startChange
    exact ⟨_, exec_setComplete ht rfl (replyOf_accept []), hframe, (congrArg Slc.transaction hslc :), hother, hmod⟩
  · obtain ⟨hframe, htxn⟩ := failModule_frame s a true
    obtain ⟨hmod, hother, hordered, -⟩ := failModule_after (s := s.txnOver) (a := a) (anew := true) (.inr rfl)
    refine ⟨_, exec_setComplete ht rfl replyOf_refuse, hframe, htxn, hother, ?_, ?_, ?_, ?_, hordered⟩ <;>
      exact (congrArg _ hmod).trans rfl
  · have hrep : Transaction.repeats ⟨a, .set x tag, .groupSet lim, r⟩ = false := by rw [hr]; rfl
    have hrecord : s.sameBut [.slc] (s.txnOver.setMod a ((s.mod a).recordSet x tag lim)) := by
      simp [State.sameBut, State.setMod, State.txnOver]
    obtain ⟨hmod, -, -, -⟩ := failModule_after (s := s.txnOver.setMod a ((s.mod a).recordSet x tag lim)) (a := a) (anew := true)
      (.inr rfl)
    rw [mod_setMod_same] at hmod
    refine ⟨_, exec_replyTimeout_ended ht hrep,
      outcome_reads ((hrecord.mono (by simp)).trans (failModule_sameBut _ a true)) (by simp), ?_, ?_, ?_, ?_, ?_⟩ <;>
      exact (congrArg _ hmod).trans rfl

/-! ### O47 -/

/-- R169: a failure blank is done with, whatever came back. -/
theorem exec_failureBlank {isRetry : Bool} (bytes : List Byte)
    (ht : s.slc.transaction = some ⟨a, .blank, .failureBlank, isRetry⟩) :
    exec (.blankComplete bytes) s = .next (s.txnOver.blankOutcome a).afterTxn := by
  have hrep : Transaction.repeats ⟨a, .blank, .failureBlank, isRetry⟩ = false := Bool.and_false _
  refine congrArg Host.Outcome.next ?_
  unfold State.complete
  rw [ht]
  dsimp only
  rw [if_pos (show LinkCommand.blank.code = 5 from rfl), State.endTxn, if_neg fun h => by rw [hrep] at h; cases h.2]
  rfl

/-- R161: the BLANK of discovery, answered in a way that leaves the module with an entry. -/
theorem exec_discoveryBlank {isRetry : Bool} {bytes : List Byte} {reply : Reply} {d : Discovery} {b : Addr} {rest : List Addr}
    {m : Module} (ht : s.slc.transaction = some ⟨a, .blank, .discovery, isRetry⟩) (hs : s.stu.station = .discover)
    (hd : s.slc.discovery = some d) (hi : d.identing = []) (hact : d.acting = a :: b :: rest)
    (hr : replyOf ⟨a, .blank, .discovery, isRetry⟩ bytes = some reply)
    (hm : s.discoveryHead = some a →
      s.txnOver.discoveryOutcome ⟨a, .blank, .discovery, isRetry⟩ (some reply) = s.txnOver.dealtWith a m) :
    ∃ u, exec (.blankComplete bytes) s = .next u ∧ s.sameBut [.stu, .asa, .slc] u ∧ u.stu.station = .discover ∧
      u.mod a = m ∧ (∀ c, c ≠ a → u.mod c = s.mod c) ∧
      u.slc.discovery = some { d with acting := b :: rest, firstReply := none, lastReply := none, proofDue := true } := by
  have hout : s.txnOver.outcome ⟨a, .blank, .discovery, isRetry⟩ (some reply) = _ :=
    (hm (discoveryHead_acting hd hi hact)).trans (dealtWith_more (s := s.txnOver) m hd hact)
  obtain ⟨hframe, hstation, hmod, hother, hslc⟩ := discovery_after hs a m
    (some { d with acting := b :: rest, firstReply := none, lastReply := none, proofDue := true })
  exact ⟨_, (exec_blankComplete ht rfl hr).trans (congrArg (fun x => Host.Outcome.next x.afterTxn) hout), hframe, hstation,
    hmod, hother, (congrArg Slc.discovery hslc :)⟩

/-- Settles O47. -/
theorem refreshAndBlankComplete : Obligations.RefreshAndBlankComplete := by
  intro s a r bytes
  refine ⟨fun ht => ⟨?_, fun hnf => ?_⟩, fun ht => ?_, fun d b rest ht hs hd hi hact => ?_⟩
  · exact ⟨_, exec_refreshComplete ht rfl (replyOf_accept []),
      outcome_reads (txnOver_sameBut s) (by simp), afterTxn_slc _⟩
  · obtain ⟨hframe, -⟩ := failModule_frame s a false
    obtain ⟨hmod, hother, -, -⟩ := failModule_after (s := s.txnOver) (a := a) (anew := false) (.inl hnf)
    refine ⟨_, exec_refreshComplete ht rfl replyOf_refuse, hframe, ?_, ?_, hother⟩ <;>
      exact (congrArg _ hmod).trans rfl
  · obtain ⟨hframe, hslc, hmod, hother⟩ := setMod_after s a
      { s.mod a with blankOwed := false, sent := some (darkAspect a), sentTag := none, limited := false }
    exact ⟨_, exec_failureBlank bytes ht, hframe, (congrArg Slc.transaction hslc :), hother, hmod⟩
  · refine ⟨exec_discoveryBlank ht hs hd hi hact (replyOf_accept []) fun hhead => if_pos hhead, ?_⟩
    obtain ⟨u, hexec, hframe, -, hmod, -, hdisc⟩ := exec_discoveryBlank (m := (s.mod a).failDiscovery) ht hs hd hi hact
      replyOf_refuse fun hhead => if_pos hhead
    exact ⟨u, hexec, hframe, by rw [hmod]; rfl, by rw [hmod]; rfl, by rw [hmod]; rfl, hdisc⟩

end Sys2Proof.Machine
end

section
/-! O48: what an IDENT reply leaves in the module table (R160, R170, R191). -/

namespace Sys2Proof.Machine

variable {s u : State} {a b : Addr} {rest : List Addr} {d : Discovery}

/-- R160: discovery goes on with the next address. -/
theorem identified_more (m : Module) (hd : s.slc.discovery = some d) (hi : d.identing = a :: b :: rest) :
    s.identified a m =
      { s.setMod a m with slc := { (s.setMod a m).slc with discovery := some ⟨b :: rest, [], none, none, true⟩ } } := by
  unfold State.identified
  dsimp only
  rw [setMod_discovery, hd]
  dsimp only
  rw [hi, List.drop_succ_cons, List.drop_zero, if_neg (by simp), if_neg (by simp)]

theorem replyOf_ident {tx : Transaction} (hc : tx.command = .ident) (k rh rl bu re : Byte) :
    replyOf tx (withChecksum [BitVec.ofNat 8 (tx.addr.val + 1), 0x01#8, k, rh, rl, bu, re]) =
      some (.ident ⟨k, BitVec.ofNat 16 (word16 rh rl), bu.toNat, re.toNat⟩) := by
  rw [replyOf_accept, hc]
  rfl

section
variable {k : Byte} {r : IdentReply} (hk : r.kind = k)
include hk

theorem kindFits_true (h : moduleKindOf k = some (kindRequired a)) : r.kindFits a = true := by
  unfold IdentReply.kindFits; rw [hk]; exact beq_iff_eq.2 h

theorem kindFits_false (h : moduleKindOf k ≠ some (kindRequired a)) : r.kindFits a = false := by
  unfold IdentReply.kindFits; rw [hk]; exact beq_eq_false_iff_ne.2 h

end

/-- R185: a lane module that discovery has not found lights FAULT. -/
theorem faultLevel_of_notFound {l : Lane} (hs : s.stu.station ≠ .inReset) (hl : l ∈ s.lanesInUse)
    (hstate : (s.mod (laneAddr l)).state = .absent) (hfound : (s.mod (laneAddr l)).discovered = .notFound) :
    s.faultLevel = true := by
  have habsent : s.faultAbsent = true := List.any_eq_true.2 ⟨l, hl, by rw [hstate, hfound]; rfl⟩
  simp [State.faultLevel, hs, habsent]

theorem afterTxn_faultLit_offBus (h : s.onBus = false) : s.afterTxn.stu.faultLit = s.faultLevel := by
  unfold State.afterTxn
  rw [h]
  rfl

/-- R160: the IDENT of discovery, answered in a way that leaves the module with an entry. -/
theorem exec_discoveryIdent {isRetry : Bool} {bytes : List Byte} {i : IdentReply} {m : Module}
    (ht : s.slc.transaction = some ⟨a, .ident, .discovery, isRetry⟩) (hs : s.stu.station = .discover)
    (hd : s.slc.discovery = some d) (hi : d.identing = a :: b :: rest)
    (hr : replyOf ⟨a, .ident, .discovery, isRetry⟩ bytes = some (.ident i))
    (hm : (if i.kindFits a then (s.mod a).found (kindRequired a) i else (s.mod a).notFound (some i.kind)) = m) :
    ∃ u, exec (.identComplete bytes) s = .next u ∧ s.sameBut [.stu, .asa, .slc] u ∧ u.mod a = m ∧
      (∀ c, c ≠ a → u.mod c = s.mod c) ∧ u.slc.discovery = some ⟨b :: rest, [], none, none, true⟩ ∧
      ∀ l ∈ s.lanesInUse, laneAddr l = a → m.state = .absent → m.discovered = .notFound → u.stu.faultLit = true := by
  have hhead : s.txnOver.discoveryHead = some a := discoveryHead_identing (s := s.txnOver) hd hi
  have hmore := identified_more (s := s.txnOver) (a := a) m hd hi
  have hout : s.txnOver.outcome ⟨a, .ident, .discovery, isRetry⟩ (some (.ident i)) = s.txnOver.identified a m := by
    refine (if_pos hhead).trans ?_
    rw [← hm]
    dsimp only [txnOver_mod]
    split <;> rfl
  obtain ⟨hframe, -, hmod, hother, hslc⟩ := discovery_after hs a m (some ⟨b :: rest, [], none, none, true⟩)
  refine ⟨_, (exec_identComplete ht rfl hr).trans (congrArg (fun x => Host.Outcome.next x.afterTxn) (hout.trans hmore)), hframe,
    hmod, hother, (congrArg Slc.discovery hslc :), fun l hl hla hstate hfound => ?_⟩
  have hset : ∀ x, State.mod { s.txnOver.setMod a m with slc := { (s.txnOver.setMod a m).slc with discovery := x } } (laneAddr l) =
      m := fun x => hla ▸ mod_setMod_same ..
  rw [afterTxn_faultLit_offBus (by unfold State.onBus; exact (congrArg (fun x => x == .join || x == .run) hs).trans rfl)]
  exact faultLevel_of_notFound (l := l) (ne_of_eq_of_ne hs (by decide)) hl (by rw [hset, hstate]) (by rw [hset, hfound])

/-- R170: the module that answers with the required kind. -/
theorem answered_after (s : State) (a : Addr) (m : Module) :
    s.sameBut [.stu, .msu, .spc, .clt, .asa, .slc] ((s.txnOver.setMod a m).moduleAnsweredAsa a).afterTxn ∧
      ((s.txnOver.setMod a m).moduleAnsweredAsa a).afterTxn.mod a = m ∧
      ∀ b, b ≠ a → ((s.txnOver.setMod a m).moduleAnsweredAsa a).afterTxn.mod b = s.mod b := by
  have hsame := moduleAnsweredAsa_same (s := s.txnOver.setMod a m) a
  have hmod : ∀ b, ((s.txnOver.setMod a m).moduleAnsweredAsa a).afterTxn.mod b = (s.txnOver.setMod a m).mod b := fun b =>
    (afterTxn_mod ..).trans (congrArg (·.modules.get b) hsame.slc)
  have hset : s.sameBut [.slc] (s.txnOver.setMod a m) := by simp [State.sameBut, State.setMod, State.txnOver]
  refine ⟨outcome_reads ((hset.mono (by simp)).trans (hsame.sameBut.mono (by simp))) (bs := [.slc, .msu, .asa]) (by simp), ?_,
    fun b hb => ?_⟩
  · rw [hmod, mod_setMod_same]
  · rw [hmod, mod_setMod, if_neg hb, txnOver_mod]

/-- R160: the times of a capability are brought into their ranges. -/
theorem blankUnitsInForm_eq (n : Nat) : blankUnitsInForm n = max 1 (min n 50) := by
  unfold blankUnitsInForm; split <;> omega

theorem rampExponentInForm_eq (n : Nat) : rampExponentInForm n = max 4 (min n 10) := by
  unfold rampExponentInForm; split <;> omega

/-- Settles O48. -/
theorem identReplyRecorded : Obligations.IdentReplyRecorded := by
  intro s a r k k2 rh rl bu re hk hk2 reply capability
  have hcapable : ∀ m : Module, m.capable (kindRequired a) ⟨k, BitVec.ofNat 16 (word16 rh rl), bu.toNat, re.toNat⟩ =
      capability m := fun m => by
    unfold Module.capable
    rw [blankUnitsInForm_eq, rampExponentInForm_eq]
    rfl
  refine ⟨fun d b rest ht hs hd hi => ⟨?_, ?_⟩, fun ht => ⟨?_, ?_⟩⟩
  · obtain ⟨u, hexec, hframe, hmod, hother, hdisc, -⟩ := exec_discoveryIdent ht hs hd hi (replyOf_ident rfl k rh rl bu re)
      (if_pos (kindFits_true rfl hk))
    exact ⟨u, hexec, hframe, by rw [hmod, ← hcapable]; rfl, hother, hdisc⟩
  · obtain ⟨u, hexec, hframe, hmod, -, hdisc, hfault⟩ := exec_discoveryIdent ht hs hd hi (replyOf_ident rfl k2 rh rl bu re)
      (if_neg (by rw [kindFits_false rfl hk2]; decide))
    exact ⟨u, hexec, hframe, hmod, hdisc, fun l hl hla hstate => hfault l hl hla hstate rfl⟩
  · obtain ⟨hframe, hmod, hother⟩ := answered_after s a { capability (s.mod a) with answered := true, identTimer := none }
    refine ⟨_, (exec_identComplete ht rfl (replyOf_ident rfl k rh rl bu re)).trans ?_, hframe, hmod, hother⟩
    rw [← hcapable]
    exact congrArg (fun x : State => Host.Outcome.next x.afterTxn) (if_pos (kindFits_true rfl hk))
  · obtain ⟨hframe, -, hmod, hother⟩ := setMod_after s a { s.mod a with identTimer := some 60000, wrongKind := some k2 }
    refine ⟨_, (exec_identComplete ht rfl (replyOf_ident rfl k2 rh rl bu re)).trans ?_, hframe, hmod, hother⟩
    exact congrArg (fun x : State => Host.Outcome.next x.afterTxn)
      (if_neg (Bool.eq_false_iff.1 (kindFits_false rfl hk2)))

end Sys2Proof.Machine
end

section
/-! What the reply to a PROOF makes of its module, in a poll and in a proof round (R164, R173, R191). -/

namespace Sys2Proof.Machine

variable {s t u : State} {a b : Addr} {m : Module} {p : ProofReply} {x : Aspect} {tag : Tag} {h : Byte}

/-! ### The payload of a PROOF reply -/

/-- R191: the health that a reply which is not FAIL reports. -/
def goodHealth (h : Byte) : Health := if h = 0x00#8 then .ok else .degraded

theorem healthOf_good (hh : h = 0x00#8 ∨ h = 0x01#8) : healthOf h = some (goodHealth h) := by
  rcases hh with rfl | rfl <;> rfl

theorem goodHealth_ne_fail (h : Byte) : goodHealth h ≠ .fail := by
  unfold goodHealth; split <;> decide

theorem replyOf_proof {tx : Transaction} (hc : tx.command = .proof) (lit : Aspect) {st health tag : Byte} {tr : Bool} {hl : Health}
    (hst : transitionOf st = some tr) (hhealth : healthOf health = some hl) :
    replyOf tx (withChecksum [BitVec.ofNat 8 (tx.addr.val + 1), 0x01#8, BitVec.ofNat 8 lit.code, st, health, tag]) =
      some (.proof ⟨lit, tr, hl, tag⟩) := by
  have hcode : aspectOfCode (BitVec.ofNat 8 lit.code).toNat = some lit := by cases lit <;> rfl
  rw [replyOf_accept, hc]
  show proofPayload .. = _
  unfold proofPayload
  rw [hcode, hst, hhealth]

/-! ### A module that is proven (R164, R170) -/

theorem proveModule_asa (s : State) (a : Addr) (p : ProofReply) :
    SameButAsa (s.setMod a ((s.mod a).steady p)) (s.proveModule a p) := by
  unfold State.proveModule
  dsimp only
  split
  · exact moduleRecoveredAsa_same _ a
  · exact .refl _

theorem proveModule_idle (ha : (s.mod a).answered = false) : s.proveModule a p = s.setMod a ((s.mod a).steady p) :=
  if_neg (by rw [ha]; decide)

theorem setMod_setMod (s : State) (a : Addr) (m n : Module) : (s.setMod a m).setMod a n = s.setMod a n :=
  congrArg (fun x => { s with slc := { s.slc with modules := x } }) (set_set ..)

/-! ### The outcomes of a poll (R164) -/

section
variable {i : Nat} (hc : (s.mod a).state = .changing)
include hc

theorem pollOutcome_fails (hfail : p.health = .fail ∨ (p.transition = true ∧ 5 ≤ i) ∨
      (p.transition = false ∧ ¬ ((s.mod a).sent = some p.lit ∧ (s.mod a).sentTag = some p.tag))) :
    s.pollOutcome a i (some (.proof p)) = s.failModule a false := by
  unfold State.pollOutcome
  dsimp only
  rw [if_pos hc]
  by_cases hh : p.health = .fail
  · exact if_pos hh
  · rw [if_neg hh]
    rcases hfail.resolve_left hh with ⟨ht, hi⟩ | ⟨ht, hne⟩
    · rw [if_pos ht, if_neg (by omega)]
    · rw [if_neg (by rw [ht]; decide), if_neg hne]

theorem pollOutcome_proven (hh : p.health ≠ .fail) (ht : p.transition = false) (hsent : (s.mod a).sent = some p.lit)
    (htag : (s.mod a).sentTag = some p.tag) : s.pollOutcome a i (some (.proof p)) = s.proveModule a p := by
  unfold State.pollOutcome
  dsimp only
  rw [if_pos hc, if_neg hh, if_neg (by rw [ht]; decide), if_pos ⟨hsent, htag⟩]

theorem pollOutcome_waits (hh : p.health ≠ .fail) (ht : p.transition = true) (hi : i < 5) :
    s.pollOutcome a i (some (.proof p)) =
      s.setMod a { s.mod a with nextPoll := some (max ((s.mod a).nextPoll.getD 0) (i + 1)) } := by
  unfold State.pollOutcome
  dsimp only
  rw [if_pos hc, if_neg hh, if_pos ht, if_pos hi]

end

/-- What the end of a transaction leaves after an outcome that gives a module an entry. -/
theorem entry_after (hsame : SameButAsa (s.txnOver.setMod a m) t) :
    s.sameBut [.stu, .msu, .spc, .clt, .asa, .slc] t.afterTxn ∧
      t.afterTxn.slc = { s.slc with modules := s.slc.modules.set a m, transaction := none } ∧
      t.afterTxn.mod a = m ∧ ∀ b, b ≠ a → t.afterTxn.mod b = s.mod b := by
  have hset : s.sameBut [.slc] (s.txnOver.setMod a m) := by simp [State.sameBut, State.setMod, State.txnOver]
  have hslc : t.afterTxn.slc = (s.txnOver.setMod a m).slc := (afterTxn_slc t).trans hsame.slc
  have hmod : ∀ b, t.afterTxn.mod b = (s.txnOver.setMod a m).mod b := fun b => congrArg (·.modules.get b) hslc
  refine ⟨outcome_reads ((hset.mono (by simp)).trans (hsame.sameBut.mono (by simp))) (bs := [.slc, .msu, .asa]) (by simp), hslc, ?_,
    fun b hb => ?_⟩
  · rw [hmod, mod_setMod_same]
  · rw [hmod, mod_setMod, if_neg hb, txnOver_mod]

/-- A transaction whose outcome is known has ended. -/
theorem exec_outcome {c : Instr} (h : exec c s = .next t.afterTxn) (hout : t = u) : exec c s = .next u.afterTxn := hout ▸ h

/-- A poll's transaction has ended with a reply. -/
theorem exec_poll {i : Nat} {isRetry : Bool} {st health : Byte} {tr : Bool} {hl : Health}
    (ht : s.slc.transaction = some ⟨a, .proof, .poll i, isRetry⟩) (hst : transitionOf st = some tr)
    (hhealth : healthOf health = some hl) :
    exec (.proofComplete (withChecksum [BitVec.ofNat 8 (a.val + 1), 0x01#8, BitVec.ofNat 8 x.code, st, health, tag])) s =
      .next (s.txnOver.pollOutcome a i (some (.proof ⟨x, tr, hl, tag⟩))).afterTxn :=
  exec_proofComplete ht rfl (replyOf_proof rfl x hst hhealth)

/-- The poll whose reply fails its module. -/
theorem poll_fails {i : Nat} (hc : (s.mod a).state = .changing) (hfail : p.health = .fail ∨ (p.transition = true ∧ 5 ≤ i) ∨
      (p.transition = false ∧ ¬ ((s.mod a).sent = some p.lit ∧ (s.mod a).sentTag = some p.tag))) :
    s.sameBut [.stu, .msu, .spc, .clt, .asa, .slc] (s.txnOver.pollOutcome a i (some (.proof p))).afterTxn ∧
      (s.txnOver.pollOutcome a i (some (.proof p))).afterTxn.mod a = { (s.mod a).fail with blankOwed := true } := by
  rw [pollOutcome_fails (s := s.txnOver) hc hfail]
  exact ⟨(failModule_frame s a false).1,
    (failModule_after (s := s.txnOver) (.inl (ne_of_eq_of_ne (show (s.txnOver.mod a).state = .changing from hc) (by decide)))).1⟩

/-! ### The outcomes of a PROOF of a proof round (R173) -/

section
variable {rest : List Addr}

theorem nextOfRound_mod (s : State) (b : Addr) : s.nextOfRound.mod b = s.mod b := by
  unfold State.nextOfRound
  split
  · rfl
  · split
    · exact congrArg (·.modules.get b) (resync_same _).slc
    · rfl

theorem nextOfRound_more (hr : s.slc.round = some (a :: rest)) (hrest : rest ≠ []) :
    s.nextOfRound = { s with slc := { s.slc with round := some rest } } := by
  unfold State.nextOfRound
  rw [hr]
  exact if_neg hrest

theorem nextOfRound_last (hr : s.slc.round = some [a]) :
    s.nextOfRound = State.resync { s with slc := { s.slc with round := none } } := by
  unfold State.nextOfRound
  rw [hr]
  exact if_pos rfl

theorem nextOfRound_frame (hr : s.slc.round = some (a :: rest)) :
    s.sameBut [.msu, .asa, .slc] s.nextOfRound ∧
      s.nextOfRound.slc = { s.slc with round := if rest = [] then none else some rest } := by
  by_cases hrest : rest = []
  · subst hrest
    rw [nextOfRound_last hr, if_pos rfl]
    have hsame := resync_same { s with slc := { s.slc with round := none } }
    exact ⟨((sameBut_slc s _).mono (by simp)).trans (hsame.sameBut.mono (by simp)), hsame.slc⟩
  · rw [nextOfRound_more hr hrest, if_neg hrest]
    exact ⟨(sameBut_slc s _).mono (by simp), rfl⟩

/-- What the end of a transaction of a proof round leaves. -/
theorem round_after (hround : s.slc.round = some (a :: rest)) (hsame : s.sameBut [.msu, .asa, .slc] t)
    (hslc : t.slc = { s.slc with modules := t.slc.modules, transaction := none }) :
    s.sameBut [.stu, .msu, .spc, .clt, .asa, .slc] t.nextOfRound.afterTxn ∧ t.nextOfRound.afterTxn.slc.transaction = none ∧
      t.nextOfRound.afterTxn.slc.round = (if rest = [] then none else some rest) ∧
      ∀ b, t.nextOfRound.afterTxn.mod b = t.mod b := by
  obtain ⟨hframe, hnext⟩ := nextOfRound_frame (s := t) (a := a) (rest := rest) (by rw [hslc]; exact hround)
  have hafter := (afterTxn_slc t.nextOfRound).trans hnext
  refine ⟨outcome_reads (hsame.trans hframe) (by simp), ?_, ?_, fun b => (afterTxn_mod ..).trans (nextOfRound_mod t b)⟩
  · rw [hafter, hslc]
  · rw [hafter]

theorem roundOutcome_failed (hf : (s.mod a).state = .failed) (r : Option Reply) : s.roundOutcome a r = s.nextOfRound :=
  congrArg State.nextOfRound (if_pos hf)

theorem roundOutcome_reply (hf : (s.mod a).state ≠ .failed) (p : ProofReply) :
    s.roundOutcome a (some (.proof p)) = (s.roundReply a p).nextOfRound := congrArg State.nextOfRound (if_neg hf)

theorem roundOutcome_refuse (hf : (s.mod a).state ≠ .failed) :
    s.roundOutcome a (some .refuse) = (s.failModule a false).nextOfRound := congrArg State.nextOfRound (if_neg hf)

theorem roundOutcome_missing (hf : (s.mod a).state ≠ .failed) :
    s.roundOutcome a none = (s.failModule a false).nextOfRound := congrArg State.nextOfRound (if_neg hf)

/-- R173: the entry of a module before the STEADY reply of a proof round proves it: its mark is that of its form where the
form is lit. -/
def State.roundEntry (s : State) (a : Addr) (p : ProofReply) : Module :=
  { s.mod a with limited := if (s.display a).form = p.lit then (s.display a).limited else (s.mod a).limited }

theorem roundReply_steady (hh : p.health ≠ .fail) (ht : p.transition = false) :
    s.roundReply a p = (s.setMod a (s.roundEntry a p)).proveModule a p := by
  unfold State.roundReply
  dsimp only
  rw [if_neg hh, if_neg (by rw [ht]; decide)]
  rfl

theorem roundReply_changing (hh : p.health ≠ .fail) (ht : p.transition = true) :
    s.roundReply a p = s.setMod a
      { s.mod a with state := .changing, sent := some p.lit, sentTag := some p.tag, sinceSetEnd := some 0, nextPoll := some 0,
                     pollDue := false } := by
  unfold State.roundReply
  dsimp only
  rw [if_neg hh, if_pos ht]

theorem roundReply_fails (hh : p.health = .fail) : s.roundReply a p = s.failModule a false := if_pos hh

theorem roundOutcome_steady (hf : (s.mod a).state ≠ .failed) (hh : p.health ≠ .fail) (ht : p.transition = false) :
    s.roundOutcome a (some (.proof p)) = ((s.setMod a (s.roundEntry a p)).proveModule a p).nextOfRound :=
  (roundOutcome_reply hf p).trans (congrArg State.nextOfRound (roundReply_steady hh ht))

theorem roundOutcome_changing (hf : (s.mod a).state ≠ .failed) (hh : p.health ≠ .fail) (ht : p.transition = true) :
    s.roundOutcome a (some (.proof p)) = State.nextOfRound (s.setMod a
      { s.mod a with state := .changing, sent := some p.lit, sentTag := some p.tag, sinceSetEnd := some 0, nextPoll := some 0,
                     pollDue := false }) :=
  (roundOutcome_reply hf p).trans (congrArg State.nextOfRound (roundReply_changing hh ht))

theorem roundOutcome_fails (hf : (s.mod a).state ≠ .failed) (hh : p.health = .fail) :
    s.roundOutcome a (some (.proof p)) = (s.failModule a false).nextOfRound :=
  (roundOutcome_reply hf p).trans (congrArg State.nextOfRound (roundReply_fails hh))

theorem roundProven_asa (s : State) (a : Addr) (p : ProofReply) :
    SameButAsa (s.setMod a ((s.roundEntry a p).steady p)) ((s.setMod a (s.roundEntry a p)).proveModule a p) := by
  have h := proveModule_asa (s.setMod a (s.roundEntry a p)) a p
  rw [mod_setMod_same, setMod_setMod] at h
  exact h

/-- A module's entry, or its failure, as the end of a PROOF of a proof round leaves it. -/
theorem round_entry_after (hround : s.slc.round = some (a :: rest)) (hsame : SameButAsa (s.txnOver.setMod a m) t) :
    (s.sameBut [.stu, .msu, .spc, .clt, .asa, .slc] t.nextOfRound.afterTxn ∧
      t.nextOfRound.afterTxn.slc.transaction = none ∧
      t.nextOfRound.afterTxn.slc.round = (if rest = [] then none else some rest) ∧
      ∀ b, b ≠ a → t.nextOfRound.afterTxn.mod b = s.mod b) ∧ t.nextOfRound.afterTxn.mod a = m := by
  have hset : s.sameBut [.slc] (s.txnOver.setMod a m) := by simp [State.sameBut, State.setMod, State.txnOver]
  have hmod : ∀ b, t.mod b = (s.txnOver.setMod a m).mod b := fun b => congrArg (·.modules.get b) hsame.slc
  obtain ⟨hframe, htxn, hnext, hmods⟩ := round_after (t := t) hround
    ((hset.mono (by simp)).trans (hsame.sameBut.mono (by simp))) (by rw [hsame.slc]; rfl)
  refine ⟨⟨hframe, htxn, hnext, fun b hb => ?_⟩, ?_⟩
  · rw [hmods, hmod, mod_setMod, if_neg hb, txnOver_mod]
  · rw [hmods, hmod, mod_setMod_same]

theorem round_fail_after (hround : s.slc.round = some (a :: rest)) (hf : (s.mod a).state ≠ .failed) :
    (s.sameBut [.stu, .msu, .spc, .clt, .asa, .slc] (s.txnOver.failModule a false).nextOfRound.afterTxn ∧
      (s.txnOver.failModule a false).nextOfRound.afterTxn.slc.transaction = none ∧
      (s.txnOver.failModule a false).nextOfRound.afterTxn.slc.round = (if rest = [] then none else some rest) ∧
      ∀ b, b ≠ a → (s.txnOver.failModule a false).nextOfRound.afterTxn.mod b = s.mod b) ∧
      (s.txnOver.failModule a false).nextOfRound.afterTxn.mod a = { (s.mod a).fail with blankOwed := true } := by
  obtain ⟨hframe, htxn, hnext, hmods⟩ := round_after (t := s.txnOver.failModule a false) hround
    (((txnOver_sameBut s).mono (by simp)).trans ((failModule_sameBut s.txnOver a false).mono (by simp)))
    (by rw [failModule_slc]; rfl)
  refine ⟨⟨hframe, htxn, hnext, fun b hb => ?_⟩, ?_⟩
  · rw [hmods, failModule_mod_other hb, txnOver_mod]
  · rw [hmods, failModule_mod (s := s.txnOver) (.inl hf), txnOver_mod]

end

/-- A proof round's transaction has ended with a PROOF reply. -/
theorem exec_round {isRetry : Bool} {st health : Byte} {tr : Bool} {hl : Health}
    (ht : s.slc.transaction = some ⟨a, .proof, .proofRound, isRetry⟩) (hst : transitionOf st = some tr)
    (hhealth : healthOf health = some hl) :
    exec (.proofComplete (withChecksum [BitVec.ofNat 8 (a.val + 1), 0x01#8, BitVec.ofNat 8 x.code, st, health, tag])) s =
      .next (s.txnOver.roundOutcome a (some (.proof ⟨x, tr, hl, tag⟩))).afterTxn :=
  exec_proofComplete ht rfl (replyOf_proof rfl x hst hhealth)

end Sys2Proof.Machine
end

section
/-! The resync group (R152), and where a new group stands in a queue that has room (R148). -/

namespace Sys2Proof.Machine

variable {s : State} {a : Addr} {e : ChangeEntry}

/-! ### A group placed in a queue with room -/

theorem mem_placeUrgent_roomy {g h : Group} {q : List Group} (hq : q.length < 8) : h ∈ placeUrgent g q ↔ h = g ∨ h ∈ q := by
  unfold placeUrgent
  rw [if_pos hq]
  split
  · split
    · simp only [List.mem_cons]; tauto
    · simp only [List.mem_cons]
  · simp

theorem mem_placeGroup_roomy {g : Group} (k : GroupKind) {es : List ChangeEntry} (hes : es ≠ []) (hq : s.asa.queue.length < 8) :
    g ∈ (s.placeGroup k es).asa.queue ↔ g = ⟨k, s.asa.nextTag, false, es⟩ ∨ g ∈ s.asa.queue := by
  unfold State.placeGroup
  rw [if_neg (by simpa using hes)]
  cases k
  · exact mem_placeUrgent_roomy hq
  · dsimp only
    unfold placeNormal
    rw [if_pos hq, List.mem_append, List.mem_singleton, or_comm]

theorem placeGroup_nil (s : State) (k : GroupKind) : s.placeGroup k [] = s := rfl

theorem placeGroup_nextTag (k : GroupKind) {es : List ChangeEntry} (hes : es ≠ []) :
    (s.placeGroup k es).asa.nextTag = s.asa.nextTag + 1 := by
  unfold State.placeGroup
  rw [if_neg (by simpa using hes)]

/-! ### The UNSENT entries of a module -/

/-- The UNSENT entries of a module in a queue. -/
def unsentAt (a : Addr) (q : List Group) : List ChangeEntry :=
  (queueEntries q).filter fun e => decide (e.addr = a ∧ e.sent = false)

theorem QueueSound.unsentAt_length {q : List Group} (h : QueueSound q) (a : Addr) : (unsentAt a q).length ≤ 1 := by
  have hcount := h.unsent a
  rw [List.countP_eq_length_filter] at hcount
  have hsame : unsentAt a q = (queueEntries q).filter fun e => e.addr == a && !e.sent :=
    List.filter_congr fun e _ => by rw [Bool.eq_iff_iff]; simp
  rwa [hsame]

/-- A list of one element at most is the only one with its elements. -/
theorem eq_of_perm_short {α : Type} {xs ys : List α} (h : xs.Perm ys) (hlen : ys.length ≤ 1) : xs = ys := by
  match ys, hlen with
  | [], _ => exact h.eq_nil
  | [y], _ => exact List.perm_singleton.1 h

theorem queueEntries_removeUnsent (as : List Addr) (q : List Group) :
    queueEntries (removeUnsent as q) = (queueEntries q).filter fun e => e.sent || !(as.contains e.addr) := by
  induction q with
  | nil => rfl
  | cons g q ih =>
    have hcons : queueEntries (removeUnsent as (g :: q)) = dropUnsent as g.entries ++ queueEntries (removeUnsent as q) := by
      unfold removeUnsent queueEntries
      rw [List.map_cons, List.filter_cons]
      split
      · rfl
      case isFalse hempty =>
        have hnil : dropUnsent as g.entries = [] := by simpa using hempty
        rw [hnil]
        rfl
    rw [hcons, ih]
    simp only [queueEntries, List.flatMap_cons, List.filter_append, dropUnsent]

theorem unsentAt_removeUnsent (as : List Addr) (q : List Group) :
    unsentAt a (removeUnsent as q) = if a ∈ as then [] else unsentAt a q := by
  unfold unsentAt
  rw [queueEntries_removeUnsent, List.filter_filter]
  split
  case isTrue ha =>
    refine List.filter_eq_nil_iff.2 fun e _ => ?_
    simp only [Bool.and_eq_true, decide_eq_true_eq, Bool.or_eq_true, not_and, not_or]
    rintro ⟨rfl, hs⟩
    simpa [hs] using ha
  case isFalse ha =>
    refine List.filter_congr fun e _ => ?_
    rw [Bool.eq_iff_iff]
    simp only [Bool.and_eq_true, decide_eq_true_eq, Bool.or_eq_true, and_iff_left_iff_imp]
    rintro ⟨rfl, -⟩
    exact .inr (by simpa using ha)

theorem unsentAt_fresh {es : List ChangeEntry} (hes : FreshEntries es) (he : e ∈ es) :
    es.filter (fun x => decide (x.addr = e.addr ∧ x.sent = false)) = [e] := by
  have hone : ∀ x ∈ es, decide (x.addr = e.addr ∧ x.sent = false) = decide (x = e) := fun x hx => by
    rw [decide_eq_decide]
    refine ⟨fun ⟨ha, _⟩ => List.inj_on_of_nodup_map hes.addr_nodup hx he ha, ?_⟩
    rintro rfl
    exact ⟨rfl, hes.2 x hx⟩
  rw [List.filter_congr hone]
  have hnd : es.Nodup := List.Nodup.of_map _ hes.addr_nodup
  exact (List.filter_eq (l := es) e).trans (by rw [List.count_eq_one_of_mem hnd he]; rfl)

theorem unsentAt_other {es : List ChangeEntry} (h : ∀ e ∈ es, e.addr ≠ a) :
    es.filter (fun x => decide (x.addr = a ∧ x.sent = false)) = [] :=
  List.filter_eq_nil_iff.2 fun x hx hx' => h x hx (of_decide_eq_true hx').1

/-! ### The resync group (R152) -/

/-- The entry that carries a module's displayable form. -/
def State.formEntry (s : State) (a : Addr) : ChangeEntry := ⟨a, (s.display a).form, (s.display a).limited, false⟩

/-- R152: a module that is READY or CHANGING with a lit aspect other than its displayable form. -/
def State.differs (s : State) (a : Addr) : Bool :=
  decide (((s.mod a).state = .ready ∨ (s.mod a).state = .changing) ∧ (s.mod a).sent ≠ none ∧
    (s.mod a).sent ≠ some (s.display a).form)

theorem resyncEntry_eq (s : State) (a : Addr) : s.resyncEntry a = if s.differs a then some (s.formEntry a) else none := by
  unfold State.resyncEntry State.differs
  dsimp only
  by_cases hs : (s.mod a).state = .ready ∨ (s.mod a).state = .changing
  · rw [if_pos hs]
    cases hsent : (s.mod a).sent with
    | none => simp
    | some lit =>
      by_cases hlit : lit = (s.display a).form
      · simp [hlit]
      · simp [hs, hlit, State.formEntry]
  · rw [if_neg hs]
    simp [hs]

theorem filterMap_ite {α β : Type} (p : α → Bool) (f : α → β) (xs : List α) :
    (xs.filterMap fun x => if p x then some (f x) else none) = (xs.filter p).map f := by
  induction xs with
  | nil => rfl
  | cons x xs ih => by_cases h : p x <;> simp [h, ih]

/-- R152: the modules of the resync group. -/
def State.differing (s : State) : List Addr := s.moduleAddrs.filter s.differs

theorem resyncEntries_eq (s : State) : s.moduleAddrs.filterMap s.resyncEntry = s.differing.map s.formEntry := by
  have hfun : s.resyncEntry = fun a => if s.differs a then some (s.formEntry a) else none := funext (resyncEntry_eq s)
  rw [hfun, filterMap_ite]
  rfl

/-- R152: the resync group is urgent where one of its forms is more restrictive than what is lit. -/
def State.resyncKind (s : State) : GroupKind :=
  if s.differing.any fun a => ((s.mod a).sent.map Aspect.rank).any fun k => decide (k < (s.display a).form.rank) then .urgent
  else .normal

theorem resync_eq (s : State) :
    s.resync = (s.withoutEntries (s.differing.map s.formEntry)).placeGroup s.resyncKind (s.differing.map s.formEntry) := by
  have hkind : (s.differing.map s.formEntry).any s.resyncUrgent =
      s.differing.any fun a => ((s.mod a).sent.map Aspect.rank).any fun k => decide (k < (s.display a).form.rank) := by
    rw [List.any_map]
    refine congrArg _ (funext fun a => ?_)
    show s.resyncUrgent (s.formEntry a) = _
    unfold State.resyncUrgent State.formEntry
    cases (s.mod a).sent <;> rfl
  unfold State.resync
  dsimp only
  rw [resyncEntries_eq, hkind]
  rfl

theorem differing_fresh (s : State) : FreshEntries (s.differing.map s.formEntry) := by
  rw [← resyncEntries_eq]
  exact freshEntries_filterMap moduleAddrs_pairwise fun a e h => by
    rw [resyncEntry_eq] at h
    split at h
    · cases h; exact ⟨rfl, rfl⟩
    · cases h

theorem mem_differing_addrs : a ∈ (s.differing.map s.formEntry).map ChangeEntry.addr ↔ a ∈ s.differing := by
  rw [List.map_map]
  exact ⟨fun h => by obtain ⟨b, hb, rfl⟩ := List.mem_map.1 h; exact hb, fun h => List.mem_map.2 ⟨a, h, rfl⟩⟩

/-- R152: the UNSENT entries once the resync group has been placed. -/
theorem resync_unsentAt (h : QueueSound s.asa.queue) (a : Addr) :
    unsentAt a s.resync.asa.queue = if a ∈ s.differing then [s.formEntry a] else unsentAt a s.asa.queue := by
  have hperm := placeGroup_takes (s := s.withoutEntries (s.differing.map s.formEntry)) s.resyncKind
    (s.differing.map s.formEntry) (h.removeUnsent _)
  rw [← resync_eq] at hperm
  have hfiltered := hperm.filter fun e => decide (e.addr = a ∧ e.sent = false)
  rw [List.filter_append] at hfiltered
  have hold : ((queueEntries (s.withoutEntries (s.differing.map s.formEntry)).asa.queue).filter fun e =>
      decide (e.addr = a ∧ e.sent = false)) = if a ∈ s.differing then [] else unsentAt a s.asa.queue := by
    refine (unsentAt_removeUnsent ((s.differing.map s.formEntry).map ChangeEntry.addr) s.asa.queue).trans ?_
    simp only [mem_differing_addrs]
  rw [hold] at hfiltered
  split at hfiltered
  case isTrue ha =>
    have hone := unsentAt_fresh (differing_fresh s) (List.mem_map_of_mem ha)
    rw [if_pos ha]
    refine eq_of_perm_short (hfiltered.trans ?_) (le_refl 1)
    rw [List.append_nil]
    exact .of_eq hone
  case isFalse ha =>
    have hnone : (s.differing.map s.formEntry).filter (fun x => decide (x.addr = a ∧ x.sent = false)) = [] :=
      unsentAt_other fun e he hea => ha (mem_differing_addrs.1 (List.mem_map.2 ⟨e, he, hea⟩))
    rw [hnone, List.nil_append] at hfiltered
    rw [if_neg ha]
    exact eq_of_perm_short hfiltered (h.unsentAt_length a)

theorem resync_sameBut (s : State) : s.sameBut [.asa] s.resync := by
  rw [resync_eq]
  unfold State.placeGroup
  split <;> simp [State.sameBut, State.withoutEntries]

theorem resync_nextTag (s : State) : s.resync.asa.nextTag = if s.differing = [] then s.asa.nextTag else s.asa.nextTag + 1 := by
  rw [resync_eq]
  split
  case isTrue h => rw [h, List.map_nil, placeGroup_nil]; rfl
  case isFalse h => exact placeGroup_nextTag _ (by simpa using h)

/-- R148: with room in the queue the resync group stands by itself. -/
theorem resync_group (h : s.asa.queue.length < 8) {g : Group} (hg : g ∈ s.resync.asa.queue)
    (hdiff : ∃ e ∈ g.entries, e.addr ∈ s.differing ∧ e.sent = false) :
    g = ⟨s.resyncKind, s.asa.nextTag, false, s.differing.map s.formEntry⟩ := by
  obtain ⟨e, he, ha, hs⟩ := hdiff
  have hne : s.differing.map s.formEntry ≠ [] := by
    intro hnil
    rw [List.map_eq_nil_iff.1 hnil] at ha
    cases ha
  have hroom : (s.withoutEntries (s.differing.map s.formEntry)).asa.queue.length < 8 :=
    lt_of_le_of_lt ((List.length_filter_le ..).trans (List.length_map _).le) h
  rw [resync_eq, mem_placeGroup_roomy _ hne hroom] at hg
  refine hg.resolve_right fun hin => ?_
  have hgone := (mem_queueEntries_removeUnsent (List.mem_flatMap.2 ⟨g, hin, he⟩)).2
  rw [hs] at hgone
  exact hgone.resolve_left (by decide) (mem_differing_addrs.2 ha)

end Sys2Proof.Machine
end

section
/-! O46: the recovery entry of a FAILED module that answers an IDENT (R151, R170), which an event with nothing to settle
anew leaves as it is, and the settlement of polls and proof rounds. -/

namespace Sys2Proof.Machine

variable {s t u : State} {a : Addr} {id : Nat}

/-! ### Settling a settled table again -/

theorem filter_withdrawFrom {p : Request → Bool} (hp : ∀ q : Request, q.source = .enclosed → p q = false) (row : List Request) :
    (withdrawFrom row .closed .enclosed).filter p = row.filter p := by
  unfold withdrawFrom
  rw [List.filter_filter]
  refine List.filter_congr fun q _ => ?_
  by_cases hq : q.source = .enclosed
  · rw [hp q hq, Bool.false_and]
  · simp [hq]

theorem filter_insertRequest {p : Request → Bool} {r : Request} (hr : p r = false) (row : List Request) :
    (insertRequest r row).filter p = row.filter p := by
  induction row with
  | nil => simp [insertRequest, hr]
  | cons q row ih =>
    unfold insertRequest
    split
    · rw [List.filter_cons_of_neg (by simp [hr])]
    · rw [List.filter_cons, List.filter_cons, ih]

/-- R143: the post-pass changes the requests with the source ENCLOSED alone. -/
theorem filter_enclosedRow {p : Request → Bool} (hp : ∀ q : Request, q.source = .enclosed → p q = false) (row : List Request)
    (b : Bool) : (enclosedRow row b).filter p = row.filter p := by
  cases b
  · exact filter_withdrawFrom hp row
  · exact (filter_insertRequest (hp _ rfl) _).trans (filter_withdrawFrom hp row)

theorem settledDisplay_row (s : State) (a : Addr) :
    (s.settledDisplay a).row = (s.display a).row ∨ ∃ b, (s.settledDisplay a).row = enclosedRow (s.display a).row b := by
  unfold State.settledDisplay
  dsimp only
  split
  · split
    · exact .inr ⟨_, rfl⟩
    · exact .inl rfl
  · split <;> exact .inl rfl

theorem filter_settledRow {p : Request → Bool} (hp : ∀ q : Request, q.source = .enclosed → p q = false) (s : State) (a : Addr) :
    (s.settledDisplay a).row.filter p = (s.display a).row.filter p := by
  rcases settledDisplay_row s a with h | ⟨b, h⟩
  · rw [h]
  · rw [h, filter_enclosedRow hp]

theorem settledDisplay_legendRow (s : State) : (s.settledDisplay legendAddr).row = (s.display legendAddr).row := rfl

/-- `t` shows what `s` has settled, with the module table and the lanes that it was settled for. -/
structure Settled (s t : State) : Prop where
  lanes : t.lanes = s.lanes
  form : ∀ a w, (t.mod a).form w = (s.mod a).form w
  display : SameButOrdered s.settleTable t

section
variable (h : Settled s t)
include h

theorem Settled.shown (a : Addr) : ∃ x, t.display a = { s.settledDisplay a with ordered := x } := by
  rw [← settleTable_display]; exact h.display.display a

theorem Settled.row (a : Addr) : (t.display a).row = (s.settledDisplay a).row := by
  obtain ⟨x, hx⟩ := h.shown a
  rw [hx]

theorem Settled.baseWinners : t.baseWinners = s.baseWinners := by
  unfold State.baseWinners
  refine congrArg _ (funext fun l => ?_)
  rw [h.lanes, h.row, rowBaseWinner, filter_settledRow (fun q hq => by simp [hq])]
  rfl

theorem Settled.legendRow : (t.display legendAddr).row = (s.display legendAddr).row := (h.row legendAddr).trans rfl

/-- The same winners are settled again. -/
theorem Settled.again (a : Addr) :
    (t.settledDisplay a).winner = (t.display a).winner ∧ (t.settledDisplay a).form = (t.display a).form ∧
      (t.settledDisplay a).limited = (t.display a).limited := by
  obtain ⟨x, hx⟩ := h.shown a
  have hwinner : (t.display a).winner = (s.settledDisplay a).winner := by rw [hx]
  have hform : (t.display a).form = (s.settledDisplay a).form := by rw [hx]
  have hlimited : (t.display a).limited = (s.settledDisplay a).limited := by rw [hx]
  rw [hwinner, hform, hlimited]
  unfold State.settledDisplay Display.settle at *
  dsimp only at *
  rw [h.lanes, h.baseWinners, h.legendRow]
  cases hl : addrLane a with
  | none =>
    simp only [hl] at hx ⊢
    split <;> simp [h.form]
  | some l =>
    simp only [hl] at hx ⊢
    split
    · simp [h.form]
    case isFalse hlt =>
      rw [if_neg hlt] at hx
      simp [hx]

theorem Settled.changedModules_nil : changedModules t t.settleTable = [] := by
  refine List.filter_eq_nil_iff.2 fun a _ => ?_
  obtain ⟨hw, hf, hl⟩ := h.again a
  rw [settleTable_display, hw, hf, hl]
  simp

end

theorem formEntries_nil (s : State) : s.formEntries [] = s.withoutEntries [] := rfl

theorem mem_removeUnsent_nil {g : Group} {q : List Group} (h : g ∈ removeUnsent [] q) : g ∈ q := by
  obtain ⟨hmap, -⟩ := List.mem_filter.1 h
  obtain ⟨x, hx, rfl⟩ := List.mem_map.1 hmap
  have hsame : dropUnsent [] x.entries = x.entries := List.filter_eq_self.2 fun e _ => by simp
  rw [hsame]
  exact hx

/-- An event that has nothing to settle anew leaves the displays, but for their rows, and adds no entry. -/
theorem Settled.settle (h : Settled s t) :
    (∀ a, (t.settle.display a).ordered = (t.display a).ordered ∧ (t.settle.display a).winner = (t.display a).winner ∧
      (t.settle.display a).form = (t.display a).form ∧ (t.settle.display a).limited = (t.display a).limited) ∧
      t.settle.asa.queue = removeUnsent [] t.asa.queue := by
  have heq : t.settle = t.settleTable.withoutEntries [] := by
    rw [State.settle, h.changedModules_nil, formEntries_nil]
  have hdisplay : ∀ a, t.settle.display a = t.settledDisplay a := fun a => by
    rw [heq]
    exact settleTable_display t a
  refine ⟨fun a => ?_, by rw [heq]; rfl⟩
  rw [hdisplay]
  exact ⟨settledDisplay_ordered t a, h.again a⟩

/-! ### A review of the proof that changes no record (R120) -/

theorem insertBy_mem {α : Type} {key : α → Nat} {x : α} {ys : List α} (hs : (ys.map key).Pairwise (· < ·)) (hx : x ∈ ys) :
    insertBy key x ys = ys := by
  induction ys with
  | nil => cases hx
  | cons y ys ih =>
    obtain ⟨hy, hrest⟩ := List.pairwise_cons.1 hs
    unfold insertBy
    rcases List.mem_cons.1 hx with rfl | hx
    · simp
    · have hlt := hy _ (List.mem_map_of_mem hx)
      rw [if_neg (by omega), if_neg (by omega), ih hrest hx]

/-- R120: the proof of every record gives the stage that it has, and no modification waits for it. -/
def State.proofSettled (s : State) : Prop :=
  ∀ x ∈ s.clt.records, x.pendingMod = none ∧
    (x.stage.proofRuns = true → x.awaiting = [] → stageAfterProof (s.proofClasses x.id) x.stage = x.stage)

section
variable {w : Work} (hsound : w.s.clt.sound) (hsettled : w.s.proofSettled)
include hsound hsettled

theorem prove_of_settled (id : Nat) : w.prove id = w := by
  unfold Work.prove
  split
  case h_1 => rfl
  case h_2 r hr =>
    split
    case isFalse => rfl
    case isTrue hruns =>
      have hin := mem_records_of_record w.s hr
      have hid := record_id w.s hr
      have hstage := (hsettled r hin).2 hruns.1 hruns.2
      rw [hid] at hstage
      have hput : w.s.putRecord r = w.s := by
        unfold State.putRecord
        rw [insertRecord_eq, insertBy_mem hsound.2 hin]
      dsimp only
      rw [hstage]
      unfold Work.put Work.telling
      dsimp only
      rw [hput]
      simp

omit hsound in
theorem drain_of_settled (id : Nat) : w.drain id = w := by
  cases hr : w.s.record id with
  | none => unfold Work.drain; rw [hr]
  | some r => exact drain_of_none hr (hsettled r (mem_records_of_record w.s hr)).1

theorem reviewAll_of_settled (ids : List Nat) : (ids.foldl (fun w id => (w.prove id).drain id) w) = w := by
  induction ids with
  | nil => rfl
  | cons id ids ih => rw [List.foldl_cons, prove_of_settled hsound hsettled, drain_of_settled hsettled, ih]

end

/-- The review of every record's proof, as an event of the Closure Table. -/
def Work.reviewAll (w : Work) : Work := w.s.recordIds.foldl (fun w id => (w.prove id).drain id) w

theorem reviewProof_eq (s : State) : s.reviewProof = s.closureEvent Work.reviewAll := rfl

theorem reviewProof_of_settled (hsound : s.clt.sound) (hsettled : s.proofSettled) : s.reviewProof = s.settle := by
  have hwork : Work.reviewAll ⟨s, false⟩ = ⟨s, false⟩ := reviewAll_of_settled (w := ⟨s, false⟩) hsound hsettled s.recordIds
  rw [reviewProof_eq]
  rcases closureEvent_cases s Work.reviewAll with ⟨htell, -⟩ | ⟨-, heq⟩
  · rw [hwork] at htell; cases htell
  · rw [heq, hwork]

/-- The classes of a record's modules are read from its requests, the states of the modules and the link. -/
theorem proofClasses_congr (hlanes : t.moduleAddrs = s.moduleAddrs) (hreqs : ∀ a, t.requestsOf id a = s.requestsOf id a)
    (hclass : ∀ a rank, t.proofClass a rank = s.proofClass a rank) : t.proofClasses id = s.proofClasses id := by
  simp only [State.proofClasses, hlanes, hreqs, hclass]

theorem requestsOf_of_rows (h : (t.display a).row = (s.settledDisplay a).row) : t.requestsOf id a = s.requestsOf id a := by
  unfold State.requestsOf
  rw [h]
  exact filter_settledRow (fun q hq => by rw [hq]; rfl) s a

/-! ### The entry of a module that has answered (R147, R148, R151) -/

theorem unsentAt_leaveQueue (q : List Group) : unsentAt a (leaveQueue q) = unsentAt a q := by
  induction q with
  | nil => rfl
  | cons g q ih =>
    have hcons : ∀ q, unsentAt a (g :: q) = g.entries.filter (fun e => decide (e.addr = a ∧ e.sent = false)) ++ unsentAt a q :=
      fun q => by simp [unsentAt, queueEntries, List.filter_append]
    unfold leaveQueue at ih ⊢
    rw [List.filter_cons]
    split
    · rw [hcons, hcons, ih]
    case isFalse hgone =>
      have hsent : g.entries.all (·.sent) = true := by simp at hgone; simpa using hgone.2
      have hnone : g.entries.filter (fun e => decide (e.addr = a ∧ e.sent = false)) = [] := by
        refine List.filter_eq_nil_iff.2 fun e he h => ?_
        have := List.all_eq_true.1 hsent e he
        rw [(of_decide_eq_true h).2] at this
        cases this
      rw [hcons, hnone, List.nil_append, ih]

theorem placeEntries_unsentAt {e : ChangeEntry} (hq : QueueSound s.asa.queue) (he : e.sent = false) :
    unsentAt e.addr (s.placeEntries [e]).asa.queue = [e] := by
  have hperm := (placeEntries_queue (s := s) hq (freshEntries_singleton e he)).filter
    fun x => decide (x.addr = e.addr ∧ x.sent = false)
  have hgone := unsentAt_removeUnsent (a := e.addr) [e.addr] s.asa.queue
  rw [if_pos (List.mem_singleton.2 rfl)] at hgone
  rw [List.filter_append, unsentAt_fresh (freshEntries_singleton e he) (List.mem_singleton.2 rfl)] at hperm
  refine eq_of_perm_short (hperm.trans ?_) (le_refl 1)
  exact .of_eq (congrArg (e :: ·) hgone)

/-- R147, R148: with room in the queue the group of one new entry has the entry's kind. -/
theorem placeEntries_kind {e : ChangeEntry} (hroom : s.asa.queue.length < 8) {g : Group}
    (hg : g ∈ (s.placeEntries [e]).asa.queue) (hunsent : ∃ x ∈ g.entries, x.addr = e.addr ∧ x.sent = false) :
    g.kind = if s.isUrgent e then .urgent else .normal := by
  have hremoved : (s.withoutEntries [e]).asa.queue.length < 8 :=
    lt_of_le_of_lt ((List.length_filter_le ..).trans (List.length_map _).le) hroom
  have hnot : g ∉ (s.withoutEntries [e]).asa.queue := fun hin => by
    obtain ⟨x, hx, hxa, hxs⟩ := hunsent
    have hgone := (mem_queueEntries_removeUnsent (List.mem_flatMap.2 ⟨g, hin, hx⟩)).2
    rw [hxs, hxa] at hgone
    exact hgone.resolve_left (by decide) (List.mem_singleton.2 rfl)
  have hplaced : (s.placeEntries [e]).asa.queue =
      ((s.withoutEntries [e]).placeGroup (if s.isUrgent e then .urgent else .normal) [e]).asa.queue := by
    refine (orderEntries_queue ..).trans ?_
    by_cases h : s.isUrgent e = true <;> simp [h, placeGroup_nil] <;> rfl
  rw [hplaced, mem_placeGroup_roomy _ (by simp) hremoved] at hg
  rw [hg.resolve_right hnot]

theorem darkAspect_rank (a : Addr) : (darkAspect a).rank = 0 := by unfold darkAspect; split <;> rfl

/-- R147: over a dark order an entry is urgent where its aspect is restrictive. -/
theorem isUrgent_dark {e : ChangeEntry} (h : (s.display e.addr).ordered = darkAspect e.addr) :
    s.isUrgent e = true ↔ 0 < e.aspect.rank := by
  unfold State.isUrgent
  rw [h, darkAspect_rank, Bool.or_eq_true, decide_eq_true_eq]
  refine or_iff_left_of_imp fun hsent => ?_
  split at hsent
  · exact lt_of_le_of_lt (Nat.zero_le _) (of_decide_eq_true hsent)
  · cases hsent

theorem settledDisplay_form (ha : a ∈ s.moduleAddrs) :
    ((s.settledDisplay a).form, (s.settledDisplay a).limited) = (s.mod a).form (s.settledDisplay a).winner := by
  rcases List.mem_append.1 ha with h | h
  · obtain ⟨l, hl, rfl⟩ := List.mem_map.1 h
    rw [settledDisplay_lane ((mem_lanesInUse_iff s l).1 hl)]
    rfl
  · have hcases : a = lanternAddr ∨ a = legendAddr := by simpa using h
    rcases hcases with rfl | rfl <;> rfl

theorem ite_urgent {b : Bool} : (if b then GroupKind.urgent else .normal) = .urgent ↔ b = true := by cases b <;> decide

section
variable {m : Module}

/-- R151: the state that an answered IDENT gives, at the next boundary. -/
def State.answered (s : State) (a : Addr) (m : Module) : State := ((s.txnOver.setMod a m).moduleAnsweredAsa a).boundary

theorem answered_same (s : State) (a : Addr) (m : Module) : SameButAsa (s.txnOver.setMod a m) (s.answered a m) :=
  (moduleAnsweredAsa_same _ a).trans ⟨rfl, rfl, rfl, rfl, rfl, rfl, rfl, rfl, rfl, rfl⟩

theorem answered_settled (s : State) (a : Addr) (m : Module) : Settled (s.txnOver.setMod a m) (s.answered a m) where
  lanes := by unfold State.lanes; rw [(answered_same s a m).stu]
  form b w := by unfold State.mod; rw [(answered_same s a m).slc]
  display := (placeEntries_sameButOrdered (s.txnOver.setMod a m).settleTable _).trans (sameButOrdered_of_modules rfl)

theorem answered_mod (s : State) (a : Addr) (m : Module) (b : Addr) :
    (s.answered a m).mod b = if b = a then m else s.mod b := by
  have h : (s.answered a m).mod b = (s.txnOver.setMod a m).mod b := congrArg (·.modules.get b) (answered_same s a m).slc
  rw [h, mod_setMod, txnOver_mod]

/-- R119: an answered IDENT leaves the classes of the modules. -/
theorem answered_proofSettled (hm : m.state = (s.mod a).state ∧ m.limited = (s.mod a).limited ∧ m.proven = (s.mod a).proven)
    (h : s.proofSettled) : (s.answered a m).proofSettled := by
  have hsame := answered_same s a m
  have hclass : ∀ b rank, (s.answered a m).proofClass b rank = s.proofClass b rank := fun b rank => by
    have hlink : (s.answered a m).slc.link = s.slc.link := by rw [hsame.slc]; rfl
    unfold State.proofClass Module.provesRank
    rw [answered_mod, hlink]
    dsimp only
    split
    case isTrue hb => rw [hb, hm.1, hm.2.1, hm.2.2]
    case isFalse => rfl
  intro x hx
  rw [hsame.clt] at hx
  have hclasses : (s.answered a m).proofClasses x.id = s.proofClasses x.id :=
    proofClasses_congr (by unfold State.moduleAddrs State.lanesInUse State.lanes; rw [hsame.stu]; rfl)
      (fun b => requestsOf_of_rows (s := s.txnOver.setMod a m) ((answered_settled s a m).row b)) hclass
  rw [hclasses]
  exact h x hx

/-- R151, R170: the recovery entry of a module that has answered, and what stays. -/
theorem answered_after_event (hbus : s.onBus = true) (ha : a ∈ s.moduleAddrs) (hf : m.state = .failed)
    (hm : m.state = (s.mod a).state ∧ m.limited = (s.mod a).limited ∧ m.proven = (s.mod a).proven)
    (hdark : (s.display a).ordered = darkAspect a) (hq : s.queueSound) (hroom : s.asa.queue.length < 8)
    (hclt : s.clt.sound) (hproof : s.proofSettled) :
    let u := ((s.txnOver.setMod a m).moduleAnsweredAsa a).afterTxn
    u.clt = s.clt ∧ unsentAt a u.asa.queue = [⟨a, (u.display a).form, (u.display a).limited, false⟩] ∧
      (u.display a).ordered = (u.display a).form ∧
      ((u.display a).form, (u.display a).limited) = formOf m.repertoire (u.display a).winner ∧
      ∀ g ∈ u.asa.queue, (∃ e ∈ g.entries, e.addr = a ∧ e.sent = false) → (g.kind = .urgent ↔ 0 < (u.display a).form.rank) := by
  intro u
  have hsame := answered_same s a m
  have hsettled := answered_settled s a m
  let t := (s.txnOver.setMod a m).settleTable
  have hu : u = (s.answered a m).settle.drive := by
    have hon : ((s.txnOver.setMod a m).moduleAnsweredAsa a).onBus = true := by
      unfold State.onBus; rw [(moduleAnsweredAsa_same (s.txnOver.setMod a m) a).stu]; exact hbus
    have hreview : (s.answered a m).reviewProof = (s.answered a m).settle :=
      reviewProof_of_settled (by rw [hsame.clt]; exact hclt) (answered_proofSettled hm hproof)
    rw [← hreview]
    show State.afterTxn _ = _
    unfold State.afterTxn
    rw [if_pos hon]
    rfl
  obtain ⟨hshown, hqueue⟩ := hsettled.settle
  have hdisplay : ∀ b, u.display b = (s.answered a m).settle.display b := fun b => by
    rw [hu]; exact congrArg (·.modules.get b) (drive_asa _)
  have hasa : u.asa.queue = removeUnsent [] (leaveQueue (t.placeEntries [t.formEntry a]).asa.queue) := by
    rw [hu, drive_asa, hqueue]; rfl
  obtain ⟨hordered, hwinner, hform, hlimited⟩ := hshown a
  obtain ⟨x, hx⟩ := hsettled.shown a
  have htform : t.formEntry a = ⟨a, (u.display a).form, (u.display a).limited, false⟩ := by
    rw [hdisplay, hform, hlimited, hx]
    show ChangeEntry.mk a (t.display a).form (t.display a).limited false = _
    rw [settleTable_display]
  have htqueue : QueueSound t.asa.queue := (queueSound_iff s).1 hq
  refine ⟨?_, ?_, ?_, ?_, fun g hg hunsent => ?_⟩
  · rw [hu, drive_clt, (settle_same _).clt, hsame.clt]; rfl
  · rw [hasa, unsentAt_removeUnsent, if_neg List.not_mem_nil, unsentAt_leaveQueue, ← htform]
    exact placeEntries_unsentAt (e := t.formEntry a) htqueue rfl
  · rw [hdisplay, hordered]
    have hnew : ((t.placeEntries [t.formEntry a]).display a).ordered = (t.formEntry a).aspect :=
      placeEntries_ordered (freshEntries_singleton (t.formEntry a) rfl) (List.mem_singleton.2 rfl)
    refine (show ((s.answered a m).display a).ordered = _ from hnew).trans ?_
    rw [htform, hdisplay]
  · have hsettledForm := settledDisplay_form (s := s.txnOver.setMod a m) ha
    rw [mod_setMod_same, form_eq (by rw [hf]; decide)] at hsettledForm
    rw [hdisplay, hform, hlimited, hwinner, hx]
    exact hsettledForm
  · have hin : g ∈ (t.placeEntries [t.formEntry a]).asa.queue :=
      List.mem_of_mem_filter (mem_removeUnsent_nil (hasa ▸ hg))
    have hkind := placeEntries_kind (e := t.formEntry a) (s := t) hroom hin hunsent
    have hurgent : t.isUrgent (t.formEntry a) = true ↔ 0 < (t.formEntry a).aspect.rank := isUrgent_dark (by
      show (t.display a).ordered = darkAspect a
      rw [settleTable_display, settledDisplay_ordered]
      exact hdark)
    rw [htform] at hurgent
    rw [hkind, ← hurgent, htform]
    exact ite_urgent

end

end Sys2Proof.Machine
end

section
/-! O46: replies to polls and proof rounds, the resync group and the recovery entry (R151, R152, R164, R170, R173). -/

namespace Sys2Proof.Machine

/-- Settles O46. -/
theorem pollReplySettles : Obligations.PollReplySettles := by
  refine ⟨fun s a i r x y tag tag2 ht hc hx htag => ?poll, fun s a r x tag rest ht hround => ?round, fun s hq => ?resync,
    fun s a r k rh rl bu re hbus ht hk ha hf hdark hq hlen hclt hproof => ?answered⟩
  case poll =>
    intro reply
    refine ⟨fun h hh => ?_, fun hne => ?_, ?_, fun h hh hi => ?_, fun h hh hi => ?_⟩
    · have hout := pollOutcome_proven (s := s.txnOver) (i := i) (p := ⟨x, false, goodHealth h, tag⟩) hc (goodHealth_ne_fail h) rfl
        hx htag
      obtain ⟨hframe, hslc, hmod, hother⟩ := entry_after (proveModule_asa s.txnOver a ⟨x, false, goodHealth h, tag⟩)
      refine ⟨_, exec_outcome (exec_poll ht rfl (healthOf_good hh)) hout,
        hframe, (congrArg Slc.transaction hslc :), hother, hmod.trans ?_⟩
      rw [txnOver_mod, Module.steady, ← hx, ← htag]
      rfl
    · have hnot : ¬ ((s.mod a).sent = some y ∧ (s.mod a).sentTag = some tag2) := fun ⟨h1, h2⟩ => by
        rcases hne with hne | hne
        · exact hne (Option.some.inj (h1.symm.trans hx))
        · exact hne (Option.some.inj (h2.symm.trans htag))
      obtain ⟨hframe, hmod⟩ := poll_fails (i := i) (p := ⟨y, false, .ok, tag2⟩) hc (.inr (.inr ⟨rfl, hnot⟩))
      exact ⟨_, exec_poll ht rfl rfl, hframe, by rw [hmod]; rfl, by rw [hmod]; rfl, by rw [hmod]⟩
    · obtain ⟨hframe, hmod⟩ := poll_fails (i := i) (p := ⟨y, false, .fail, tag2⟩) hc (.inl rfl)
      exact ⟨_, exec_poll ht rfl rfl, hframe, by rw [hmod]; rfl⟩
    · have hout := pollOutcome_waits (s := s.txnOver) (i := i) (p := ⟨y, true, goodHealth h, tag2⟩) hc (goodHealth_ne_fail h) rfl hi
      obtain ⟨hframe, -, hmod, -⟩ := setMod_after s a
        { s.mod a with nextPoll := some (max ((s.mod a).nextPoll.getD 0) (i + 1)) }
      exact ⟨_, exec_outcome (exec_poll ht rfl (healthOf_good hh)) hout,
        hframe, hmod⟩
    · obtain ⟨hframe, hmod⟩ := poll_fails (i := i) (p := ⟨y, true, goodHealth h, tag2⟩) hc (.inr (.inl ⟨rfl, hi⟩))
      exact ⟨_, exec_poll ht rfl (healthOf_good hh), hframe, by rw [hmod]; rfl⟩
  case round =>
    intro reply frame steady
    have hsteady := fun hl : Health => round_entry_after hround (roundProven_asa s.txnOver a ⟨x, false, hl, tag⟩)
    have hfails := round_fail_after (s := s) hround
    refine ⟨fun hf => ⟨?_, ?_, fun h hh => ?_, ?_, ?_, fun hr => ?_⟩, fun hf => ?_, fun hrest hf hans => ?_⟩
    · obtain ⟨hframe, hmod⟩ := hsteady .ok
      exact ⟨_, exec_outcome (exec_round ht rfl rfl) (roundOutcome_steady (s := s.txnOver) hf nofun rfl), hframe, hmod⟩
    · obtain ⟨hframe, hmod⟩ := hsteady .degraded
      exact ⟨_, exec_outcome (exec_round ht rfl rfl) (roundOutcome_steady (s := s.txnOver) hf nofun rfl), hframe, hmod⟩
    · obtain ⟨hframe, hmod⟩ := round_entry_after hround (.refl _)
      exact ⟨_, exec_outcome (exec_round ht rfl (healthOf_good hh))
        (roundOutcome_changing (s := s.txnOver) hf (goodHealth_ne_fail h) rfl), hframe, hmod⟩
    · obtain ⟨hframe, hmod⟩ := hfails hf
      exact ⟨_, exec_outcome (exec_round ht rfl rfl) (roundOutcome_fails (s := s.txnOver) hf rfl), hframe,
        by rw [hmod]; rfl, by rw [hmod], by rw [hmod]; rfl⟩
    · obtain ⟨hframe, hmod⟩ := hfails hf
      exact ⟨_, exec_outcome (exec_proofComplete ht rfl replyOf_refuse) (roundOutcome_refuse (s := s.txnOver) hf), hframe,
        by rw [hmod]; rfl, by rw [hmod]⟩
    · obtain ⟨hframe, hmod⟩ := hfails hf
      have hrep : Transaction.repeats ⟨a, .proof, .proofRound, r⟩ = false := by rw [hr]; rfl
      exact ⟨_, exec_outcome (exec_replyTimeout_ended ht hrep) (roundOutcome_missing (s := s.txnOver) hf), hframe,
        by rw [hmod]; rfl, by rw [hmod]⟩
    · obtain ⟨hframe, htxn, hnext, hmods⟩ := round_after (t := s.txnOver) hround ((txnOver_sameBut s).mono (by simp)) rfl
      exact ⟨_, exec_outcome (exec_round ht rfl rfl) (roundOutcome_failed (s := s.txnOver) hf _),
        ⟨hframe, htxn, hnext, fun b _ => hmods b⟩, hmods a⟩
    · have hprove : (s.txnOver.setMod a (s.roundEntry a ⟨x, false, .ok, tag⟩)).proveModule a ⟨x, false, .ok, tag⟩ =
          s.txnOver.setMod a (steady .ok) := by
        rw [proveModule_idle (by rw [mod_setMod_same]; exact hans), mod_setMod_same, setMod_setMod]
        rfl
      have hout := roundOutcome_steady (s := s.txnOver) (p := ⟨x, false, .ok, tag⟩) hf nofun rfl
      refine exec_outcome (exec_round ht rfl rfl) (hout.trans ?_)
      refine (congrArg State.nextOfRound hprove).trans (nextOfRound_last (a := a) ?_)
      rw [← hrest]
      exact hround
  case resync =>
    intro unsent differ urgent
    have hsound := (queueSound_iff s).1 hq
    exact ⟨resync_sameBut s, placeGroup_modules .., fun a ha => (resync_unsentAt hsound a).trans (if_pos ha),
      fun a ha => (resync_unsentAt hsound a).trans (if_neg ha), resync_nextTag s, fun hroom g hg hdiff => resync_group hroom hg hdiff⟩
  case answered =>
    let i : IdentReply := ⟨k, BitVec.ofNat 16 (word16 rh rl), bu.toNat, re.toNat⟩
    let m : Module := { (s.mod a).capable (kindRequired a) i with answered := true, identTimer := none }
    obtain ⟨hframe, hmod, -⟩ := answered_after s a m
    obtain ⟨hclt', hunsent, hordered, hform, hkind⟩ := answered_after_event (m := m) hbus ha hf ⟨rfl, rfl, rfl⟩ hdark hq
      (by omega) ((closuresSound_iff s).1 hclt) hproof
    have hout : s.txnOver.outcome ⟨a, .ident, .identRetry, r⟩ (some (.ident i)) = (s.txnOver.setMod a m).moduleAnsweredAsa a :=
      if_pos (kindFits_true rfl hk)
    exact ⟨_, exec_outcome (exec_identComplete ht rfl (replyOf_ident rfl k rh rl bu re)) hout, hframe, by rw [hclt'], by rw [hclt'],
      fun id => by unfold State.record; rw [hclt'], hunsent, hordered, by rw [hmod]; exact hform, hkind⟩

end Sys2Proof.Machine
end

section
/-! The records of the maintenance port: how bytes, tables and fields are laid out, and how long they are (R187, R192). -/

namespace Sys2Proof.Machine

variable {s : State}

/-! ### Records and tables -/

theorem recordBytes_some (ty : Byte) (count : Nat) (fs : List Nat) :
    recordBytes ty count (some fs) = ty :: 0x01#8 :: fs.flatMap fieldBytes := rfl

/-- R187: an EMPTY record carries FFh throughout. -/
theorem recordBytes_none (ty : Byte) (count : Nat) :
    recordBytes ty count none = ty :: 0x00#8 :: List.replicate (4 * count) 0xFF#8 := by
  have hfields : (List.replicate count absentField).flatMap fieldBytes = List.replicate (4 * count) 0xFF#8 := by
    induction count with
    | zero => rfl
    | succ n ih =>
      rw [List.replicate_succ, List.flatMap_cons, ih]
      have hfour : fieldBytes absentField = List.replicate 4 0xFF#8 := by decide
      rw [hfour, List.replicate_append_replicate, Nat.mul_succ, Nat.add_comm]
  exact congrArg (fun x => ty :: 0x00#8 :: x) hfields

/-- R187: a table's places, each with the record of its row or EMPTY. -/
theorem tableBytes_eq (ty : Byte) (count places : Nat) (rows : List (List Nat)) :
    tableBytes ty count places rows = (List.range places).flatMap fun i => recordBytes ty count rows[i]? := by
  induction places generalizing rows with
  | zero => simp [tableBytes]
  | succ n ih =>
    rw [List.range_succ_eq_map, List.flatMap_cons, List.flatMap_map]
    cases rows with
    | nil =>
      have hrest := ih []
      simp only [tableBytes, List.take_nil, List.flatMap_nil, List.nil_append, List.length_nil, Nat.sub_zero, List.getElem?_nil]
        at hrest ⊢
      rw [List.replicate_succ, List.flatMap_cons, hrest]
    | cons r rows =>
      have hrest := ih rows
      unfold tableBytes at hrest ⊢
      rw [List.take_succ_cons, List.flatMap_cons, List.length_cons, Nat.add_sub_add_right, List.append_assoc, hrest]
      rfl

theorem length_flatMap_const {α β : Type} {f : α → List β} {xs : List α} {n : Nat} (h : ∀ x ∈ xs, (f x).length = n) :
    (xs.flatMap f).length = xs.length * n := by
  rw [List.length_flatMap, List.map_congr_left h, List.map_const', List.sum_replicate, smul_eq_mul]

theorem length_recordBytes (ty : Byte) {count : Nat} {fs : Option (List Nat)} (h : ∀ x, fs = some x → x.length = count) :
    (recordBytes ty count fs).length = 2 + 4 * count := by
  cases fs with
  | none => rw [recordBytes_none]; simp; omega
  | some x =>
    rw [recordBytes_some, List.length_cons, List.length_cons, length_flatMap_const (n := 4) (fun _ _ => rfl), h x rfl]
    omega

theorem length_record (ty : Byte) {fs : List Nat} {count : Nat} (h : fs.length = count) :
    (recordBytes ty count (some fs)).length = 2 + 4 * count := length_recordBytes ty fun _ hx => by cases hx; exact h

theorem length_record_if (ty : Byte) {c : Prop} [Decidable c] {fs : List Nat} {count : Nat} (h : fs.length = count) :
    (recordBytes ty count (if c then some fs else none)).length = 2 + 4 * count := length_recordBytes ty fun _ hx => by
  split at hx <;> cases hx
  exact h

theorem length_tableBytes (ty : Byte) {count : Nat} (places : Nat) {rows : List (List Nat)} (h : ∀ r ∈ rows, r.length = count) :
    (tableBytes ty count places rows).length = places * (2 + 4 * count) := by
  rw [tableBytes_eq, length_flatMap_const (n := 2 + 4 * count), List.length_range]
  exact fun i _ => length_recordBytes ty fun x hx => h x (List.mem_of_getElem? hx)

theorem length_table_map {α : Type} (ty : Byte) {count : Nat} (places : Nat) {f : α → List Nat} {xs : List α}
    (h : ∀ x, (f x).length = count) : (tableBytes ty count places (xs.map f)).length = places * (2 + 4 * count) :=
  length_tableBytes ty places fun r hr => by
    obtain ⟨x, -, rfl⟩ := List.mem_map.1 hr
    exact h x

/-! ### The number of fields of each record -/

theorem stationFields_length (s : State) : s.stationFields.length = 36 := by
  have hstages : (stageFields s.spc.stages).length = 7 := by cases s.spc.stages <;> rfl
  unfold State.stationFields
  rw [List.length_append, hstages]
  rfl

theorem laneFields_length (s : State) (l : Lane) : (s.laneFields l).length = 23 := by
  have hwindow : (accumFields (s.lane l).window).length = 12 := by cases (s.lane l).window <;> rfl
  have hfast : (fastFields (s.lane l).fast).length = 3 := by cases (s.lane l).fast <;> rfl
  have hslow : (slowFields (s.lane l).slow).length = 4 := by cases (s.lane l).slow <;> rfl
  unfold State.laneFields
  rw [List.length_append, List.length_append, List.length_append, hwindow, hfast, hslow]
  rfl

theorem pairFields_length (ls : List LaneEntry) : (pairFields ls).length = 12 :=
  length_flatMap_const (n := 2) fun i _ => by cases ls[i]? <;> rfl

theorem summaryFields_length (x : Option (List SummaryItem)) : (summaryFields x).length = 25 := by
  unfold summaryFields
  rw [List.length_cons, length_flatMap_const (n := 3), List.length_range]
  intro i _
  cases (x.getD [])[i]? <;> rfl

theorem neighbourFields_length (s : State) (e : Neighbour) : (s.neighbourFields e).length = 53 := by
  unfold State.neighbourFields
  rw [List.length_append, List.length_append, List.length_append, List.length_append, pairFields_length, summaryFields_length]
  rfl

theorem closureFields_length (r : ClosureRecord) : r.fields.length = 26 := by
  have hmod : (modFields r.pendingMod).length = 8 := by cases r.pendingMod <;> rfl
  unfold ClosureRecord.fields
  rw [List.length_append, hmod]
  rfl

theorem slotFields_length (row : List Request) (lv : Level) : (slotFields row lv).length = 10 := by
  unfold slotFields
  simp only [List.length_append, List.length_replicate, List.length_take]
  omega

theorem rowFields_length (a : Addr) (row : List Request) : (rowFields a row).length = 50 := by
  unfold rowFields levelsOf
  split
  · exact List.length_replicate
  · split <;> exact (length_flatMap_const fun lv _ => slotFields_length row lv).trans rfl

theorem moduleFields_length (s : State) (a : Addr) : (s.moduleFields a).length = 73 := by
  unfold State.moduleFields
  dsimp only
  rw [List.length_append, List.length_append, rowFields_length]
  rfl

theorem groupFields_length (g : Group) : g.fields.length = 35 := by
  have hentries : (entryFields g.entries).length = 32 :=
    length_flatMap_const (n := 4) fun i _ => by cases g.entries[i]? <;> rfl
  unfold Group.fields
  rw [List.length_append, hentries]
  rfl

theorem linkFields_length (s : State) : s.linkFields.length = 7 := by
  have htxn : (txnFields s.slc.transaction).length = 3 := by cases s.slc.transaction <;> rfl
  unfold State.linkFields
  rw [List.length_append, htxn]
  rfl

/-! ### The length of each reply -/

theorem replyBytes_length (s : State) (k : Snapshot) : (s.replyBytes k).length = (s.snapshotRecords k).length + 2 := by
  unfold State.replyBytes withChecksum
  rw [List.length_append, List.length_cons]
  rfl

theorem stationReply_length (s : State) : (s.replyBytes .station).length = 252 := by
  rw [replyBytes_length]
  show (recordBytes .. ++ tableBytes ..).length + 2 = 252
  rw [List.length_append, length_record _ (stationFields_length s),
    length_table_map (f := Ceiling.fields) (count := 6) _ _ fun _ => rfl]

theorem laneRecords_length (s : State) (l : Lane) : (s.laneRecords l).length = 334 := by
  unfold State.laneRecords
  split
  · rw [List.length_append, length_record _ (laneFields_length s l),
      length_table_map (f := WindowRecord.fields) (count := 7) _ _ fun _ => rfl]
  · rw [List.length_append, recordBytes_none, length_tableBytes _ _ (by simp)]
    simp

theorem measurementReply_length (s : State) : (s.replyBytes .measurement).length = 2524 := by
  have hloop : ∀ l p, (s.loopRecord l p).length = 42 := fun l p => length_record_if _ rfl
  have hcarriage : (carriageFields s.msu.carriage).length = 3 := by cases s.msu.carriage <;> rfl
  rw [replyBytes_length]
  show ((allLanes.flatMap _ ++ allLanes.flatMap _) ++ recordBytes ..).length + 2 = 2524
  rw [List.length_append, List.length_append, length_record _ hcarriage, length_flatMap_const fun l _ => laneRecords_length s l,
    length_flatMap_const (n := 84) fun l _ => by rw [List.length_append, hloop, hloop]]
  rfl

theorem neighboursReply_length (s : State) : (s.replyBytes .neighbours).length = 2570 := by
  rw [replyBytes_length]
  exact congrArg (· + 2) (length_table_map _ _ (neighbourFields_length s))

theorem closuresReply_length (s : State) : (s.replyBytes .closures).length = 896 := by
  rw [replyBytes_length]
  show ((tableBytes .. ++ tableBytes ..) ++ recordBytes ..).length + 2 = 896
  rw [List.length_append, List.length_append, length_record (count := 1) _ rfl, length_table_map _ _ closureFields_length,
    length_table_map (count := 2) _ _ fun _ => rfl]

theorem signsReply_length (s : State) : (s.replyBytes .signs).length = 3520 := by
  rw [replyBytes_length]
  show ((allAddrs.flatMap _ ++ tableBytes ..) ++ recordBytes ..).length + 2 = 3520
  rw [List.length_append, List.length_append, length_record _ (linkFields_length s), length_table_map _ _ groupFields_length,
    length_flatMap_const (f := s.moduleRecord) (n := 294) fun a _ => length_record_if _ (moduleFields_length s a)]
  rfl

end Sys2Proof.Machine
end

section
/-! O53: the requests of the maintenance port and what its replies carry (R186 to R188, R192). -/

namespace Sys2Proof.Machine

variable {s : State}

/-! ### Requests (R186) -/

theorem snapshotOf_code (k : Snapshot) : snapshotOf k.code = some k := by cases k <;> rfl

theorem snapshotOf_none {c : Byte} (h : ∀ k : Snapshot, k.code ≠ c) : snapshotOf c = none := by
  unfold snapshotOf
  rw [if_neg fun e => h .station e.symm, if_neg fun e => h .measurement e.symm, if_neg fun e => h .neighbours e.symm,
    if_neg fun e => h .closures e.symm, if_neg fun e => h .signs e.symm]

theorem exec_requestByte (hs : s.stu.station ≠ .inReset) (b : Byte) :
    exec (.requestByte b) s = .next { s with mpt := s.portByte b } := congrArg Host.Outcome.next (if_neg hs)

section
variable {b c : Byte}

theorem portByte_idle (h : s.mpt.phase = .idle) : s.portByte b = { phase := .receiving, received := [b], request := none } := by
  unfold State.portByte; rw [h]

theorem portByte_second (h : s.mpt.phase = .receiving) (hc : s.mpt.received = [c]) : s.portByte b = s.answer c b := by
  unfold State.portByte; rw [h, hc]

theorem portByte_sending (h : s.mpt.phase = .replying ∨ ∃ r, s.mpt.phase = .refusing r) : s.portByte b = s.mpt := by
  unfold State.portByte
  rcases h with h | ⟨r, h⟩ <;> rw [h]

theorem answer_wrong (h : b ≠ ~~~c) : s.answer c b = .refuse .check := if_pos h

theorem answer_known {k : Snapshot} (h : b = ~~~c) (hk : k.code = c) :
    s.answer c b = { phase := .replying, received := [], request := some (k, s.replyBytes k) } := by
  unfold State.answer
  rw [if_neg (not_not_intro h), ← hk, snapshotOf_code]

theorem answer_unknown (h : b = ~~~c) (hk : ∀ k : Snapshot, k.code ≠ c) : s.answer c b = .refuse .unknown := by
  unfold State.answer
  rw [if_neg (not_not_intro h), snapshotOf_none hk]

end

theorem sending_of_phase (h : s.mpt.phase = .replying ∨ ∃ r, s.mpt.phase = .refusing r) : s.mpt.phase.sending = true := by
  rcases h with h | ⟨r, h⟩ <;> rw [h] <;> rfl

/-! ### Fields that R192 names one by one -/

theorem slotFields_eq (row : List Request) (lv : Level) :
    slotFields row lv =
      (List.range 10).map fun i => (((row.filter fun q => decide (q.level = lv)).map Request.field)[i]?).getD 0xFFFFFFFF := by
  have hslot : slotOf row lv = row.filter fun q => decide (q.level = lv) :=
    List.filter_congr fun q _ => by rw [Bool.eq_iff_iff]; simp
  refine List.ext_getElem? fun i => ?_
  rcases Nat.lt_or_ge i 10 with hi | hi
  · unfold slotFields
    rw [hslot, List.getElem?_map, List.getElem?_range hi, Option.map_some]
    generalize (row.filter fun q => decide (q.level = lv)).map Request.field = xs
    rcases Nat.lt_or_ge i xs.length with hx | hx
    · rw [List.getElem?_append_left (by rw [List.length_take]; omega), List.getElem?_take_of_lt hi,
        List.getElem?_eq_getElem hx, Option.getD_some]
    · rw [List.getElem?_append_right (by rw [List.length_take]; omega), List.getElem?_eq_none hx,
        List.getElem?_replicate_of_lt (by simp only [List.length_take]; omega)]
      rfl
  · rw [List.getElem?_eq_none (by rw [slotFields_length]; exact hi), List.getElem?_eq_none (by simpa using hi)]

theorem pairFields_eq (ls : List LaneEntry) :
    pairFields ls = (List.range 6).flatMap fun i =>
      [(ls[i]?.map (·.aspect.code)).getD 0xFFFFFFFF, (ls[i]?.map (·.status.code)).getD 0xFFFFFFFF] :=
  congrArg (fun f => (List.range 6).flatMap f) (funext fun i => by cases ls[i]? <;> rfl)

theorem summaryFields_eq (x : Option (List SummaryItem)) :
    summaryFields x = flagField x.isNone :: (List.range 8).flatMap fun i =>
      [((x.getD [])[i]?.map (·.id)).getD 0xFFFFFFFF, ((x.getD [])[i]?.map (·.gen.toNat)).getD 0xFFFFFFFF,
        ((x.getD [])[i]?.map (·.stage.code)).getD 0xFFFFFFFF] :=
  congrArg (fun f => flagField x.isNone :: (List.range 8).flatMap f) (funext fun i => by cases (x.getD [])[i]? <;> rfl)

/-- R56, R192: the field of an offset, up the road as a number and down the road coded. -/
theorem offsetField_eq (s : State) (p : Nat) :
    offsetField (s.offset p) =
      if s.position ≤ p then p - s.position else (Config.negativeOffset (s.position - p)).toNat := by
  unfold offsetField State.offset
  split
  case isTrue h => rw [if_pos (by omega)]; omega
  case isFalse h =>
    rw [if_neg (by omega)]
    have hdist : ((p : Int) - (s.position : Int)).natAbs = s.position - p := by omega
    rw [hdist]

/-- R192: a mask of lanes has a bit for each lane of the set. -/
theorem laneMask_testBit (ls : List Lane) (l : Lane) : (laneMask ls).testBit l.val = decide (l ∈ ls) := by
  have hbits : ∀ b0 b1 b2 b3 b4 b5 : Bool, ∀ l : Lane,
      ((if b0 then 1 else 0) + ((if b1 then 2 else 0) + ((if b2 then 4 else 0) + ((if b3 then 8 else 0) +
        ((if b4 then 16 else 0) + ((if b5 then 32 else 0) + 0))))) : Nat).testBit l.val =
      match l with
      | 0 => b0 | 1 => b1 | 2 => b2 | 3 => b3 | 4 => b4 | 5 => b5 := by decide
  have hmask := hbits (ls.contains 0) (ls.contains 1) (ls.contains 2) (ls.contains 3) (ls.contains 4) (ls.contains 5) l
  refine (show (laneMask ls).testBit l.val = _ from hmask).trans ?_
  rw [← List.contains_eq_mem]
  fin_cases l <;> rfl

/-! ### The records of each snapshot, field by field (R192) -/

theorem loopFields_eq (s : State) (l : Lane) (p : Loop) :
    s.loopFields l p =
      [l.val + 1, (if p = .a then 0 else 1), (if (s.loop l p).level = .clear then 0 else 1), (s.loop l p).fault.code,
        ((s.loop l p).kind.map FaultKind.code).getD 0xFFFFFFFF, (s.loop l p).occupiedMs, (s.loop l p).partnerWhileOccupied,
        (s.loop l p).partnerWhileClear, (s.loop l p).shortOccupancies, flagField (s.loop l p).cleanWindow] := by
  have hloop : loopCode p = if p = .a then 0 else 1 := by cases p <;> rfl
  have hlevel : levelCode (s.loop l p).level = if (s.loop l p).level = .clear then 0 else 1 := by
    cases (s.loop l p).level <;> rfl
  rw [← hloop, ← hlevel]
  rfl

theorem laneRecords_eq (s : State) (l : Lane) :
    s.laneRecords l = recordBytes 0x21#8 23 (if l.val < s.lanes then some (s.laneFields l) else none) ++
      tableBytes 0x22#8 7 8 (if l.val < s.lanes then (s.lane l).ring.map WindowRecord.fields else []) := by
  unfold State.laneRecords
  split <;> rfl

theorem neighbourFields_eq (s : State) (e : Neighbour) :
    s.neighbourFields e =
      [e.position, (e.cycle.map (·.toNat)).getD 0xFFFFFFFF, e.age, (e.restart.map (·.code.toNat)).getD 0xFFFFFFFF,
        flagField e.joining, flagField e.queue, flagField e.measInvalid, flagField e.isolatedDown, flagField e.signsDown,
        flagField e.clash, flagField e.tableFull, e.target.code, e.posted.code, e.laneCount] ++ pairFields e.lanes ++
      [e.version.toNat] ++ summaryFields e.summary ++ [offsetField (s.offset e.position)] := rfl

theorem rowFields_eq (a : Addr) (row : List Request) :
    rowFields a row = if a = lanternAddr then List.replicate 50 0xFFFFFFFF
      else (if a = legendAddr then [Level.roadClosed, .laneClosed, .incident, .queue, .blank]
        else [Level.closed, .divert, .speed, .endSign, .default]).flatMap (slotFields row) := by
  unfold rowFields levelsOf
  split
  · rfl
  · rfl

theorem request_field_eq (q : Request) : q.field =
    q.source.kindCode * 268435456 + q.aspect.code * 16777216 + (q.source.closureId * 65536 + q.source.low) := by
  unfold Request.field
  omega

/-- Settles O53. -/
theorem portAnswersRequests : Obligations.PortAnswersRequests := by
  refine ⟨fun s c b hs => ⟨fun hi => ?_, fun hr hc => ⟨fun hb => ?_, fun hb hk => ?_, fun k hb hk => ⟨?_, ?_, ?_⟩, ?_⟩,
      fun hsend => ⟨?_, ?_⟩⟩,
    fun s => ⟨fun ty count fs => ⟨?_, recordBytes_none ty count⟩, tableBytes_eq, fun k => ⟨rfl, byteSum_withChecksum _⟩,
      stationReply_length s, measurementReply_length s, neighboursReply_length s, closuresReply_length s, signsReply_length s,
      ?_, ?_, ?_, ?_, ?_⟩, ?_⟩
  · rw [exec_requestByte hs, portByte_idle hi]
  · rw [exec_requestByte hs, portByte_second hr hc, answer_wrong hb]; rfl
  · rw [exec_requestByte hs, portByte_second hr hc, answer_unknown hb hk]; rfl
  · rw [exec_requestByte hs, portByte_second hr hc, answer_known hb hk]
  · rw [← hk]; rfl
  · exact byteSum_withChecksum _
  · exact congrArg Host.Outcome.next (if_pos hr)
  · rw [exec_requestByte hs, portByte_sending hsend]
  · exact congrArg Host.Outcome.next (if_pos (sending_of_phase hsend))
  · rfl
  · show recordBytes 0x10#8 36 (some s.stationFields) ++ _ = _
    unfold State.stationFields
    cases s.spc.stages <;> rfl
  · refine congrArg₂ _ (congrArg₂ _ ?_ ?_) ?_
    · refine congrArg (fun f => allLanes.flatMap f) (funext fun l => ?_)
      have hboth : s.loopRecord l .a ++ s.loopRecord l .b = [Loop.a, .b].flatMap (s.loopRecord l) := by simp
      refine hboth.trans (congrArg (fun f => [Loop.a, .b].flatMap f) (funext fun p => ?_))
      unfold State.loopRecord
      rw [loopFields_eq]
    · refine congrArg (fun f => allLanes.flatMap f) (funext fun l => ?_)
      rw [laneRecords_eq]
      unfold State.laneFields
      dsimp only
      cases (s.lane l).window <;> cases (s.lane l).fast <;> cases (s.lane l).slow <;> rfl
    · cases s.msu.carriage <;> rfl
  · refine congrArg (fun f => tableBytes 0x30#8 53 12 (List.map f _)) (funext fun e => ?_)
    rw [neighbourFields_eq, pairFields_eq, summaryFields_eq, offsetField_eq]
    simp
  · refine congrArg₂ _ (congrArg₂ _ ?_ rfl) rfl
    refine congrArg (fun f => tableBytes 0x40#8 26 8 (List.map f _)) (funext fun r => ?_)
    unfold ClosureRecord.fields
    cases r.pendingMod <;> rfl
  · refine congrArg₂ _ (congrArg₂ _ ?_ ?_) ?_
    · refine congrArg (fun f => allAddrs.flatMap f) (funext fun a => ?_)
      unfold State.moduleRecord State.moduleFields
      dsimp only
      rw [rowFields_eq, funext (slotFields_eq _)]
      simp only [List.contains_iff_mem, List.append_assoc]
      rfl
    · refine congrArg (fun f => tableBytes 0x51#8 35 8 (List.map f _)) (funext fun g => ?_)
      refine congrArg (_ ++ ·) (congrArg (fun f => (List.range 8).flatMap f) (funext fun i => ?_))
      cases g.entries[i]? <;> rfl
    · show recordBytes 0x52#8 7 (some s.linkFields) = _
      unfold State.linkFields
      cases s.slc.transaction <;> rfl
  · refine ⟨rfl, rfl, rfl, rfl, rfl, rfl, rfl, rfl, rfl, rfl,
      rfl, rfl, rfl, rfl, rfl, rfl, rfl, rfl, rfl, rfl, rfl, fun _ => rfl, laneMask_testBit, fun q => ?_⟩
    refine (request_field_eq q).trans
      (congrArg₂ _ (congrArg (fun k => k * 268435456 + q.aspect.code * 16777216) ?_) ?_)
    · cases q.source <;> rfl
    · cases q.source <;> simp [Source.closureId, Source.low]

end Sys2Proof.Machine
end

section
/-! O52 fails as it stands: its clause on the orphan lanes that stay does not ask for a sound closure table. In a table that holds
an id twice, the end of JOIN handles the record of that id twice; the first time it absorbs its orphan lane, is proven DEGRADED
and takes its pending modification, and the second time it absorbs the orphan lane that the modification has added. -/

namespace Sys2Proof.Machine

/-- An AT record on lane 1 that waits for its lead, with a modification to lanes 1 to 3 pending. -/
def widening : ClosureRecord :=
  { id := 8, gen := 1#8, anchor := 212, firstLane := 1, width := 1, leadIn := 2, leadSpeed := .v60, role := some .atAnchor,
    localLanes := [0], fullClosure := false, stage := .waitLead, expiry := none, tombTime := none, waitTime := none, awaiting := [],
    legendWaits := false, substitution := [], pendingMod := some ⟨8, 2#8, 212, 1, 3, 2, .v60, 0⟩ }

/-- Station 212 with 3 lanes at the end of JOIN, lanes 1 and 3 orphans, with a table that holds the record twice. -/
def heldTwice : State :=
  { State.reset with
    stu := { Stu.reset with station := .join, joinTimer := some 0, straps := ⟨212#10, 3#3, 1#2, false, false⟩ }
    clt := { Clt.reset with records := [widening, widening], orphans := [0, 2] } }

/-- The first time the record of the id is handled, lane 3 stays an orphan and comes into the record. -/
theorem heldTwice_first :
    let w := Work.absorb [0, 2] ⟨heldTwice, false⟩ 8
    w.s.clt.orphans = [2] ∧ (w.s.record 8).map ClosureRecord.localLanes = some [0, 1, 2] := by decide +kernel

/-- The second time lane 3 is absorbed too. -/
theorem heldTwice_orphans : heldTwice.endJoin.clt.orphans = [] := by decide +kernel

/-- Refutes O52: lane 3 of `heldTwice` is an orphan that no record's local lanes hold, and it does not stay one. -/
theorem not_joinEndEntersRun : ¬ Obligations.JoinEndEntersRun := by
  intro h
  obtain ⟨u, hexec, -, -, -, -, hstays, -, -⟩ := h heldTwice rfl rfl
  have hu : heldTwice.endJoin = u := Host.Outcome.next.inj hexec
  have hheld : ∀ x ∈ heldTwice.clt.records, (2 : Lane) ∉ x.localLanes := by decide
  have hin := hstays 2 (by decide) fun x hx _ _ => hheld x hx
  rw [← hu, heldTwice_orphans] at hin
  cases hin

end Sys2Proof.Machine
end

section
/-! O51: what the end of discovery and the entry to JOIN leave (R20, R38, R49, R70, R154, R181, R182). -/

namespace Sys2Proof.Machine

variable {s t u : State} {a b : Addr} {m : Module} {d : Discovery} {l : Lane}

/-! ### Windows whose lanes have closed at most (R25) -/

/-- From `s` to `t` nothing of MSU has changed, but that windows may have noted that their lane is closed. -/
structure NotedClosed (s t : State) : Prop where
  msu : t.msu = { s.msu with lanes := t.msu.lanes }
  lane : ∀ l, t.lane l = s.lane l ∨ t.lane l = (s.lane l).sawClosed

theorem sawClosed_sawClosed (x : LaneState) : x.sawClosed.sawClosed = x.sawClosed := by
  unfold LaneState.sawClosed
  cases x.window <;> rfl

theorem NotedClosed.of_msu (h : t.msu = s.msu) : NotedClosed s t :=
  ⟨by rw [h], fun l => .inl (congrArg (·.lanes.get l) h)⟩

theorem NotedClosed.trans (h : NotedClosed s t) (g : NotedClosed t u) : NotedClosed s u := by
  refine ⟨by rw [g.msu, h.msu], fun l => ?_⟩
  rcases g.lane l with hg | hg <;> rcases h.lane l with hh | hh <;> rw [hg, hh]
  · exact .inl rfl
  · exact .inr rfl
  · exact .inr rfl
  · exact .inr (sawClosed_sawClosed _)

theorem settle_noted (s : State) : NotedClosed s s.settle := by
  refine ⟨settle_msu_lanes s, fun l => ?_⟩
  rw [settle_lane]
  split
  · exact .inr rfl
  · exact .inl rfl

theorem reviewRequests_noted (s : State) : NotedClosed s s.reviewRequests := by
  rw [reviewRequests_eq]
  exact (NotedClosed.of_msu (setRequests_rows s).msu).trans (settle_noted _)

theorem recompute_noted (s : State) : NotedClosed s s.recompute :=
  (NotedClosed.of_msu (s := s) (t := s.restage) rfl).trans (reviewRequests_noted s.restage)

theorem reviewProof_noted (s : State) : NotedClosed s s.reviewProof := by
  have hrun : WorkRun ⟨s, false⟩ (Work.reviewAll ⟨s, false⟩) :=
    reflTransGen_foldl _ (fun w id => (Relation.ReflTransGen.single (.prove w id)).tail (.drain _ id)) _ _
  have hsettled : NotedClosed s (Work.reviewAll ⟨s, false⟩).s.settle :=
    (NotedClosed.of_msu (s := s) (t := (Work.reviewAll ⟨s, false⟩).s) hrun.msu).trans (settle_noted _)
  rw [reviewProof_eq]
  rcases closureEvent_cases s Work.reviewAll with ⟨-, heq⟩ | ⟨-, heq⟩
  · rw [heq]; exact hsettled.trans (recompute_noted _)
  · rw [heq]; exact hsettled

theorem drive_noted (s : State) : NotedClosed s s.drive := .of_msu (drive_msu s)

theorem boundary_noted (s : State) : NotedClosed s s.boundary := .of_msu rfl

theorem afterTxn_noted (s : State) : NotedClosed s s.afterTxn := by
  unfold State.afterTxn
  split
  · exact ((boundary_noted s).trans (reviewProof_noted _)).trans (drive_noted _)
  · exact (boundary_noted s).trans (drive_noted _)

/-! ### The outputs after a transaction -/

theorem drive_stu_of (h : t.stu = s.stu) :
    t.drive.stu = { s.stu with runLit := s.runLevel, faultLit := t.drive.stu.faultLit } := by
  have hrun : t.runLevel = s.runLevel := by unfold State.runLevel; rw [h]
  rw [← hrun, ← h]
  rfl

theorem afterTxn_stu_eq (s : State) :
    s.afterTxn.stu = { s.stu with runLit := s.runLevel, faultLit := s.afterTxn.stu.faultLit } := by
  unfold State.afterTxn
  split
  · exact drive_stu_of (reviewProof_same s.boundary).stu
  · exact drive_stu_of (t := s.boundary) rfl

/-! ### The entry to JOIN (R182) -/

/-- R182, R20: the timers of JOIN run and window 0 is open. -/
def State.opened (s : State) : State := (s.startJoin.openWindows true).drive

/-- R70: the Speed Computer starts from its target. -/
def State.started (s : State) : State :=
  { s.opened with spc := { s.opened.spc with
      isolatedDown := !s.opened.stu.straps.terminal
      stages := some { l1 := s.opened.spc.target, d := none, lq := .unlimited, lc := .unlimited, lop := .unlimited,
                       c := s.opened.spc.target, c2 := s.opened.spc.target } } }

theorem enterJoin_eq (s : State) : s.enterJoin = s.started.reviewRequests := rfl

theorem enterJoin_same (s : State) : SameButAsa s.started s.enterJoin := by
  rw [enterJoin_eq]
  exact reviewRequests_same _

theorem started_stu (s : State) : s.started.stu =
    { s.stu with
      station := .join, joinTimer := some 5000, runLit := s.started.stu.runLit, faultLit := s.started.stu.faultLit } := rfl

/-- R181, R182: the state with the entry to JOIN done and the last transaction of discovery over. -/
def State.joined (s : State) : State := s.enterJoin.drive.afterTxn

theorem enterJoin_onBus (s : State) : s.enterJoin.drive.onBus = true := by
  have hstation : s.enterJoin.drive.stu.station = .join := by rw [drive_station, (enterJoin_same s).stu, started_stu]
  unfold State.onBus
  rw [hstation]
  rfl

theorem joined_stu (s : State) : s.joined.stu =
    { s.stu with station := .join, joinTimer := some 5000, runLit := false, faultLit := s.joined.stu.faultLit } := by
  have hstation : s.enterJoin.drive.stu.station = .join := by rw [drive_station, (enterJoin_same s).stu, started_stu]
  have hrun : s.enterJoin.drive.runLevel = false := by unfold State.runLevel; rw [hstation]; rfl
  have hafter := afterTxn_stu_eq s.enterJoin.drive
  rw [hrun, drive_stu_of (enterJoin_same s).stu, started_stu] at hafter
  exact hafter

/-- What the entry to JOIN changes. -/
theorem joined_sameBut (s : State) : s.sameBut [.stu, .msu, .crl, .spc, .clt, .asa] s.joined := by
  have hopened : s.sameBut [.stu, .msu, .crl, .spc] s.started := by
    simp [State.sameBut, State.started, State.opened, State.drive, State.startJoin, State.openWindows]
  have hreview : s.started.sameBut [.msu, .asa] s.enterJoin := (enterJoin_same s).sameBut
  exact ((hopened.mono (by simp)).trans (hreview.mono (by simp))).trans
    (((drive_sameBut _).mono (by simp)).trans ((afterTxn_reads _).mono (by simp)))

theorem joined_crl (s : State) :
    s.joined.crl = { s.crl with beatTimer := some (s.position * 37 % 1000), announceOwed := true } := by
  have hcrl : s.joined.crl = s.enterJoin.drive.crl := (afterTxn_reads s.enterJoin.drive).2.2.2.1.resolve_left (by simp)
  rw [hcrl, drive_crl, (enterJoin_same s).crl]
  rfl

theorem joined_slc (s : State) : s.joined.slc = s.slc := by
  rw [State.joined, afterTxn_slc, drive_slc, (enterJoin_same s).slc]
  rfl

theorem joined_noted (s : State) : NotedClosed s.opened s.joined := by
  have hstart : NotedClosed s.opened s.started := .of_msu rfl
  have hreview : NotedClosed s.started s.enterJoin := by rw [enterJoin_eq]; exact reviewRequests_noted _
  exact (hstart.trans hreview).trans ((drive_noted _).trans (afterTxn_noted _))

theorem opened_lane (hl : l.val < s.lanes) :
    s.opened.lane l = (s.lane l).openWindow (openAccum s.msu.nextSeq s.lpi.ms true
      ((s.display (laneAddr l)).winner == .redX) (s.loop l .a).fault (s.loop l .b).fault) :=
  openWindows_lane (s := s.startJoin) hl true

theorem joined_windowTimer (s : State) : s.joined.msu.windowTimer = some 15000 := by
  rw [(joined_noted s).msu]
  rfl

theorem joined_nextSeq (s : State) : s.joined.msu.nextSeq = s.msu.nextSeq + 1 := by
  rw [(joined_noted s).msu]
  rfl

/-- R20, R21: window 0 of a lane in use. -/
theorem joined_window (hl : l.val < s.lanes) : ∃ w, (s.joined.lane l).window = some w ∧ w.seq = s.msu.nextSeq ∧
    w.startSeen = true ∧ w.count = 0 ∧ w.occMs = 0 ∧ w.creditedTo = s.lpi.ms := by
  rcases (joined_noted s).lane l with h | h
  · rw [h, opened_lane hl]
    exact ⟨_, rfl, rfl, rfl, rfl, rfl, rfl⟩
  · rw [h, opened_lane hl]
    exact ⟨_, rfl, rfl, rfl, rfl, rfl, rfl⟩

/-! ### The end of a transaction on the bus, with no closure -/

section
variable (hbus : s.onBus = true) (h : s.clt.records = [])
include hbus h

/-- Nothing is left to prove; the displays are settled. -/
theorem afterTxn_eq_of_none : s.afterTxn = s.boundary.settle.drive := by
  have hclt : s.boundary.clt.records = [] := h
  have hsound : s.boundary.clt.sound := by
    unfold Clt.sound
    rw [hclt]
    simp
  have hquiet : s.boundary.proofSettled := fun x hx => by
    rw [hclt] at hx
    cases hx
  rw [State.afterTxn, if_pos hbus, reviewProof_of_settled hsound hquiet]

theorem afterTxn_target_of_none : s.afterTxn.spc.target = s.spc.target := by
  rw [afterTxn_eq_of_none hbus h, drive_target, (settle_same s.boundary).spc]
  rfl

theorem afterTxn_isolatedDown_of_none : s.afterTxn.spc.isolatedDown = s.spc.isolatedDown := by
  rw [afterTxn_eq_of_none hbus h, drive_isolatedDown, (settle_same s.boundary).spc]
  rfl

theorem afterTxn_clt_of_none : s.afterTxn.clt = s.clt := by
  rw [afterTxn_eq_of_none hbus h, drive_clt, (settle_same s.boundary).clt]
  rfl

theorem mem_afterTxn_row_of_none {q : Request} (hq : q.level ≠ .closed ∨ q.source ≠ .enclosed) (a : Addr) :
    q ∈ (s.afterTxn.display a).row ↔ q ∈ (s.display a).row := by
  rw [afterTxn_eq_of_none hbus h, drive_display, mem_settle_row hq, boundary_display]

/-- Displays that have just been settled are settled once more, to no effect. -/
theorem afterTxn_shown_of_none (hsettled : Settled t s) (a : Addr) :
    (s.afterTxn.display a).ordered = (s.display a).ordered ∧
      (s.afterTxn.display a).winner = (s.display a).winner ∧ (s.afterTxn.display a).form = (s.display a).form := by
  have hboundary : Settled t s.boundary := ⟨hsettled.lanes, hsettled.form, ⟨hsettled.display.display⟩⟩
  obtain ⟨hordered, hwinner, hform, -⟩ := hboundary.settle.1 a
  rw [afterTxn_eq_of_none hbus h, drive_display]
  exact ⟨hordered, hwinner, hform⟩

end

/-! ### The Speed Computer at the entry to JOIN, with no closure (R70) -/

theorem started_target (s : State) : s.started.spc.target = s.spc.target :=
  show s.opened.spc.target = s.spc.target by rw [State.opened, drive_target]; rfl

theorem enterJoin_driven (s : State) : s.enterJoin.drive.clt = s.clt ∧ s.enterJoin.drive.slc = s.slc ∧
    s.enterJoin.drive.lanes = s.started.setRequests.lanes := by
  have hsame := enterJoin_same s
  have hrows := (setRequests_rows s.started).same
  refine ⟨by rw [drive_clt, enterJoin_clt], ?_, ?_⟩
  · rw [drive_slc, hsame.slc]
    rfl
  · unfold State.lanes
    rw [drive_straps, hsame.stu, hrows.stu]

theorem enterJoin_settled (s : State) : Settled s.started.setRequests s.enterJoin.drive := by
  obtain ⟨-, hslc, hlanes⟩ := enterJoin_driven s
  have hrows : s.started.setRequests.slc = s.slc := by
    rw [(setRequests_rows s.started).same.slc]
    rfl
  refine ⟨hlanes, fun b w => ?_, ⟨fun b => ?_⟩⟩
  · unfold State.mod
    rw [hslc, hrows]
  · rw [drive_display, enterJoin_eq, reviewRequests_eq]
    exact (formEntries_sameButOrdered _ _).display b

section
variable (h : s.clt.records = [])
include h

theorem enterJoin_noRecords : s.enterJoin.drive.clt.records = [] := by rw [(enterJoin_driven s).1, h]

theorem joined_spc : s.joined.spc.target = s.spc.target ∧ s.joined.spc.isolatedDown = !s.stu.straps.terminal := by
  have hbus := enterJoin_onBus s
  have hnone := enterJoin_noRecords h
  constructor
  · rw [State.joined, afterTxn_target_of_none hbus hnone, drive_target, (enterJoin_same s).spc, started_target]
  · rw [State.joined, afterTxn_isolatedDown_of_none hbus hnone, drive_isolatedDown, (enterJoin_same s).spc]
    rfl

theorem joined_clt : s.joined.clt = s.clt := by
  rw [State.joined, afterTxn_clt_of_none (enterJoin_onBus s) (enterJoin_noRecords h), (enterJoin_driven s).1]

/-- The displays that the entry to JOIN has settled stand. -/
theorem joined_shown (a : Addr) :
    (s.joined.display a).ordered = (s.enterJoin.display a).ordered ∧
      (s.joined.display a).winner = (s.enterJoin.display a).winner ∧ (s.joined.display a).form = (s.enterJoin.display a).form := by
  have hshown := afterTxn_shown_of_none (enterJoin_onBus s) (enterJoin_noRecords h) (enterJoin_settled s) a
  rw [drive_display] at hshown
  exact hshown

theorem mem_joined_row {q : Request} (hq : q.level ≠ .closed ∨ q.source ≠ .enclosed) (a : Addr) :
    q ∈ (s.joined.display a).row ↔ q ∈ (s.started.setRequests.display a).row := by
  rw [State.joined, mem_afterTxn_row_of_none (enterJoin_onBus s) (enterJoin_noRecords h) hq, drive_display, enterJoin_eq,
    reviewRequests_eq, mem_settle_row hq]

end

end Sys2Proof.Machine
end

section
/-! O51: the replies to discovery's PROOF and BLANK (R161, R181). -/

namespace Sys2Proof.Machine

variable {s : State} {a b : Addr} {rest : List Addr} {m : Module} {d : Discovery} {r : Bool}

/-- R161: discovery's PROOF or BLANK answered, another module found to go on with. -/
theorem exec_dealtWith_more {c : Instr} (hexec : exec c s = .next (s.txnOver.dealtWith a m).afterTxn)
    (hs : s.stu.station = .discover) (hd : s.slc.discovery = some d) (hact : d.acting = a :: b :: rest) :
    ∃ u, exec c s = .next u ∧
      (s.sameBut [.stu, .asa, .slc] u ∧ u.stu.station = .discover ∧ u.slc.transaction = none ∧ ∀ c, c ≠ a → u.mod c = s.mod c) ∧
      u.mod a = m ∧
      u.slc.discovery = some { d with acting := b :: rest, firstReply := none, lastReply := none, proofDue := true } := by
  obtain ⟨hframe, hstation, hmod, hother, hslc⟩ := discovery_after hs a m
    (some { d with acting := b :: rest, firstReply := none, lastReply := none, proofDue := true })
  exact ⟨_, exec_outcome hexec (dealtWith_more (s := s.txnOver) m hd hact), ⟨hframe, hstation,
    (congrArg Slc.transaction hslc :), hother⟩, hmod, (congrArg Slc.discovery hslc :)⟩

/-! ### The outcome of discovery's PROOF -/

theorem discoveryProof_steady (s : State) (a : Addr) {p : ProofReply} (hh : p.health ≠ .fail) (hp : p.transition = false) :
    s.discoveryProof a p = s.dealtWith a ({ s.mod a with discoveryLit := some p.lit }.steady p) := by
  unfold State.discoveryProof
  dsimp only
  rw [if_neg hh, if_neg (by rw [hp]; decide)]

theorem discoveryProof_fail (s : State) (a : Addr) {p : ProofReply} (hh : p.health = .fail) :
    s.discoveryProof a p = s.dealtWith a { s.mod a with discoveryLit := some p.lit }.failDiscovery := if_pos hh

theorem discoveryProof_transition (a : Addr) {p : ProofReply} (hh : p.health ≠ .fail) (hp : p.transition = true)
    (hd : s.slc.discovery = some d) :
    s.discoveryProof a p =
      { s.setMod a { s.mod a with discoveryLit := some p.lit } with slc :=
        { (s.setMod a { s.mod a with discoveryLit := some p.lit }).slc with
          discovery := some { d with firstReply := some (d.firstReply.getD 0), lastReply := some 0, proofDue := false } } } := by
  unfold State.discoveryProof
  dsimp only
  rw [if_neg hh, if_pos hp, hd]

section
variable (ht : s.slc.transaction = some ⟨a, .proof, .discovery, r⟩) (hhead : s.discoveryHead = some a)
include ht hhead

theorem exec_discoveryProof {x : Aspect} {st health tag : Byte} {tr : Bool} {hl : Health} (hst : transitionOf st = some tr)
    (hhealth : healthOf health = some hl) :
    exec (.proofComplete (withChecksum [BitVec.ofNat 8 (a.val + 1), 0x01#8, BitVec.ofNat 8 x.code, st, health, tag])) s =
      .next (s.txnOver.discoveryProof a ⟨x, tr, hl, tag⟩).afterTxn :=
  exec_outcome (exec_proofComplete ht rfl (replyOf_proof rfl x hst hhealth)) (if_pos hhead)

theorem exec_discoveryRefused :
    exec (.proofComplete (withChecksum [BitVec.ofNat 8 (a.val + 1), 0x02#8])) s =
      .next (s.txnOver.dealtWith a (s.mod a).failDiscovery).afterTxn :=
  exec_outcome (exec_proofComplete ht rfl replyOf_refuse) (if_pos hhead)

theorem exec_discoveryMissing (hr : r = true) :
    exec .replyTimeout s = .next (s.txnOver.dealtWith a (s.mod a).failDiscovery).afterTxn :=
  exec_outcome (exec_replyTimeout_ended ht (by rw [hr]; rfl)) (if_pos hhead)

end

/-! ### The last module found -/

/-- R161, R181: discovery is over, the last found module's entry made. -/
def State.discovered (s : State) (a : Addr) (m : Module) : State :=
  ({ s.setMod a m with slc := { (s.setMod a m).slc with discovery := none } } : State).takeOrdered

theorem dealtWith_last (m : Module) (hd : s.slc.discovery = some d) (hact : d.acting = [a]) :
    (s.stu.restart = .cold → s.dealtWith a m = (s.discovered a m).enterJoin.drive) ∧
      (s.stu.restart = .keep → s.dealtWith a m = (s.discovered a m).takeLitTarget.seedOrphans.enterJoin.drive) := by
  unfold State.dealtWith
  dsimp only
  rw [setMod_discovery, hd]
  dsimp only
  rw [hact, if_pos (by rfl)]
  unfold State.endDiscovery
  constructor <;> intro hrestart <;> dsimp only
  · have hcold : (s.discovered a m).stu.restart = .cold := hrestart
    unfold State.discovered at hcold ⊢
    split
    · rfl
    · next hkeep => exact absurd (hcold.symm.trans hkeep) (by decide)
  · have hkeep : (s.discovered a m).stu.restart = .keep := hrestart
    unfold State.discovered at hkeep ⊢
    split
    · next hcold => exact absurd (hkeep.symm.trans hcold) (by decide)
    · rfl

theorem discovered_slc (s : State) (a : Addr) (m : Module) :
    (s.discovered a m).slc = { s.slc with modules := s.slc.modules.set a m, discovery := none } := rfl

theorem discovered_mod (s : State) (a : Addr) (m : Module) (c : Addr) :
    (s.discovered a m).mod c = if c = a then m else s.mod c := mod_setMod ..

theorem discovered_row (s : State) (a : Addr) (m : Module) (c : Addr) :
    ((s.discovered a m).display c).row = (s.display c).row := takeOrdered_row ..

/-- R181: the last found module has accepted discovery's BLANK. -/
theorem exec_lastBlank (ht : s.slc.transaction = some ⟨a, .blank, .discovery, r⟩) (hcold : s.stu.restart = .cold)
    (hd : s.slc.discovery = some d) (hi : d.identing = []) (hact : d.acting = [a]) :
    exec (.blankComplete (withChecksum [BitVec.ofNat 8 (a.val + 1), 0x01#8])) s =
      .next (s.txnOver.discovered a ((s.mod a).blanked a)).joined := by
  have hhead := discoveryHead_acting hd hi hact
  have hlast : s.txnOver.dealtWith a ((s.mod a).blanked a) = _ := (dealtWith_last (s := s.txnOver) _ hd hact).1 hcold
  have hout : s.txnOver.outcome ⟨a, .blank, .discovery, r⟩ (some .accept) = s.txnOver.dealtWith a ((s.mod a).blanked a) :=
    if_pos hhead
  exact exec_outcome (exec_blankComplete ht rfl (replyOf_accept [])) (hout.trans hlast)

/-- R161, R181: the last found module has answered discovery's PROOF with STEADY. -/
theorem exec_lastProof {x : Aspect} {tag : Tag} (ht : s.slc.transaction = some ⟨a, .proof, .discovery, r⟩)
    (hkeep : s.stu.restart = .keep) (hd : s.slc.discovery = some d) (hi : d.identing = []) (hact : d.acting = [a]) :
    exec (.proofComplete (withChecksum [BitVec.ofNat 8 (a.val + 1), 0x01#8, BitVec.ofNat 8 x.code, 0x00#8, 0x00#8, tag])) s =
      .next (s.txnOver.discovered a
        ({ s.mod a with discoveryLit := some x }.steady ⟨x, false, .ok, tag⟩)).takeLitTarget.seedOrphans.joined := by
  have hhead := discoveryHead_acting hd hi hact
  have hlast : s.txnOver.dealtWith a ({ s.mod a with discoveryLit := some x }.steady ⟨x, false, .ok, tag⟩) = _ :=
    (dealtWith_last (s := s.txnOver) _ hd hact).2 hkeep
  exact exec_outcome (exec_discoveryProof ht hhead rfl rfl)
    ((discoveryProof_steady s.txnOver a (p := ⟨x, false, .ok, tag⟩) (by simp) rfl).trans hlast)

/-! ### The speed requests at the entry to JOIN (R87) -/

theorem speed_mem_joined (h : s.clt.records = []) {l : Lane} (hl : l.val < s.lanes) (x : Aspect) :
    ⟨.speed, .spc, x⟩ ∈ (s.joined.display (laneAddr l)).row ↔ s.spc.target.aspect = some x := by
  rw [mem_joined_row h (.inl (by simp)), speed_mem_setRequests (s := s.started) hl, started_target]

end Sys2Proof.Machine
end

section
/-! O51: discovery ends in JOIN (R161, R181, R182). -/

namespace Sys2Proof.Machine

variable {s : State}

/-- R161: the replies of a found module to discovery's PROOF, when more modules are to come. -/
theorem discoveryProof_replies (s : State) (a b : Addr) (rest : List Addr) (r : Bool) (x : Aspect) (tag : Tag) (d : Discovery)
    (ht : s.slc.transaction = some ⟨a, .proof, .discovery, r⟩) (hs : s.stu.station = .discover)
    (hd : s.slc.discovery = some d) (hi : d.identing = []) (hact : d.acting = a :: b :: rest) :
    let reply := fun (state health : Byte) =>
      withChecksum [BitVec.ofNat 8 (a.val + 1), 0x01#8, BitVec.ofNat 8 x.code, state, health, tag]
    let steady := fun (h : Health) => { s.mod a with discoveryLit := some x }.steady ⟨x, false, h, tag⟩
    let frame := fun (u : State) => s.sameBut [.stu, .asa, .slc] u ∧ u.stu.station = .discover ∧
      u.slc.transaction = none ∧ ∀ c, c ≠ a → u.mod c = s.mod c
    let next : Discovery := { d with acting := b :: rest, firstReply := none, lastReply := none, proofDue := true }
    (∃ u, exec (.proofComplete (reply 0x00#8 0x00#8)) s = .next u ∧ frame u ∧ u.mod a = steady .ok ∧ u.slc.discovery = some next) ∧
    (∃ u, exec (.proofComplete (reply 0x00#8 0x01#8)) s = .next u ∧ frame u ∧ u.mod a = steady .degraded ∧
      u.slc.discovery = some next) ∧
    (∀ h : Byte, h = 0x00#8 ∨ h = 0x01#8 →
      ∃ u, exec (.proofComplete (reply 0x01#8 h)) s = .next u ∧ frame u ∧ u.mod a = { s.mod a with discoveryLit := some x } ∧
      u.slc.discovery = some
        { d with firstReply := some (d.firstReply.getD 0), lastReply := some 0, proofDue := false }) ∧
    (∃ u, exec (.proofComplete (reply 0x00#8 0x02#8)) s = .next u ∧ frame u ∧
      u.mod a = { s.mod a with discoveryLit := some x }.failDiscovery ∧ u.slc.discovery = some next) ∧
    (∃ u, exec (.proofComplete (withChecksum [BitVec.ofNat 8 (a.val + 1), 0x02#8])) s = .next u ∧ frame u ∧
      u.mod a = (s.mod a).failDiscovery ∧ u.slc.discovery = some next) ∧
    (r = true → ∃ u, exec .replyTimeout s = .next u ∧ frame u ∧ u.mod a = (s.mod a).failDiscovery ∧
      u.slc.discovery = some next) := by
  intro reply steady frame next
  have hhead := discoveryHead_acting hd hi hact
  refine ⟨?_, ?_, fun h hh => ?_, ?_, ?_, fun hr => ?_⟩
  · exact exec_dealtWith_more (exec_outcome (exec_discoveryProof ht hhead rfl rfl)
      (discoveryProof_steady s.txnOver a (p := ⟨x, false, .ok, tag⟩) (by simp) rfl)) hs hd hact
  · exact exec_dealtWith_more (exec_outcome (exec_discoveryProof ht hhead rfl rfl)
      (discoveryProof_steady s.txnOver a (p := ⟨x, false, .degraded, tag⟩) (by simp) rfl)) hs hd hact
  · obtain ⟨hframe, hstation, hmod, hother, hslc⟩ := discovery_after hs a { s.mod a with discoveryLit := some x }
      (some { d with firstReply := some (d.firstReply.getD 0), lastReply := some 0, proofDue := false })
    exact ⟨_, exec_outcome (exec_discoveryProof ht hhead rfl (healthOf_good hh))
      (discoveryProof_transition (s := s.txnOver) a (p := ⟨x, true, goodHealth h, tag⟩) (goodHealth_ne_fail h) rfl hd),
      ⟨hframe, hstation, (congrArg Slc.transaction hslc :), hother⟩, hmod, (congrArg Slc.discovery hslc :)⟩
  · exact exec_dealtWith_more (exec_outcome (exec_discoveryProof ht hhead rfl rfl)
      (discoveryProof_fail s.txnOver a (p := ⟨x, false, .fail, tag⟩) rfl)) hs hd hact
  · exact exec_dealtWith_more (exec_discoveryRefused ht hhead) hs hd hact
  · exact exec_dealtWith_more (exec_discoveryMissing ht hhead hr) hs hd hact

/-- R181, R182: a cold restart's discovery ends with the last BLANK. -/
theorem coldDiscovery_ends (s : State) (a : Addr) (r : Bool) (d : Discovery)
    (ht : s.slc.transaction = some ⟨a, .blank, .discovery, r⟩) (hcold : s.stu.restart = .cold)
    (hd : s.slc.discovery = some d) (hi : d.identing = []) (hact : d.acting = [a]) :
    ∃ u, exec (.blankComplete (withChecksum [BitVec.ofNat 8 (a.val + 1), 0x01#8])) s = .next u ∧
      u.stu.station = .join ∧ u.stu.joinTimer = some 5000 ∧ u.stu.straps = s.stu.straps ∧ u.stu.runLit = false ∧
      u.crl = { s.crl with beatTimer := some (s.position * 37 % 1000), announceOwed := true } ∧
      u.lpi = s.lpi ∧ u.nbt = s.nbt ∧ u.mpt = s.mpt ∧
      u.slc.discovery = none ∧ u.slc.transaction = none ∧ (u.mod a).state = .ready ∧ (u.mod a).proven = some (darkAspect a) ∧
      u.msu.windowTimer = some 15000 ∧ u.msu.nextSeq = s.msu.nextSeq + 1 ∧
      (∀ l : Lane, l.val < s.lanes → ∃ w, (u.lane l).window = some w ∧ w.seq = s.msu.nextSeq ∧ w.startSeen = true ∧
        w.count = 0 ∧ w.occMs = 0 ∧ w.creditedTo = s.lpi.ms) ∧
      (s.clt.records = [] → u.spc.target = s.spc.target ∧ (u.spc.isolatedDown = true ↔ s.stu.straps.terminal = false) ∧
        ∀ l : Lane, l.val < s.lanes → ∀ x, ⟨.speed, .spc, x⟩ ∈ (u.display (laneAddr l)).row ↔ s.spc.target.aspect = some x) := by
  let D := s.txnOver.discovered a ((s.mod a).blanked a)
  have hslc : D.joined.slc = { s.txnOver.slc with modules := s.slc.modules.set a ((s.mod a).blanked a), discovery := none } :=
    (joined_slc D).trans rfl
  have hmod : D.joined.mod a = (s.mod a).blanked a := by
    unfold State.mod
    rw [joined_slc]
    exact (discovered_mod s.txnOver a _ a).trans (if_pos rfl)
  obtain ⟨-, hlpi, -, -, hnbt, -, -, -, -, hmpt, -⟩ := joined_sameBut D
  have hstu := joined_stu D
  refine ⟨D.joined, exec_lastBlank ht hcold hd hi hact, ?_⟩
  refine ⟨by rw [hstu], by rw [hstu], by rw [hstu]; rfl, by rw [hstu], joined_crl D, hlpi.resolve_left (by simp),
    hnbt.resolve_left (by simp), hmpt.resolve_left (by simp), by rw [hslc], by rw [hslc]; rfl, by rw [hmod]; rfl,
    by rw [hmod]; rfl, joined_windowTimer D, joined_nextSeq D, fun l hl => joined_window (s := D) hl, fun hnone => ?_⟩
  obtain ⟨htarget, hisolated⟩ := joined_spc (s := D) hnone
  refine ⟨htarget, ?_, fun l hl x => speed_mem_joined (s := D) hnone hl x⟩
  rw [hisolated, Bool.not_eq_true']
  rfl

end Sys2Proof.Machine
end

section
/-! O51: the orphans and the orders that a keep restart's discovery leaves (R132, R146, R154). -/

namespace Sys2Proof.Machine

variable {s t : State} {a : Addr} {l : Lane} {q : Request}

/-! ### Winners of lanes without an arrow (R141, R143) -/

theorem rowBaseWinner_spec {row : List Request} (hsorted : RowSorted row) (hq : q ∈ row) (he : q.source ≠ .enclosed) :
    ∃ w ∈ row, w.source ≠ .enclosed ∧ rowBaseWinner row = w.aspect ∧
      ∀ x ∈ row, x.source ≠ .enclosed → w.level.order ≤ x.level.order := by
  obtain ⟨w, hw, hwin, hleast⟩ := rowWinner_spec (hsorted.filter _) (List.ne_nil_of_mem (mem_unenclosed.2 ⟨hq, he⟩))
  obtain ⟨hmem, hwe⟩ := mem_unenclosed.1 hw
  exact ⟨w, hmem, hwe, hwin, fun x hx hxe => (hleast x (mem_unenclosed.2 ⟨hx, hxe⟩)).1⟩

/-- The winner of an event at a lane whose row gives no arrow. -/
theorem settle_winner_of_base (hl : l.val < s.lanes) (ha : (rowBaseWinner (s.display (laneAddr l)).row).isArrow = false) :
    (s.settle.display (laneAddr l)).winner = rowBaseWinner (s.display (laneAddr l)).row := by
  have hbase : s.baseWinners.get l = rowBaseWinner (s.display (laneAddr l)).row := by
    unfold State.baseWinners
    rw [Per6.get_build, if_pos hl]
  exact (settle_of_not_arrow hl hbase ha).1

theorem settle_lane_of_not_red (h : (s.settle.display (laneAddr l)).winner ≠ .redX) : s.settle.lane l = s.lane l := by
  rw [settle_lane, if_neg fun g => h g.1]

/-! ### The orders of READY modules -/

/-- R154, R146: a module has its lit aspect ordered while its winner is dark, and its displayable form else. -/
structure LitOrdered (s : State) (a : Addr) : Prop where
  form : ((s.display a).form, (s.display a).limited) = (s.mod a).form (s.display a).winner
  ordered : (s.display a).ordered =
    if (s.display a).winner = darkAspect a then (s.mod a).proven.getD (darkAspect a) else (s.display a).form

theorem LitOrdered.congr (h : LitOrdered s a) (hm : t.mod a = s.mod a)
    (hd : ∃ row, t.display a = { s.display a with row := row }) : LitOrdered t a := by
  obtain ⟨row, hd⟩ := hd
  refine ⟨?_, ?_⟩
  · rw [hd, hm]
    exact h.form
  · rw [hd, hm]
    exact h.ordered

theorem settle_form (ha : a ∈ s.moduleAddrs) :
    ((s.settle.display a).form, (s.settle.display a).limited) = (s.mod a).form (s.settle.display a).winner := by
  obtain ⟨x, hx⟩ := settle_display s a
  rw [hx]
  exact settledDisplay_form ha

theorem formEntries_other {as : List Addr} (h : a ∉ as) : (s.formEntries as).display a = s.display a := by
  have hentries : ∀ e ∈ as.filterMap s.changeEntry, e.addr ≠ a := fun e he hea => by
    obtain ⟨b, hb, hchange⟩ := List.mem_filterMap.1 he
    obtain rfl : b = a := (changeEntry_addr hchange).1.symm.trans hea
    exact h hb
  show ((s.orderAbsent as).placeEntries (as.filterMap s.changeEntry)).display a = s.display a
  rw [placeEntries_display_other hentries, orderAbsent_display, if_neg fun g => h g.1]

/-- R146: an event orders a changed module's form, and leaves the order of another one. -/
theorem settle_ordered (ha : a ∈ s.moduleAddrs) (hr : (s.mod a).state = .ready)
    (hform : ((s.display a).form, (s.display a).limited) = (s.mod a).form (s.display a).winner) :
    (s.settle.display a).ordered =
      if (s.settle.display a).winner = (s.display a).winner then (s.display a).ordered else (s.settle.display a).form := by
  obtain ⟨x, hx⟩ := (formEntries_sameButOrdered s.settleTable (changedModules s s.settleTable)).display a
  have hshown : s.settle.display a = { s.settleTable.display a with ordered := x } := hx
  have hpairs : (changedModules s s.settleTable).Pairwise (· < ·) := moduleAddrs_pairwise.filter _
  split
  case isTrue hw =>
    have hsame := settle_form ha
    rw [hw, ← hform, hshown] at hsame
    rw [hshown] at hw
    have hout : a ∉ changedModules s s.settleTable := fun hin => by
      rcases (mem_changedModules.1 hin).2 with h | h | h
      · exact h hw
      · exact h (congrArg Prod.fst hsame)
      · exact h (congrArg Prod.snd hsame)
    have hkept : (s.settle.display a).ordered = (s.settleTable.display a).ordered :=
      congrArg Display.ordered (formEntries_other hout)
    rw [hkept, settleTable_display, settledDisplay_ordered]
  case isFalse hw =>
    have hin : a ∈ changedModules s s.settleTable := by
      rw [hshown] at hw
      exact mem_changedModules.2 ⟨ha, .inl hw⟩
    have hready : (s.settleTable.mod a).state = .ready := hr
    have hordered : (s.settle.display a).ordered = (s.settleTable.display a).form :=
      formEntries_ordered hpairs hin (by rw [hready]; decide) (by rw [hready]; decide)
    rw [hordered, hshown]

theorem LitOrdered.settle (h : LitOrdered s a) (ha : a ∈ s.moduleAddrs) (hr : (s.mod a).state = .ready)
    (hlit : (s.display a).winner ≠ darkAspect a → (s.settle.display a).winner ≠ darkAspect a) : LitOrdered s.settle a := by
  have hmod : s.settle.mod a = s.mod a := by
    unfold State.mod
    rw [(settle_same s).slc]
  have hform := settle_form ha
  refine ⟨by rw [hmod]; exact hform, ?_⟩
  rw [settle_ordered ha hr h.form, hmod]
  by_cases hw : (s.settle.display a).winner = (s.display a).winner
  · have hsame : (s.settle.display a).form = (s.display a).form := by
      rw [hw, ← h.form] at hform
      exact congrArg Prod.fst hform
    rw [if_pos hw, h.ordered, hw, hsame]
  · rw [if_neg hw, if_neg]
    intro hdark
    exact hw (hdark.trans (not_not.1 fun hne => hlit hne hdark).symm)

end Sys2Proof.Machine
end

section
/-! O51: the orphans seeded at the end of a keep restart's discovery, and the entry to JOIN after them (R132, R182). -/

namespace Sys2Proof.Machine

variable {s t : State} {a : Addr} {l : Lane} {q : Request}

/-! ### The signs of a part that has not settled an event yet (R154) -/

/-- R154: the displays are those after reset, but for the orders. -/
def State.freshSigns (s : State) : Prop := ∀ a, ∃ x, s.display a = { Asa.reset.modules.get a with ordered := x }

theorem reset_lane (l : Lane) : Asa.reset.modules.get (laneAddr l) = .laneReset := by
  revert l
  decide

theorem reset_dark (a : Addr) : (Asa.reset.modules.get a).winner = darkAspect a ∧
    ((Asa.reset.modules.get a).form, (Asa.reset.modules.get a).limited) = (darkAspect a, false) := by
  revert a
  decide

theorem form_dark (m : Module) (a : Addr) : m.form (darkAspect a) = (darkAspect a, false) := by
  have hdark : canShow m.repertoire (darkAspect a) = true := by
    unfold darkAspect
    split <;> rfl
  by_cases h : m.state = .absent
  · exact form_absent h _
  · exact form_shown h hdark

section
variable (h : s.freshSigns)
include h

theorem freshSigns_winner (a : Addr) : (s.display a).winner = darkAspect a := by
  obtain ⟨x, hx⟩ := h a
  rw [hx]
  exact (reset_dark a).1

theorem freshSigns_form (a : Addr) :
    ((s.display a).form, (s.display a).limited) = (s.mod a).form (s.display a).winner := by
  rw [freshSigns_winner h, form_dark, ← (reset_dark a).2]
  obtain ⟨x, hx⟩ := h a
  rw [hx]

theorem freshSigns_row (a : Addr) : (s.display a).row = (Asa.reset.modules.get a).row := by
  obtain ⟨x, hx⟩ := h a
  rw [hx]

theorem freshSigns_sorted : s.asa.rowsSorted := fun a => by
  show RowSorted (s.display a).row
  rw [freshSigns_row h]
  exact reset_rowsSorted a

end

/-! ### The orphans placed (R132) -/

/-- R132: the red cross of an orphan lane. -/
def orphanCross (l : Lane) : Request := ⟨.closed, .orphan l, .redX⟩

/-- R139: the request that stands at every lane. -/
def defaultRequest : Request := ⟨.default, .default, .blank⟩

/-- R132: the orphans' red crosses placed, the event not yet settled. -/
def State.seeded (s : State) : State :=
  State.placeAll { s with clt := { s.clt with orphans := s.litRed } } (s.litRed.map fun l => (laneAddr l, orphanCross l))

theorem seedOrphans_seeded (s : State) : s.seedOrphans = s.seeded.settle := seedOrphans_eq s

theorem seeded_rows (s : State) : SameButRows { s with clt := { s.clt with orphans := s.litRed } } s.seeded := placeAll_rows ..

theorem mem_seeds {ls : List Lane} : (a, q) ∈ ls.map (fun l => (laneAddr l, orphanCross l)) ↔
    ∃ k ∈ ls, a = laneAddr k ∧ q = orphanCross k := by
  simp only [List.mem_map, Prod.mk.injEq, eq_comm]

theorem seeds_slotsApart (ls : List Lane) : SlotsApart (ls.map fun l => (laneAddr l, orphanCross l)) := by
  rintro x hx y hy hxy - -
  obtain ⟨k, -, rfl⟩ := List.mem_map.1 hx
  obtain ⟨k', -, rfl⟩ := List.mem_map.1 hy
  rw [laneAddr_inj hxy]

theorem mem_seeded_row (h : s.freshSigns) : q ∈ (s.seeded.display (laneAddr l)).row ↔
    q = defaultRequest ∨ (l ∈ s.litRed ∧ q = orphanCross l) := by
  have hrow : (s.display (laneAddr l)).row = [defaultRequest] := by rw [freshSigns_row h, reset_lane]; rfl
  have hmem : (laneAddr l, q) ∈ s.litRed.map (fun l => (laneAddr l, orphanCross l)) ↔ l ∈ s.litRed ∧ q = orphanCross l := by
    rw [mem_seeds]
    constructor
    · rintro ⟨k, hk, ha, hq⟩
      obtain rfl := laneAddr_inj ha
      exact ⟨hk, hq⟩
    · rintro ⟨hk, hq⟩
      exact ⟨l, hk, rfl, hq⟩
  unfold State.seeded
  rw [mem_placeAll_row (seeds_slotsApart _), hmem, or_comm]
  show q ∈ (s.display (laneAddr l)).row ∧ _ ∨ _ ↔ _
  rw [hrow, List.mem_singleton]
  refine or_congr_left (and_iff_left_of_imp ?_)
  rintro rfl x hx - ⟨hlevel, -⟩
  obtain ⟨k, -, rfl⟩ := List.mem_map.1 hx
  cases hlevel

theorem seeded_sorted (h : s.freshSigns) : s.seeded.asa.rowsSorted :=
  asaKept_rowsSorted.work.placeAll (s := { s with clt := { s.clt with orphans := s.litRed } }) _ (freshSigns_sorted h)

theorem seeded_base (h : s.freshSigns) :
    rowBaseWinner (s.seeded.display (laneAddr l)).row = if l ∈ s.litRed then .redX else .blank := by
  have hsorted : RowSorted (s.seeded.display (laneAddr l)).row := seeded_sorted h _
  obtain ⟨w, hw, -, hwin, hleast⟩ := rowBaseWinner_spec (q := defaultRequest) hsorted
    ((mem_seeded_row h).2 (.inl rfl)) (by decide)
  rw [hwin]
  split
  case isTrue hl =>
    have hfirst := hleast _ ((mem_seeded_row h).2 (.inr ⟨hl, rfl⟩)) (by simp [orphanCross])
    rcases (mem_seeded_row h).1 hw with rfl | ⟨-, rfl⟩
    · exact absurd hfirst (by simp [defaultRequest, orphanCross, Level.order])
    · rfl
  case isFalse hl =>
    rcases (mem_seeded_row h).1 hw with rfl | ⟨hk, -⟩
    · rfl
    · exact absurd hk hl

theorem seedOrphans_winner (h : s.freshSigns) (hl : l.val < s.lanes) :
    (s.seedOrphans.display (laneAddr l)).winner = if l ∈ s.litRed then .redX else .blank := by
  have hlanes : l.val < s.seeded.lanes := by
    unfold State.lanes
    rw [(seeded_rows s).same.stu]
    exact hl
  have hbase := seeded_base (l := l) h
  rw [seedOrphans_seeded, settle_winner_of_base hlanes (by rw [hbase]; split <;> rfl), hbase]

/-! ### The Speed Computer's requests beside the orphans' (R87, R88) -/

theorem aspect_of_limit {v : Limit} {y : Aspect} (h : v.aspect = some y) : y.isArrow = false ∧ y ≠ .redX := by
  cases v <;> cases h <;> decide

/-- What the Speed Computer can have placed at a lane. -/
theorem setRequests_lane_mem (h : q ∈ (s.setRequests.display (laneAddr l)).row) :
    q ∈ (s.display (laneAddr l)).row ∨ (∃ y, s.spc.target.aspect = some y ∧ q = ⟨.speed, .spc, y⟩) ∨
      q = ⟨.endSign, .spc, .endSign⟩ := by
  have hne := laneAddr_ne_legendAddr l
  unfold State.setRequests State.setLegends at h
  rw [mem_setSpc_row, mem_setSpc_row] at h
  simp only [hne, false_and, false_or, not_false_eq_true, and_true] at h
  unfold State.setEnd at h
  rw [mem_foldl_setSpc_row] at h
  rcases h with ⟨-, y, hy, rfl⟩ | ⟨h, -⟩
  · split at hy <;> cases hy
    exact .inr (.inr rfl)
  · unfold State.setSpeed at h
    rw [mem_foldl_setSpc_row] at h
    rcases h with ⟨-, y, hy, rfl⟩ | ⟨h, -⟩
    · exact .inr (.inl ⟨y, hy, rfl⟩)
    · exact .inl h

theorem setRequests_sorted (h : s.asa.rowsSorted) : s.setRequests.asa.rowsSorted := by
  have hset : ∀ {t : State} (a : Addr) (lv : Level) (x : Option Aspect), lv ≠ .closed → t.asa.rowsSorted →
      (t.setSpc a lv x).asa.rowsSorted := fun a lv x hlv => asaKept_rowsSorted.sign (.setSpc _ a lv x hlv)
  have hfold : ∀ (ls : List Lane) (lv : Level) (x : Option Aspect), lv ≠ .closed → ∀ t : State, t.asa.rowsSorted →
      (ls.foldl (fun t l => t.setSpc (laneAddr l) lv x) t).asa.rowsSorted := fun ls lv x hlv t ht =>
    foldl_keeps (fun t u : State => t.asa.rowsSorted → u.asa.rowsSorted) (fun _ => id) (fun _ _ _ f g => g ∘ f) _
      (fun _ _ => hset _ lv x hlv) ls t ht
  exact hset _ _ _ (by decide) (hset _ _ _ (by decide) (hfold _ _ _ (by decide) _ (hfold _ _ _ (by decide) _ h)))

/-- A review of the requests shows a red cross at the orphans alone. -/
theorem reviewRequests_red {p : Prop} (hsorted : s.asa.rowsSorted) (hl : l.val < s.lanes)
    (hrow : ∀ q, q.source ≠ .enclosed →
      (q ∈ (s.display (laneAddr l)).row ↔ q = defaultRequest ∨ (p ∧ q = orphanCross l))) :
    (s.reviewRequests.display (laneAddr l)).winner = .redX ↔ p := by
  have hkept : ∀ q : Request, q.source ≠ .spc → q ∈ (s.display (laneAddr l)).row → q ∈ (s.setRequests.display (laneAddr l)).row :=
    fun q hq h => (mem_setRequests_row hq _).2 h
  have hdefault := hkept defaultRequest (by decide) ((hrow defaultRequest (by decide)).2 (.inl rfl))
  have hreviewed : RowSorted (s.setRequests.display (laneAddr l)).row := setRequests_sorted hsorted _
  obtain ⟨w, hw, hwe, hwin, hleast⟩ := rowBaseWinner_spec hreviewed hdefault (by decide)
  have hcross : p → orphanCross l ∈ (s.setRequests.display (laneAddr l)).row := fun hp =>
    hkept (orphanCross l) (by simp [orphanCross]) ((hrow (orphanCross l) (by simp [orphanCross])).2 (.inr ⟨hp, rfl⟩))
  have hfirst : p → w.level.order = 0 := fun hp => Nat.le_zero.1 (hleast _ (hcross hp) (by simp [orphanCross]))
  have haspect : w.aspect.isArrow = false ∧ (w.aspect = .redX ↔ p) := by
    rcases setRequests_lane_mem hw with h | ⟨y, hy, rfl⟩ | rfl
    · rcases (hrow w hwe).1 h with rfl | ⟨hp, rfl⟩
      · exact ⟨rfl, nofun, fun hp => absurd (hfirst hp) (by decide)⟩
      · exact ⟨rfl, fun _ => hp, fun _ => rfl⟩
    · exact ⟨(aspect_of_limit hy).1, fun h => absurd h (aspect_of_limit hy).2,
        fun hp => absurd (hfirst hp) (by simp [Level.order])⟩
    · exact ⟨rfl, nofun, fun hp => absurd (hfirst hp) (by decide)⟩
  have hlanes : l.val < s.setRequests.lanes := by
    unfold State.lanes
    rw [(setRequests_rows s).same.stu]
    exact hl
  rw [reviewRequests_eq, settle_winner_of_base hlanes (by rw [hwin]; exact haspect.1), hwin]
  exact haspect.2

end Sys2Proof.Machine
end

section
/-! O51: the end of a keep restart's discovery (R93, R132, R154, R181). -/

namespace Sys2Proof.Machine

variable {s t : State} {a : Addr} {l : Lane} {q : Request}

/-! ### What the seeding leaves -/

theorem seedOrphans_clt (s : State) : s.seedOrphans.clt = { s.clt with orphans := s.litRed } := by
  rw [seedOrphans_seeded, settle_clt, (seeded_rows s).same.clt]

theorem seedOrphans_spc (s : State) : s.seedOrphans.spc = s.spc := by
  rw [seedOrphans_seeded, (settle_same _).spc, (seeded_rows s).same.spc]

theorem seedOrphans_slc (s : State) : s.seedOrphans.slc = s.slc := by
  rw [seedOrphans_seeded, (settle_same _).slc, (seeded_rows s).same.slc]

theorem seedOrphans_stu (s : State) : s.seedOrphans.stu = s.stu := by
  rw [seedOrphans_seeded, (settle_same _).stu, (seeded_rows s).same.stu]

theorem seedOrphans_mod (s : State) (a : Addr) : s.seedOrphans.mod a = s.mod a := by
  unfold State.mod
  rw [seedOrphans_slc]

theorem seedOrphans_lanes (s : State) : s.seedOrphans.lanes = s.lanes := by
  unfold State.lanes
  rw [seedOrphans_stu]

theorem seedOrphans_sameBut (s : State) : s.sameBut [.clt, .msu, .asa] s.seedOrphans := by
  have hstart : s.sameBut [.clt] { s with clt := { s.clt with orphans := s.litRed } } := by simp [State.sameBut]
  have hrows : State.sameBut _ [.msu, .asa] s.seeded := (seeded_rows s).same.sameBut
  have hsettle : s.seeded.sameBut [.msu, .asa] s.seeded.settle := (settle_same _).sameBut
  rw [seedOrphans_seeded]
  exact (hstart.mono (by simp)).trans ((hrows.mono (by simp)).trans (hsettle.mono (by simp)))

theorem seedOrphans_nextSeq (s : State) : s.seedOrphans.msu.nextSeq = s.msu.nextSeq := by
  rw [seedOrphans_seeded, settle_msu_lanes, (seeded_rows s).msu]

/-! ### What the entry to JOIN reads of the displays -/

theorem started_asa (s : State) : s.started.asa = s.asa := rfl

theorem started_mod (s : State) (a : Addr) : s.started.mod a = s.mod a := rfl

theorem started_lanes (s : State) : s.started.lanes = s.lanes := rfl

theorem started_display (s : State) (a : Addr) : s.started.display a = s.display a := rfl

theorem enterJoin_mod (s : State) (a : Addr) : s.enterJoin.mod a = s.mod a := by
  unfold State.mod
  rw [(enterJoin_same s).slc]
  rfl

/-- The requests of the Speed Computer change rows alone. -/
theorem started_requests (s : State) (a : Addr) : s.started.setRequests.mod a = s.mod a ∧
    s.started.setRequests.lanes = s.lanes ∧
      ∃ row, s.started.setRequests.display a = { s.display a with row := row } := by
  have hrows := setRequests_rows s.started
  refine ⟨?_, ?_, _, hrows.display a⟩
  · unfold State.mod
    rw [hrows.same.slc]
    rfl
  · unfold State.lanes
    rw [hrows.same.stu]
    rfl

theorem placeAll_display_other {reqs : List (Addr × Request)} (h : ∀ x ∈ reqs, x.1 ≠ a) :
    (s.placeAll reqs).display a = s.display a := by
  induction reqs generalizing s with
  | nil => rfl
  | cons x rest ih =>
    have hcons : s.placeAll (x :: rest) = (s.place x.1 x.2).placeAll rest := rfl
    rw [hcons, ih fun y hy => h y (List.mem_cons_of_mem _ hy), place_display, if_neg fun g => h x List.mem_cons_self g.symm]

theorem moduleAddrs_congr (h : t.lanes = s.lanes) : t.moduleAddrs = s.moduleAddrs := by
  unfold State.moduleAddrs
  rw [lanesInUse_congr h]

theorem darkAspect_lane (l : Lane) : darkAspect (laneAddr l) = .blank := by
  revert l
  decide

section
variable (h : s.freshSigns)
include h

theorem seedOrphans_sorted : s.seedOrphans.asa.rowsSorted :=
  reflTransGen_keeps (R := JoinAct) (P := fun s => s.asa.rowsSorted) (fun _ _ => asaKept_rowsSorted.joinAct)
    (seedOrphans_run s) (freshSigns_sorted h)

theorem mem_seedOrphans_row (hq : q.source ≠ .enclosed) : q ∈ (s.seedOrphans.display (laneAddr l)).row ↔
    q = defaultRequest ∨ (l ∈ s.litRed ∧ q = orphanCross l) := by
  rw [seedOrphans_seeded, mem_settle_row (.inr hq), mem_seeded_row h]

/-- R132: at the entry to JOIN the orphan lanes alone show a red cross. -/
theorem enterJoin_red (hl : l.val < s.lanes) :
    (s.seedOrphans.enterJoin.display (laneAddr l)).winner = .redX ↔ l ∈ s.litRed := by
  rw [enterJoin_eq]
  refine reviewRequests_red (s := s.seedOrphans.started) ?_ ?_ fun q hq => ?_
  · rw [started_asa]
    exact seedOrphans_sorted h
  · rw [started_lanes, seedOrphans_lanes]
    exact hl
  · rw [started_display]
    exact mem_seedOrphans_row h hq

/-- The winners at the end of discovery are dark, but for the orphan lanes'. -/
theorem seedOrphans_lit (ha : a ∈ s.moduleAddrs) (hlit : (s.seedOrphans.display a).winner ≠ darkAspect a) :
    ∃ l, a = laneAddr l ∧ l.val < s.lanes ∧ l ∈ s.litRed := by
  have hlegend : rowWinner (s.seeded.display legendAddr).row = .blank := by
    have hother : s.seeded.display legendAddr = s.display legendAddr := placeAll_display_other fun x hx => by
      obtain ⟨k, -, rfl⟩ := List.mem_map.1 hx
      exact laneAddr_ne_legendAddr k
    rw [hother, freshSigns_row h]
    rfl
  rcases List.mem_append.1 ha with hin | hin
  · obtain ⟨l, hl, rfl⟩ := List.mem_map.1 hin
    have hval : l.val < s.lanes := (mem_lanesInUse_iff s l).1 hl
    refine ⟨l, rfl, hval, not_not.1 fun hnot => hlit ?_⟩
    rw [seedOrphans_winner h hval, if_neg hnot, darkAspect_lane]
  · have hcases : a = lanternAddr ∨ a = legendAddr := by simpa using hin
    refine absurd ?_ hlit
    obtain ⟨x, hx⟩ := settle_display s.seeded a
    rw [seedOrphans_seeded, hx]
    rcases hcases with rfl | rfl
    · show lanternWinner (rowWinner (s.seeded.display legendAddr).row) = _
      rw [hlegend]
      rfl
    · exact hlegend

/-- R146, R154: a READY module's order at the entry to JOIN. -/
theorem enterJoin_litOrdered (ha : a ∈ s.moduleAddrs) (hr : (s.mod a).state = .ready)
    (hordered : (s.display a).ordered = (s.mod a).proven.getD (darkAspect a)) : LitOrdered s.seedOrphans.enterJoin a := by
  have hstart : LitOrdered s a := ⟨freshSigns_form h a, by rw [if_pos (freshSigns_winner h a)]; exact hordered⟩
  have hrows := seeded_rows s
  have hslc : s.seeded.slc = s.slc := hrows.same.slc
  have hmod : s.seeded.mod a = s.mod a := by unfold State.mod; rw [hslc]
  have hlanes : s.seeded.lanes = s.lanes := by unfold State.lanes; rw [hrows.same.stu]
  have hseeded : LitOrdered s.seeded a := hstart.congr hmod ⟨_, hrows.display a⟩
  have hdark : (s.seeded.display a).winner = darkAspect a := by
    rw [hrows.display a]
    exact freshSigns_winner h a
  have hseed : LitOrdered s.seedOrphans a := by
    rw [seedOrphans_seeded]
    exact hseeded.settle (by rw [moduleAddrs_congr hlanes]; exact ha) (by rw [hmod]; exact hr) fun hne => absurd hdark hne
  obtain ⟨hrmod, hrlanes, row, hrow⟩ := started_requests s.seedOrphans a
  rw [seedOrphans_lanes] at hrlanes
  have hreviewed : LitOrdered s.seedOrphans.started.setRequests a := hseed.congr hrmod ⟨row, hrow⟩
  have hwinner : (s.seedOrphans.started.setRequests.display a).winner = (s.seedOrphans.display a).winner :=
    (congrArg Display.winner hrow :)
  rw [enterJoin_eq, reviewRequests_eq]
  refine hreviewed.settle (by rw [moduleAddrs_congr hrlanes]; exact ha) (by rw [hrmod, seedOrphans_mod]; exact hr) fun hne => ?_
  rw [hwinner] at hne
  obtain ⟨l, rfl, hl, hred⟩ := seedOrphans_lit h ha hne
  have hshown := (enterJoin_red h hl).2 hred
  rw [enterJoin_eq, reviewRequests_eq] at hshown
  rw [hshown]
  unfold darkAspect
  split <;> decide

end

/-- R154: a FAILED module stays ordered dark. -/
theorem settle_ordered_failed (hf : (s.mod a).state = .failed) : (s.settle.display a).ordered = (s.display a).ordered :=
  (settle_orderKept hf).1

theorem enterJoin_ordered_failed (hf : (s.mod a).state = .failed) :
    (s.seedOrphans.enterJoin.display a).ordered = (s.display a).ordered := by
  have hrows := seeded_rows s
  have hmod : s.seeded.mod a = s.mod a := by unfold State.mod; rw [hrows.same.slc]
  obtain ⟨hrmod, -, row, hrow⟩ := started_requests s.seedOrphans a
  rw [seedOrphans_mod] at hrmod
  have hreviewed : (s.seedOrphans.started.setRequests.display a).ordered = (s.seedOrphans.display a).ordered :=
    (congrArg Display.ordered hrow :)
  have hseeded : (s.seeded.display a).ordered = (s.display a).ordered := (congrArg Display.ordered (hrows.display a) :)
  rw [enterJoin_eq, reviewRequests_eq, settle_ordered_failed (by rw [hrmod]; exact hf), hreviewed, seedOrphans_seeded,
    settle_ordered_failed (by rw [hmod]; exact hf), hseeded]

/-! ### Window 0 (R20, R25) -/

theorem afterTxn_lane_of_none (hbus : s.onBus = true) (h : s.clt.records = [])
    (hred : (s.afterTxn.display (laneAddr l)).winner ≠ .redX) : s.afterTxn.lane l = s.lane l := by
  rw [afterTxn_eq_of_none hbus h, drive_display] at hred
  rw [afterTxn_eq_of_none hbus h, drive_lane, settle_lane_of_not_red hred]
  rfl

theorem joined_lane_of_not_red (h : s.clt.records = []) (hred : (s.enterJoin.display (laneAddr l)).winner ≠ .redX) :
    s.joined.lane l = s.opened.lane l := by
  have hshown : (s.joined.display (laneAddr l)).winner ≠ .redX := by
    rw [(joined_shown h (laneAddr l)).2.1]
    exact hred
  rw [State.joined] at hshown ⊢
  rw [afterTxn_lane_of_none (enterJoin_onBus s) (enterJoin_noRecords h) hshown, drive_lane]
  rw [enterJoin_eq] at hred ⊢
  rw [reviewRequests_lane, if_neg fun g => hred g.1]
  rfl

/-- R20, R25, R132: window 0 of a lane in use is CLOSED exactly at an orphan. -/
theorem joined_closedSeen (h : s.freshSigns) (hnone : s.clt.records = []) (hl : l.val < s.lanes) :
    ∃ w, (s.seedOrphans.joined.lane l).window = some w ∧ w.seq = s.msu.nextSeq ∧ w.startSeen = true ∧
      (w.closedSeen = true ↔ l ∈ s.litRed) := by
  have hlanes : l.val < s.seedOrphans.lanes := by rw [seedOrphans_lanes]; exact hl
  have hrecords : s.seedOrphans.clt.records = [] := by rw [seedOrphans_clt]; exact hnone
  have hopened := opened_lane hlanes
  rw [seedOrphans_winner h hl, seedOrphans_nextSeq] at hopened
  by_cases hred : l ∈ s.litRed
  · rw [if_pos hred] at hopened
    rcases (joined_noted s.seedOrphans).lane l with hlane | hlane <;> rw [hlane, hopened] <;>
      exact ⟨_, rfl, rfl, rfl, fun _ => hred, fun _ => rfl⟩
  · rw [if_neg hred] at hopened
    rw [joined_lane_of_not_red hrecords (mt (enterJoin_red h hl).1 hred), hopened]
    exact ⟨_, rfl, rfl, rfl, nofun, fun hin => absurd hin hred⟩

/-! ### The end of discovery -/

/-- R181: the last found module's entry is made, T and the orphans are taken from what is lit. -/
def State.keepEnd (s : State) (a : Addr) (m : Module) : State := (s.discovered a m).takeLitTarget

section
variable (m : Module)

theorem keepEnd_mod (b : Addr) : (s.keepEnd a m).mod b = if b = a then m else s.mod b := discovered_mod ..

theorem keepEnd_display (b : Addr) : (s.keepEnd a m).display b = { s.display b with
    ordered :=
      if ((s.keepEnd a m).mod b).state = .ready then ((s.keepEnd a m).mod b).proven.getD (darkAspect b) else darkAspect b } :=
  Per8.get_build ..

theorem keepEnd_freshSigns (h : s.asa = Asa.reset) : (s.keepEnd a m).freshSigns := fun b => by
  rw [keepEnd_display, ← h]
  exact ⟨_, rfl⟩

theorem keepEnd_ordered (b : Addr) : ((s.keepEnd a m).display b).ordered =
    if ((s.keepEnd a m).mod b).state = .ready then ((s.keepEnd a m).mod b).proven.getD (darkAspect b) else darkAspect b := by
  rw [keepEnd_display]

theorem keepEnd_target : (s.keepEnd a m).spc.target = leastLimit (s.keepEnd a m).provenSpeeds := rfl

end

end Sys2Proof.Machine
end

section
/-! O51 assembled: discovery ends in JOIN. -/

namespace Sys2Proof.Machine

variable {s : State} {a : Addr} {m : Module} {l : Lane}

/-! ### The last PROOF of a keep restart (R93, R132, R154, R181) -/

/-- The state that discovery's last PROOF leaves. -/
def State.keepJoined (s : State) (a : Addr) (m : Module) : State := (s.txnOver.keepEnd a m).seedOrphans.joined

theorem keepEnd_sameBut (s : State) (a : Addr) (m : Module) : s.sameBut [.spc, .asa, .slc] (s.keepEnd a m) := by
  simp [State.sameBut, State.keepEnd, State.takeLitTarget, State.discovered, State.takeOrdered, State.setMod]

theorem keepJoined_sameBut (s : State) (a : Addr) (m : Module) :
    s.sameBut [.stu, .msu, .crl, .spc, .clt, .asa, .slc] (s.keepJoined a m) :=
  (((txnOver_sameBut s).mono (by simp)).trans ((keepEnd_sameBut s.txnOver a m).mono (by simp))).trans
    (((seedOrphans_sameBut _).mono (by simp)).trans ((joined_sameBut _).mono (by simp)))

theorem keepJoined_stu (s : State) (a : Addr) (m : Module) : (s.keepJoined a m).stu =
    { s.stu with station := .join, joinTimer := some 5000, runLit := false, faultLit := (s.keepJoined a m).stu.faultLit } := by
  have h := joined_stu (s.txnOver.keepEnd a m).seedOrphans
  rw [seedOrphans_stu] at h
  exact h

theorem keepJoined_crl (s : State) (a : Addr) (m : Module) :
    (s.keepJoined a m).crl = { s.crl with beatTimer := some (s.position * 37 % 1000), announceOwed := true } := by
  have hcrl : (s.txnOver.keepEnd a m).seedOrphans.crl = s.crl := by
    rw [seedOrphans_seeded, (settle_same _).crl, (seeded_rows _).same.crl]
    rfl
  have hposition : (s.txnOver.keepEnd a m).seedOrphans.position = s.position := by
    unfold State.position
    rw [seedOrphans_stu]
    rfl
  rw [State.keepJoined, joined_crl, hcrl, hposition]

theorem keepJoined_slc (s : State) (a : Addr) (m : Module) : (s.keepJoined a m).slc =
    { s.slc with transaction := none, modules := s.slc.modules.set a m, discovery := none } := by
  rw [State.keepJoined, joined_slc, seedOrphans_slc]
  rfl

theorem keepJoined_mod (b : Addr) : (s.keepJoined a m).mod b = (s.txnOver.keepEnd a m).mod b := by
  unfold State.mod
  rw [keepJoined_slc]
  rfl

section
variable (hclt : s.clt = Clt.reset)
include hclt

theorem keepEnd_noRecords : (s.txnOver.keepEnd a m).clt.records = [] := by
  show s.clt.records = []
  rw [hclt]
  rfl

theorem keepSeeded_noRecords : (s.txnOver.keepEnd a m).seedOrphans.clt.records = [] := by
  rw [seedOrphans_clt]
  exact keepEnd_noRecords hclt

theorem keepJoined_clt : (s.keepJoined a m).clt = { Clt.reset with orphans := (s.txnOver.keepEnd a m).litRed } := by
  rw [State.keepJoined, joined_clt (keepSeeded_noRecords hclt), seedOrphans_clt, ← hclt]
  rfl

theorem keepJoined_target : (s.keepJoined a m).spc.target = leastLimit (s.txnOver.keepEnd a m).provenSpeeds := by
  rw [State.keepJoined, (joined_spc (keepSeeded_noRecords hclt)).1, seedOrphans_spc, keepEnd_target]

/-- R93: T at the end of discovery. -/
theorem keepJoined_target_spec (hown : s.slc.link = .owned) :
    (∀ l ∈ s.lanesInUse, ∀ y v, ((s.keepJoined a m).mod (laneAddr l)).state = .ready →
      ((s.keepJoined a m).mod (laneAddr l)).proven = some y → y.speed = some v → (s.keepJoined a m).spc.target.num ≤ v.num) ∧
    ((s.keepJoined a m).spc.target = .unlimited ∨ ∃ l ∈ s.lanesInUse, ∃ y, ((s.keepJoined a m).mod (laneAddr l)).state = .ready ∧
      ((s.keepJoined a m).mod (laneAddr l)).proven = some y ∧ y.speed = some (s.keepJoined a m).spc.target) := by
  have hlink : (s.txnOver.keepEnd a m).slc.link ≠ .held := by
    show s.slc.link ≠ .held
    rw [hown]
    decide
  rw [keepJoined_target hclt]
  simp only [keepJoined_mod]
  refine ⟨fun l hl y v hr hp hv => leastLimit_num_le (mem_provenSpeeds.2 ⟨hlink, l, hl, y, hr, hp, hv⟩), ?_⟩
  by_cases hnil : (s.txnOver.keepEnd a m).provenSpeeds = []
  · exact .inl (by rw [hnil, leastLimit_nil])
  · exact .inr (mem_provenSpeeds.1 (leastLimit_mem hnil)).2

theorem mem_keepJoined_orphans : l ∈ (s.keepJoined a m).clt.orphans ↔ l ∈ (s.txnOver.keepEnd a m).litRed := by
  rw [keepJoined_clt hclt]

variable (hasa : s.asa = Asa.reset)
include hasa

/-- R132: an orphan lane has its red cross. -/
theorem keepJoined_orphan (hl : l ∈ (s.keepJoined a m).clt.orphans) :
    orphanCross l ∈ ((s.keepJoined a m).display (laneAddr l)).row ∧
      ((s.keepJoined a m).display (laneAddr l)).winner = .redX := by
  have hfresh := keepEnd_freshSigns (s := s.txnOver) (a := a) m hasa
  have hred := (mem_keepJoined_orphans hclt).1 hl
  have hval : l.val < (s.txnOver.keepEnd a m).lanes := (mem_lanesInUse_iff _ l).1 (List.mem_filter.1 hred).1
  have hnone := keepSeeded_noRecords (a := a) (m := m) hclt
  have hspc : (orphanCross l).source ≠ .spc := by simp [orphanCross]
  have henc : (orphanCross l).source ≠ .enclosed := by simp [orphanCross]
  unfold State.keepJoined
  rw [mem_joined_row hnone (.inr henc), mem_setRequests_row hspc, started_display, mem_seedOrphans_row hfresh henc,
    (joined_shown hnone (laneAddr l)).2.1, enterJoin_red hfresh hval]
  exact ⟨.inr ⟨hred, rfl⟩, hred⟩

theorem keepJoined_window (hl : l ∈ s.lanesInUse) : ∃ w, ((s.keepJoined a m).lane l).window = some w ∧
    w.seq = s.msu.nextSeq ∧ w.startSeen = true ∧ (w.closedSeen = true ↔ l ∈ (s.keepJoined a m).clt.orphans) := by
  rw [mem_keepJoined_orphans hclt]
  exact joined_closedSeen (keepEnd_freshSigns (s := s.txnOver) (a := a) m hasa) (keepEnd_noRecords hclt)
    ((mem_lanesInUse_iff s l).1 hl)

/-- R154, R146: what is ordered at the end of discovery. -/
theorem keepJoined_orders {b : Addr} (hb : b ∈ s.moduleAddrs) :
    (((s.keepJoined a m).mod b).state = .failed → ((s.keepJoined a m).display b).ordered = darkAspect b) ∧
      (((s.keepJoined a m).mod b).state = .ready → ((s.keepJoined a m).display b).ordered =
        if ((s.keepJoined a m).display b).winner = darkAspect b then ((s.keepJoined a m).mod b).proven.getD (darkAspect b)
        else ((s.keepJoined a m).display b).form) := by
  have hfresh := keepEnd_freshSigns (s := s.txnOver) (a := a) m hasa
  have hordered := keepEnd_ordered (s := s.txnOver) (a := a) m b
  obtain ⟨hshown, hwinner, hform⟩ := joined_shown (keepSeeded_noRecords (a := a) (m := m) hclt) b
  rw [keepJoined_mod]
  unfold State.keepJoined
  rw [hshown, hwinner, hform]
  refine ⟨fun hf => ?_, fun hr => ?_⟩
  · rw [enterJoin_ordered_failed hf, hordered, if_neg (by rw [hf]; decide)]
  · have hlit := (enterJoin_litOrdered hfresh hb hr (by rw [hordered, if_pos hr])).ordered
    rw [enterJoin_mod, seedOrphans_mod] at hlit
    exact hlit

end

/-- Settles O51. -/
theorem discoveryEndsInJoin : Obligations.DiscoveryEndsInJoin := by
  refine ⟨fun s a r d ht _ hcold hd hi hact => coldDiscovery_ends s a r d ht hcold hd hi hact,
    fun s a b rest r x tag d ht hs hd hi hact => discoveryProof_replies s a b rest r x tag d ht hs hd hi hact,
    fun s a r x tag d ht _ hkeep hown hd hi hact ha hasa hclt _ _ => ?_⟩
  let m := { s.mod a with discoveryLit := some x }.steady ⟨x, false, .ok, tag⟩
  have hstu := keepJoined_stu s a m
  have hslc := keepJoined_slc s a m
  have hmod : ∀ b, (s.keepJoined a m).mod b = if b = a then m else s.mod b := fun b =>
    (keepJoined_mod b).trans (keepEnd_mod m b)
  obtain ⟨hleast, hattained⟩ := keepJoined_target_spec (a := a) (m := m) hclt hown
  refine ⟨s.keepJoined a m, exec_lastProof ht hkeep hd hi hact, keepJoined_sameBut s a m, by rw [hstu], by rw [hstu],
    by rw [hstu]; exact hkeep, keepJoined_crl s a m, by rw [hslc], by rw [hslc], fun c hc => (hmod c).trans (if_neg hc),
    (hmod a).trans (if_pos rfl), hleast, hattained, ?_, fun l hl => keepJoined_orphan hclt hasa hl,
    fun l hl => keepJoined_window hclt hasa hl, fun b hb => keepJoined_orders hclt hasa hb⟩
  rw [keepJoined_clt hclt]
  simp only [keepJoined_mod]
  refine congrArg (fun os => { Clt.reset with orphans := os }) (List.filter_congr fun l _ => ?_)
  exact beq_eq_decide ..

end Sys2Proof.Machine
end
